-- ==== Sys2Proof/Word.lean ====
section
/-! DEFINITION. Word types of the controller: bytes, 16-bit counters that saturate, 32-bit stamps. -/

namespace Sys2Proof

/-- One byte of a frame. -/
abbrev Byte := BitVec 8

/-- A two-byte field or a 16-bit counter. -/
abbrev Half := BitVec 16

/-- A stamp or the clock of the lease: an unsigned 32-bit count (R35). -/
abbrev Stamp := BitVec 32

end Sys2Proof
end

