-- ==== Sys2Proof/Config.lean ====
section
/-! DEFINITION. What the controller fixes for good (times, capacities), and the free values: orders and one content that the manual leaves open. -/

namespace Sys2Proof.Config

/-- One scan, 100 ms, in microseconds (R156). -/
def scanUs : Nat := 100000
/-- One second in microseconds, the unit of every timer (log entry 3). -/
def secUs : Nat := 1000000
/-- One hour in microseconds. -/
def hourUs : Nat := 3600 * secUs
/-- Quiet before sending, 96 bit times of 4 µs (R7). -/
def quietUs : Nat := 384
/-- One backoff slot, 64 bit times (R8). -/
def backoffSlotUs : Nat := 256
/-- Jabber limit, 8 ms of continuous drive (R10). -/
def jabberUs : Nat := 8000
/-- Attempts after which a collided frame is dropped (R8). -/
def maxAttempts : Nat := 12
/-- Places of the report FIFO (R14). -/
def fifoPlaces : Nat := 4
/-- Age at which a silent roster entry becomes LOST, 8 s (R23). -/
def beaconAgeUs : Nat := 8 * secUs
/-- The ask timer, 5 s (R48). -/
def askUs : Nat := 5 * secUs
/-- The re-ask delay, 20 s (R50). -/
def reaskUs : Nat := 20 * secUs
/-- The lease hold limit, 90 min (R59). -/
def holdUs : Nat := 90 * 60 * secUs
/-- The start listen, 3 s (R186). -/
def listenUs : Nat := 3 * secUs
/-- A long STOP, 5 s (R68). -/
def longStopUs : Nat := 5 * secUs
/-- The seating stroke, 5 s (R117, R150). -/
def seatingUs : Nat := 5 * secUs
/-- The settle, 60 s (R133, R150). -/
def settleUs : Nat := 60 * secUs
/-- Jack pressure below which an unload ends, kPa (R118). -/
def unloadedKPa : Int := 500
/-- Write jobs the append queue holds (R180). -/
def queuePlaces : Nat := 4
/-- Points a slot holds at most (R178). -/
def maxPoints : Nat := 24
/-- Top-up entries a slot holds at most, and top-ups made under one binding (R153, R179). -/
def maxTopUps : Nat := 3
/-- The highest clock value; a request that meets it latches STAMP_END (R37). -/
def lastStamp : Stamp := 4294967295#32
/-- Seconds of the step hold at which the ten readings of a proof hold fall due (R126). -/
def proofSchedule : List Nat := [60, 120, 180, 300, 600, 900, 1200, 1800, 2700, 3600]

/-- FREE VALUE (R141, log entry 7): when a STOP in STRESSING clears the last latch while a request waits
with HELD, whether the release is taken before the STOP is handed on. Applied to a counter of the state. -/
opaque stopClearsFirst : Nat → Bool

/-- FREE VALUE (R141, R154, R170, log entry 8): when a latch falls due at the scan that also completes
something, whether the latch is taken first. Applied to a counter of the state. -/
opaque latchFirst : Nat → Bool

/-- FREE VALUE (R154, log entry 31): when a retry opens a slot while the recovery time has reached the
deglitch time, whether the recovery is taken first. Applied to a counter of the state. -/
opaque recoveryFirst : Nat → Bool

/-- FREE VALUE (R183, log entry 32): the content of the answer to a RECORD query for a part above 3 of a
test slot. Applied to a counter of the state. -/
opaque unstatedPart : Nat → List Byte

end Sys2Proof.Config
end

