-- ==== Sys2Proof/Syntax.lean ====
section
/-! DEFINITION. The commands of the controller: one constructor for each row of spec/opcode_table.json, with its operands (log entry 6). -/

namespace Sys2Proof

/-- The eight scan channels, in the order of the scan (R156). -/
inductive Channel where
  | jp | ext | lc | gp | gf | hp | wp | ro
deriving DecidableEq, Repr

/-- The payload of a received BEACON, each code field as the byte it came in (13_frame_formats.md, R197). -/
structure BeaconIn where
  phase  : Byte
  sub    : Byte
  flags  : Byte
  lease  : Byte
  cls    : Byte
  stamp  : Stamp
  clock  : Stamp
  load   : Half
  wall   : Half
  roster : List Byte
deriving DecidableEq, Repr

/-- One entry of a received REPLY. -/
structure ReplyIn where
  target  : Byte
  stamp   : Stamp
  verdict : Byte
  reason  : Byte
deriving DecidableEq, Repr

/-- One step place of a BIND payload. -/
structure StepIn where
  kind   : Byte
  target : Half
  hold   : Half
deriving DecidableEq, Repr

/-- The 136-byte payload of a BIND, field by field in index order (R190, 13_frame_formats.md). -/
structure BindIn where
  labelCount    : Byte
  labelChars    : List Byte
  wall          : Half
  groupMask     : Half
  rosterCount   : Byte
  roster        : List Byte
  tendonLength  : Half
  pullLimit     : Half
  slack         : Half
  offTimePick   : Byte
  holeVolume    : Half
  fillFactor    : Byte
  stagePressure : Half
  groutMax      : Half
  refusalFlow   : Byte
  refusalTime   : Byte
  volumeLimit   : Half
  headerMin     : Half
  breakthrough  : Half
  setTime       : Byte
  cureTime      : Half
  ramArea       : Half
  maxJack       : BitVec 32
  designLoad    : Half
  alignLoad     : Half
  rampRate      : Half
  creepLimit    : Half
  extMin        : Half
  extMax        : Half
  lockTol       : Byte
  lossTol       : Byte
  topUpPick     : Byte
  groutOverPick : Byte
  extEnable     : Byte
  extPick       : Byte
  keepHonour    : Byte
  startPhase    : Byte
  cureHours     : Half
  lockOffLoad   : Half
  stepCount     : Byte
  steps         : List StepIn
deriving DecidableEq, Repr

/-- The eight converted values of one scan, with what the rig alone knows of them: the rope-out pulses
since the last scan and, for each channel (bit c for channel c), whether it stands at its rail
(R156, R157, R159). -/
structure ScanSet where
  jp     : Int
  ext    : Int
  lc     : Int
  gp     : Int
  gf     : Int
  hp     : Int
  wp     : Int
  pulses : Half
  rails  : BitVec 8
deriving DecidableEq, Repr

/-- The commands, in the order of the table. `dst` and `src` are a received frame's destination and
source bytes. -/
inductive Instr where
  | powerOn (straps : BitVec 6) (keepHigh holdSwitch : Bool)
  | startListenEnd
  | go
  | stop
  | stopRelease
  | longStop
  | holdOn
  | holdOff
  | keepPinChange (high : Bool)
  | badReception (burst : List Byte)
  | beacon (dst src : Byte) (b : BeaconIn)
  | ask (dst src : Byte) (cls : Byte) (stamp : Stamp) (count : Byte)
  | reply (dst src : Byte) (entries : List ReplyIn)
  | withdraw (dst src : Byte) (stamp : Stamp)
  | leave (dst src : Byte)
  | retire (dst src : Byte) (number : Byte)
  | alert (dst src : Byte) (cause phase : Byte) (value : Half)
  | reportDiscard (dst src : Byte)
  | bind (dst src : Byte) (b : BindIn)
  | statusQuery (dst src : Byte)
  | recordQuery (dst src : Byte) (slot part : Byte)
  | exportedQuery (dst src : Byte) (slot : Byte) (number : Half)
  | queryUnknown (dst src : Byte) (what : Byte)
  | quietWaitEnd
  | collision
  | backoffEnd
  | transmitComplete
  | jabberCutoff
  | beaconTimer
  | beaconAgeExpiry (number : Byte)
  | askTimer
  | reaskDelayEnd
  | holdTimerOverrun
  | scanPublish (v : ScanSet)
  | offTimeEnd
  | slackFound
  | cleanDistanceReached
  | placementComplete
  | breakIn
  | fillComplete
  | volumeLimit
  | refusal
  | headerSag
  | yieldEnd
  | cleanTimeReached
  | settingBreakthrough
  | setTimerEnd
  | cureTimerEnd
  | rampTimerLimit
  | stepHoldEnd
  | alignCheck
  | proofReading
  | seatingEnd
  | unloadTimerLimit
  | settleEnd
  | lowTimeReached
  | recoveryTimeReached
  | topupSeatingEnd
  | topupSettleEnd
  | jackOver
  | groutOver
  | extRunaway
  | sensorFault (ch : Channel)
  | writeJobComplete
  | frameNotAccepted (dst src : Byte)
  | storeScanEnd
deriving DecidableEq, Repr

end Sys2Proof
end

