-- ==== Sys2Proof/Machine/Wire.lean ====
section
/-! DEFINITION. The common frame on the wire: check sequence, frame bytes, the receive checks of R3 and the size checks of R196. -/

namespace Sys2Proof.Machine

/-- Most significant byte first (R2). -/
def be16 (w : Half) : List Byte := [w.extractLsb' 8 8, w.extractLsb' 0 8]

/-- Most significant byte first (R2). -/
def be32 (w : BitVec 32) : List Byte :=
  [w.extractLsb' 24 8, w.extractLsb' 16 8, w.extractLsb' 8 8, w.extractLsb' 0 8]

/-- One bit into the check register: generator x^16 + x^12 + x^5 + 1 (R2). The register shifts toward
its most significant end (DEDUCED, log entry 22). -/
def crcBit (reg : Half) (bit : Bool) : Half :=
  if reg.msb != bit then (reg <<< 1) ^^^ 0x1021#16 else reg <<< 1

/-- One byte into the check register, its bits in the order they are sent, least significant first (R2). -/
def crcByte (reg : Half) (b : Byte) : Half :=
  (List.range 8).foldl (fun r i => crcBit r (b.getLsbD i)) reg

/-- The check over destination to the last payload byte, from a register of all ones (R2). -/
def crc (bytes : List Byte) : Half := bytes.foldl crcByte 0xFFFF#16

/-- Start delimiter D3h (13_frame_formats.md). -/
def startDelimiter : Byte := 0xD3#8

/-- Destination, source, kind, length and payload: the part the check covers. -/
def frameBody (dst src kind : Byte) (payload : List Byte) : List Byte :=
  [dst, src, kind, BitVec.ofNat 8 payload.length] ++ payload

/-- The bytes of one frame, in the order they are sent (R2). -/
def frameBytes (dst src kind : Byte) (payload : List Byte) : List Byte :=
  let body := frameBody dst src kind payload
  [0x55#8, 0x55#8, startDelimiter] ++ body ++ be16 (crc body)

/-- The six receive checks of R3, in order. -/
inductive RxFault where
  | startDelimiter | length | byteCount | check | destination | source
deriving DecidableEq, Repr

/-- The first receive check of R3 that a burst of line activity fails, or none for a valid frame. The
burst is its whole bytes from the start of activity. -/
def rxFault (burst : List Byte) : Option RxFault :=
  match burst with
  | _ :: _ :: d :: frame =>
    if d ≠ startDelimiter then some .startDelimiter
    else
      match frame with
      | dst :: src :: kind :: len :: tail =>
        if 200 < len.toNat then some .length
        else if tail.length ≠ len.toNat + 2 then some .byteCount
        else
          let payload := tail.take len.toNat
          if tail.drop len.toNat ≠ be16 (crc ([dst, src, kind, len] ++ payload)) then some .check
          else if dst.toNat = 0 ∨ 80 ≤ dst.toNat then some .destination
          else if src.toNat = 0 ∨ 63 ≤ src.toNat then some .source
          else none
      | _ => some .byteCount
  | _ => some .startDelimiter

/-- Destination byte of a valid frame. -/
def burstDst (burst : List Byte) : Byte := burst.getD 3 0
/-- Source byte of a valid frame. -/
def burstSrc (burst : List Byte) : Byte := burst.getD 4 0
/-- Kind byte of a valid frame. -/
def burstKind (burst : List Byte) : Byte := burst.getD 5 0
/-- Payload of a valid frame. -/
def burstPayload (burst : List Byte) : List Byte := (burst.drop 7).take (burst.getD 6 0).toNat

/-- The payload sizes allowed for each kind code; a code outside the ten kinds allows none (R6, R196). -/
def sizeAllowed (kind : Byte) (payload : List Byte) : Bool :=
  let n := payload.length
  match kind.toNat with
  | 1 => let c := (payload.getD 17 0).toNat; 18 ≤ n && c ≤ 12 && n == 18 + c
  | 2 => n == 6
  | 3 => let c := (payload.getD 0 0).toNat; 1 ≤ c && c ≤ 12 && n == 1 + 7 * c
  | 4 => n == 4
  | 5 => n == 0
  | 6 => n == 1
  | 7 => n == 4
  | 8 => n == 136
  | 9 => n == 5
  | 10 => 2 ≤ n && n ≤ 200
  | _ => false

/-- A burst that is counted in RX_ERRORS wherever it is accepted: it fails a receive check (R3), or it
is a valid frame of a bad kind or size (R6, R196). -/
def badBurst (burst : List Byte) : Bool :=
  (rxFault burst).isSome || !sizeAllowed (burstKind burst) (burstPayload burst)

end Sys2Proof.Machine
end

