-- ==== Sys2Proof/WellFormed.lean ====
section
/-! DEFINITION. Well-formed commands: operands that the line's receive checks, the frame layouts and the scan's ranges allow. -/

namespace Sys2Proof

/-- Destination and source of a frame that passed R3. -/
def headerOk (dst src : Byte) : Bool :=
  1 ≤ dst.toNat && dst.toNat ≤ 79 && 1 ≤ src.toNat && src.toNat ≤ 62

/-- A value in its converted range, and at one of its ends when the channel stands at its rail
(09_measurement_and_trips.md, R159). -/
def valueOk (v lo hi : Int) (rail : Bool) : Bool :=
  decide (lo ≤ v) && decide (v ≤ hi) && (!rail || v == lo || v == hi)

/-- The converted ranges of the scan table; an open or shorted rope-out loop gives no pulses (R157;
log entry 43). -/
def ScanSet.ok (v : ScanSet) : Bool :=
  valueOk v.jp (-500) 80000 (v.rails.getLsbD 0)
  && valueOk v.ext (-50000) 50000 (v.rails.getLsbD 1)
  && valueOk v.lc (-500) 4000 (v.rails.getLsbD 2)
  && valueOk v.gp (-100) 8000 (v.rails.getLsbD 3)
  && valueOk v.gf (-50) 1000 (v.rails.getLsbD 4)
  && valueOk v.hp (-100) 8000 (v.rails.getLsbD 5)
  && valueOk v.wp (-50) 800 (v.rails.getLsbD 6)
  && (!v.rails.getLsbD 7 || v.pulses == 0)

/-- A BIND payload has 12 label places, 12 roster places and 10 step places (13_frame_formats.md). -/
def BindIn.ok (b : BindIn) : Bool :=
  b.labelChars.length == 12 && b.roster.length == 12 && b.steps.length == 10

/-- Destination and source of a frame that passed the receive checks, none for any other command. -/
def Instr.header : Instr → Option (Byte × Byte)
  | .beacon dst src _ => some (dst, src)
  | .ask dst src _ _ _ => some (dst, src)
  | .reply dst src _ => some (dst, src)
  | .withdraw dst src _ => some (dst, src)
  | .leave dst src => some (dst, src)
  | .retire dst src _ => some (dst, src)
  | .alert dst src _ _ _ => some (dst, src)
  | .reportDiscard dst src => some (dst, src)
  | .bind dst src _ => some (dst, src)
  | .statusQuery dst src => some (dst, src)
  | .recordQuery dst src _ _ => some (dst, src)
  | .exportedQuery dst src _ _ => some (dst, src)
  | .queryUnknown dst src _ => some (dst, src)
  | .frameNotAccepted dst src => some (dst, src)
  | _ => none

/-- Well-formed commands. -/
def Instr.wellFormed : Instr → Bool
  | .powerOn _ _ _ => true
  | .startListenEnd => true
  | .go => true
  | .stop => true
  | .stopRelease => true
  | .longStop => true
  | .holdOn => true
  | .holdOff => true
  | .keepPinChange _ => true
  | .badReception burst => Machine.badBurst burst
  | .beacon dst src b => headerOk dst src && decide (b.roster.length ≤ 12)
  | .ask dst src _ _ _ => headerOk dst src
  | .reply dst src es => headerOk dst src && decide (1 ≤ es.length) && decide (es.length ≤ 12)
  | .withdraw dst src _ => headerOk dst src
  | .leave dst src => headerOk dst src
  | .retire dst src _ => headerOk dst src
  | .alert dst src _ _ _ => headerOk dst src
  | .reportDiscard dst src => headerOk dst src
  | .bind dst src b => headerOk dst src && b.ok
  | .statusQuery dst src => headerOk dst src
  | .recordQuery dst src _ _ => headerOk dst src
  | .exportedQuery dst src _ _ => headerOk dst src
  | .queryUnknown dst src what => headerOk dst src && !(1 ≤ what.toNat && what.toNat ≤ 3)
  | .quietWaitEnd => true
  | .collision => true
  | .backoffEnd => true
  | .transmitComplete => true
  | .jabberCutoff => true
  | .beaconTimer => true
  | .beaconAgeExpiry n => 1 ≤ n.toNat && n.toNat ≤ 62
  | .askTimer => true
  | .reaskDelayEnd => true
  | .holdTimerOverrun => true
  | .scanPublish v => v.ok
  | .offTimeEnd => true
  | .slackFound => true
  | .cleanDistanceReached => true
  | .placementComplete => true
  | .breakIn => true
  | .fillComplete => true
  | .volumeLimit => true
  | .refusal => true
  | .headerSag => true
  | .yieldEnd => true
  | .cleanTimeReached => true
  | .settingBreakthrough => true
  | .setTimerEnd => true
  | .cureTimerEnd => true
  | .rampTimerLimit => true
  | .stepHoldEnd => true
  | .alignCheck => true
  | .proofReading => true
  | .seatingEnd => true
  | .unloadTimerLimit => true
  | .settleEnd => true
  | .lowTimeReached => true
  | .recoveryTimeReached => true
  | .topupSeatingEnd => true
  | .topupSettleEnd => true
  | .jackOver => true
  | .groutOver => true
  | .extRunaway => true
  | .sensorFault _ => true
  | .writeJobComplete => true
  | .frameNotAccepted dst src => headerOk dst src
  | .storeScanEnd => true

end Sys2Proof
end

