-- ==== Sys2Proof/Decode.lean ====
section
/-! DEFINITION. Commands spelled by the opcode table's bits: the table gives bits to no row. -/

namespace Sys2Proof

/-- The command that a word spells by the bits of spec/opcode_table.json. Every row of the table has an
empty "fields" list and no fixed bits, so no word spells a command. -/
def decodeTableWord (_nbits _w : Nat) : Option Instr := none

end Sys2Proof
end

