-- ==== Sys2Proof/Machine/State.lean ====
section
/-! DEFINITION. The state of the controller, block by block, its reasons to stop, and the state right after reset. -/

namespace Sys2Proof.Machine

/-! ## Timers -/

/-- A timer: whether it runs, its elapsed time and the time at which it expires, in microseconds
(00_scope.md, "Units and number conventions"). -/
structure Timer where
  on      : Bool
  elapsed : Nat
  limit   : Nat
deriving DecidableEq, Repr

/-- A timer that is stopped. -/
def Timer.off : Timer := ⟨false, 0, 0⟩

/-- A timer that has just started. -/
def Timer.start (limit : Nat) : Timer := ⟨true, 0, limit⟩

/-! ## Names of states, causes and reasons -/

/-- The published phase (R62). -/
inductive Phase where
  | setup | placing | grouting | setting | curing | cured | stressing | locked | rejected | detached
deriving DecidableEq, Repr

/-- Lease state (03_the_step_lease.md). -/
inductive LeaseState where
  | idle | asking | holding
deriving DecidableEq, Repr

/-- Class of an ask (R36). -/
inductive AskClass where
  | advance | restore
deriving DecidableEq, Repr

/-- Verdict of a reply entry (R41). -/
inductive ReplyVerdict where
  | grant | defer
deriving DecidableEq, Repr

/-- Reason of a reply entry (R41). -/
inductive ReplyReason where
  | none | holding | ahead | freshGrout | restorePending
deriving DecidableEq, Repr

/-- Hold reason of a waiting request (R37, R145). -/
inductive HoldReason where
  | paused | held | neighbourNotPresent | askBackoff | storeFull
deriving DecidableEq, Repr

/-- Presence of a roster entry (R21 to R25). -/
inductive Presence where
  | listening | present | mismatch | lost | retired
deriving DecidableEq, Repr

/-- Why the last beacon was not good (R18). -/
inductive MismatchReason where
  | notListed | wallDiffers
deriving DecidableEq, Repr

/-- The eleven latches of the trip monitor (09_measurement_and_trips.md, "The latches"). -/
inductive Latch where
  | jackOver | groutOver | winchJam | breakIn | rampStall | leaseOverrun | extRunaway | sensorFault
  | lineJabber | duplicateId | stampEnd
deriving DecidableEq, Repr

/-- Causes an ALERT carries (R162). -/
inductive AlertCause where
  | jackOver | groutOver | winchJam | breakthrough | rampStall | leaseOverrun | extRunaway
  | sensorFault | lineJabber | duplicateId | stampEnd | lossExcess
deriving DecidableEq, Repr

/-- Sub-states of PLACING (05_tendon_placement.md). -/
inductive PlacementSub where
  | waitGo | payout | limitOff | slack
deriving DecidableEq, Repr

/-- Sub-states of GROUTING (06_grouting_and_cure.md). -/
inductive GroutSub where
  | waitGo | fill | press | yielding | supplyWeak
deriving DecidableEq, Repr

/-- How grouting ended (R105). -/
inductive GroutResult where
  | refusal | volumeLimit | communicated | stopped
deriving DecidableEq, Repr

/-- The breakthrough watch of SETTING (R111). -/
inductive SettingWatch where
  | unarmed | armed | alerted
deriving DecidableEq, Repr

/-- Sub-states of STRESSING (07_stressing_and_the_proof_test.md). -/
inductive SeqSub where
  | waitLease | ramp | holdLoad | seating | release | settle | failUnload | halted | abortWait
  | abortUnload
deriving DecidableEq, Repr

/-- Sub-states of LOCKED (08_aftercare_and_top_up.md). -/
inductive AftSub where
  | watch | pending | topUp
deriving DecidableEq, Repr

/-- Stages of a top-up (08_aftercare_and_top_up.md). -/
inductive TopUpStage where
  | lift | ramp | seating | release | settle | halted | abortUnload
deriving DecidableEq, Repr

/-- Kinds of a plan step (07_stressing_and_the_proof_test.md). -/
inductive StepKind where
  | load | proof | unload | lockOff
deriving DecidableEq, Repr

/-- Verdicts of a test that failed (R127, R129). -/
inductive FailVerdict where
  | failExtension | failCreep
deriving DecidableEq, Repr

/-- Reasons of an aborted test (R138, R182). -/
inductive AbortReason where
  | stop | power | trip
deriving DecidableEq, Repr

/-- Verdict of a closed test slot (10_the_record_store.md). -/
inductive Verdict where
  | pass
  | fail (v : FailVerdict)
  | aborted (r : AbortReason)
deriving DecidableEq, Repr

/-- Kind of a record slot (R174, R177). -/
inductive SlotKind where
  | test | topUpOnly
deriving DecidableEq, Repr

/-- Reasons of BIND_REFUSED (R190). -/
inductive RefusalReason where
  | range | order | duplicate | self | fit | bound
deriving DecidableEq, Repr

/-! ## The binding -/

/-- One step of the bound plan (R114). -/
structure PlanStep where
  kind   : StepKind
  target : Nat
  hold   : Nat
deriving DecidableEq, Repr

/-- The parameters of an accepted binding, in the units of R190; pick times in microseconds
(`offTimeUs`) or in scans (`topUpScans`, `groutScans`, `extScans`). The group mask and the roster are
kept by their owners. -/
structure Binding where
  label         : List Byte
  wall          : Half
  tendonLength  : Nat
  pullLimit     : Nat
  slack         : Nat
  offTimeUs     : Nat
  holeVolume    : Nat
  fillFactor    : Nat
  stagePressure : Nat
  groutMax      : Nat
  refusalFlow   : Nat
  refusalTime   : Nat
  volumeLimit   : Nat
  headerMin     : Nat
  breakthrough  : Nat
  setTime       : Nat
  cureTime      : Nat
  ramArea       : Nat
  maxJack       : Nat
  designLoad    : Nat
  alignLoad     : Nat
  rampRate      : Nat
  creepLimit    : Nat
  extMin        : Nat
  extMax        : Nat
  lockTol       : Nat
  lossTol       : Nat
  topUpScans    : Nat
  groutScans    : Nat
  extEnable     : Bool
  extScans      : Nat
  keepHonour    : Bool
  startPhase    : Phase
  cureHours     : Nat
  lockOffLoad   : Nat
  plan          : List PlanStep
deriving DecidableEq, Repr

/-- The parameters as a block reads them before a binding: nothing (R171). No rule reads them then. -/
def Binding.unbound : Binding :=
  { label := [], wall := 0, tendonLength := 0, pullLimit := 0, slack := 0, offTimeUs := 0,
    holeVolume := 0, fillFactor := 0, stagePressure := 0, groutMax := 0, refusalFlow := 0,
    refusalTime := 0, volumeLimit := 0, headerMin := 0, breakthrough := 0, setTime := 0, cureTime := 0,
    ramArea := 0, maxJack := 0, designLoad := 0, alignLoad := 0, rampRate := 0, creepLimit := 0,
    extMin := 0, extMax := 0, lockTol := 0, lossTol := 0, topUpScans := 0, groutScans := 0,
    extEnable := false, extScans := 0, keepHonour := false, startPhase := .setup, cureHours := 0,
    lockOffLoad := 0, plan := [] }

/-! ## Records -/

/-- One point of a test (R130): step index, load in kN, test extension in 0.01 mm, elapsed seconds. -/
structure Point where
  step    : Nat
  load    : Nat
  ext     : Int
  seconds : Nat
deriving DecidableEq, Repr

/-- One top-up entry (R150, R152): before load, after load, whether the result is OK. -/
structure TopUpEntry where
  before : Nat
  after  : Nat
  ok     : Bool
deriving DecidableEq, Repr

/-- Plan digest of a slot header (10_the_record_store.md). -/
structure PlanDigest where
  designLoad    : Nat
  proofTarget   : Nat
  lockOffTarget : Nat
  steps         : Nat
deriving DecidableEq, Repr

/-- A test slot that is OPEN or CLOSED (10_the_record_store.md, R174). -/
structure SlotRecord where
  isOpen     : Bool
  number     : Half
  kind       : SlotKind
  label      : List Byte
  wall       : Half
  station    : Nat
  digest     : PlanDigest
  points     : List Point
  verdict    : Option Verdict
  extended   : Bool
  lockOffLow : Bool
  residual   : Option Nat
  topUps     : List TopUpEntry
  lossExcess : Bool
  exported   : Bool
deriving DecidableEq, Repr

/-- Opening part of the installation record (R181). -/
structure InstOpening where
  label   : List Byte
  tendon  : Option Nat
  counter : Half
deriving DecidableEq, Repr

/-- Placement result of the installation record (R88). -/
structure PlacementResult where
  ropeOut     : Nat
  limitEvents : Half
  slackPauses : Half
deriving DecidableEq, Repr

/-- Grout result of the installation record (R105). -/
structure GroutRecord where
  result      : GroutResult
  volume      : Nat
  yieldEvents : Half
deriving DecidableEq, Repr

/-- The installation record: the parts that are present (R181). -/
structure InstRecord where
  opening   : Option InstOpening
  placement : Option PlacementResult
  grout     : Option GroutRecord
deriving DecidableEq, Repr

/-- What the record store keeps: installation record, the test slots in slot order (absent is FREE),
test number counter (R173, R175). -/
structure Contents where
  inst    : InstRecord
  slots   : List (Option SlotRecord)
  counter : Half
deriving DecidableEq, Repr

/-- One write job of the append queue (R180): the change it makes. Slots are numbered from 1. -/
inductive Job where
  | header (slot : Nat) (r : SlotRecord) (counter : Half)
  | point (slot : Nat) (p : Point)
  | extended (slot : Nat)
  | lockOffLow (slot : Nat)
  | closing (slot : Nat) (v : Verdict) (residual : Option Nat)
  | topUp (slot : Nat) (e : TopUpEntry)
  | lossExcess (slot : Nat)
  | exported (slot : Nat)
  | opening (o : InstOpening)
  | placement (r : PlacementResult)
  | grout (r : GroutRecord)
deriving DecidableEq, Repr

/-- The record store (10_the_record_store.md). -/
structure Store where
  nv      : Contents
  image   : Contents
  queue   : List Job
  keepPin : Bool
deriving DecidableEq, Repr

/-! ## Frames the controller sends -/

/-- One entry of the reply batch (R12, R42). -/
structure ReplyEntry where
  target  : Nat
  stamp   : Stamp
  verdict : ReplyVerdict
  reason  : ReplyReason
deriving DecidableEq, Repr

/-- What the ask slot holds (R13). -/
inductive AskFrame where
  | ask (cls : AskClass) (stamp : Stamp) (count : Nat)
  | withdraw (stamp : Stamp)
  | leave
deriving DecidableEq, Repr

/-- An ALERT (R162). -/
structure Alert where
  cause : AlertCause
  phase : Phase
  value : Half
deriving DecidableEq, Repr

/-- A BEACON (R31). The sub-state is its code, 0 for none. -/
structure Beacon where
  phase  : Phase
  sub    : Byte
  held   : Bool
  lease  : LeaseState
  ask    : Option (AskClass × Stamp)
  clock  : Stamp
  load   : Nat
  wall   : Half
  roster : List Nat
deriving DecidableEq, Repr

/-- The first cause of a trip (R161). -/
structure FirstCause where
  cause   : AlertCause
  phase   : Phase
  value   : Half
  channel : Option Channel
deriving DecidableEq, Repr

/-- Heard fields that only a beacon fills (R19). -/
structure Heard where
  sub   : Byte
  lease : LeaseState
  load  : Half
deriving DecidableEq, Repr

/-- One roster entry (R17). -/
structure Entry where
  number     : Nat
  presence   : Presence
  count      : Nat
  mismatch   : Option MismatchReason
  age        : Nat
  lostLatch  : Bool
  heardPhase : Option Phase
  heardHeld  : Bool
  heard      : Option Heard
deriving DecidableEq, Repr

/-- The store summary of a STATUS report (R185). -/
structure StoreSummary where
  free        : Nat
  opened      : Nat
  closed      : Nat
  unexported  : Nat
  counter     : Half
  openSlot    : Option (Nat × Half)
  keepPin     : Bool
  wouldOpen   : Bool
  jobsWaiting : Nat
deriving DecidableEq, Repr

/-- The content of a STATUS report (R195). -/
structure StatusReport where
  own         : Nat
  bound       : Bool
  hold        : Bool
  lossExcess  : Bool
  wall        : Half
  label       : List Byte
  groupMask   : Half
  rxErrors    : Half
  txDrops     : Half
  queryDrops  : Half
  phase       : Phase
  sub         : Byte
  stage       : Byte
  holdReason  : Option HoldReason
  stepIndex   : Nat
  topUpCount  : Nat
  lease       : LeaseState
  ask         : Option (AskClass × Stamp)
  clock       : Stamp
  deferred    : Nat
  askLapses   : Half
  latches     : List Latch
  named       : List Channel
  firstCause  : Option FirstCause
  jp          : Int
  ext         : Int
  lc          : Int
  gp          : Int
  gf          : Int
  hp          : Int
  wp          : Int
  ro          : Half
  store       : StoreSummary
  roster      : List Entry
deriving DecidableEq, Repr

/-- Answer codes without content (R183, R184, R197). -/
inductive PlainAnswer where
  | outOfRange | notClosed | numberMismatch | busy
deriving DecidableEq, Repr

/-- What a query asked (13_frame_formats.md, "Query what"). -/
inductive What where
  | status | record | exported | other (code : Byte)
deriving DecidableEq, Repr

/-- A REPORT: the answer to a QUERY or a BIND (13_frame_formats.md, "QUERY and REPORT"). -/
inductive Report where
  | bindOk (own : Nat) (start : Phase) (entries : Nat)
  | bindRefused (index : Nat) (reason : RefusalReason)
  | plain (answer : PlainAnswer) (what : What)
  | exportedOk (slot : Nat) (number : Half)
  | installation (r : InstRecord)
  | freeSlot (slot : Nat)
  | slotHead (slot : Nat) (r : SlotRecord)
  | points (slot : Nat) (ps : List Point)
  | topUps (slot : Nat) (es : List TopUpEntry)
  | unstated (content : List Byte)
  | status (r : StatusReport)
deriving DecidableEq, Repr

/-- One place of the report FIFO (R14): where the report goes and its attempt count. -/
structure ReportItem where
  dst      : Byte
  report   : Report
  attempts : Nat
deriving DecidableEq, Repr

/-- A frame in a transmit slot with its attempt count (R11). -/
structure Waiting (α : Type) where
  frame    : α
  attempts : Nat
deriving DecidableEq, Repr

/-- The frame in the transmitter, by the slot it came from. -/
inductive OutFrame where
  | reply (es : List ReplyEntry)
  | ask (f : AskFrame)
  | alert (a : Alert)
  | report (dst : Byte) (r : Report)
  | beacon (b : Beacon)
deriving DecidableEq, Repr

/-- The transmitter's condition (01_the_site_line.md, "Getting onto the line"). `k` is the drawn number
of backoff slots. -/
inductive Tx where
  | free
  | waitingQuiet
  | sending (f : OutFrame) (attempts : Nat)
  | backingOff (k : Nat)
deriving DecidableEq, Repr

/-! ## The blocks -/

/-- Line interface (R1 to R16). An empty batch list is an empty slot. -/
structure Lif where
  straps     : BitVec 6
  groupMask  : Half
  batch      : Waiting (List ReplyEntry)
  ask        : Option (Waiting AskFrame)
  alert      : Option (Waiting Alert)
  fifo       : List ReportItem
  beacon     : Option (Waiting Beacon)
  tx         : Tx
  rng        : Half
  rxErrors   : Half
  txDrops    : Half
  queryDrops : Half
  quiet      : Timer
  backoff    : Timer
  drive      : Timer
deriving DecidableEq, Repr

/-- Roster (R17 to R34). -/
structure Roster where
  entries     : List Entry
  beaconTimer : Timer
deriving DecidableEq, Repr

/-- Mark of a member of the required set (R38). -/
inductive Mark where
  | unanswered | deferred | granted
deriving DecidableEq, Repr

/-- A member of the required set. -/
structure Member where
  number : Nat
  mark   : Mark
deriving DecidableEq, Repr

/-- An entry of the deferred list (R42). -/
structure Deferred where
  number : Nat
  cls    : AskClass
  stamp  : Stamp
deriving DecidableEq, Repr

/-- The current ask (R38). -/
structure CurrentAsk where
  cls   : AskClass
  abort : Bool
  stamp : Stamp
  count : Nat
deriving DecidableEq, Repr

/-- Step lease (R35 to R61). -/
structure Lease where
  state     : LeaseState
  clock     : Stamp
  ask       : Option CurrentAsk
  required  : List Member
  deferred  : List Deferred
  askTimer  : Timer
  reask     : Timer
  hold      : Timer
  askLapses : Half
deriving DecidableEq, Repr

/-- A requester's request: waiting with its hold reason, or taken by the lease. -/
inductive RequestStatus where
  | waiting (reason : Option HoldReason)
  | taken
deriving DecidableEq, Repr

/-- A request to the lease (R37). -/
structure Request where
  cls    : AskClass
  abort  : Bool
  status : RequestStatus
deriving DecidableEq, Repr

/-- What the lease's checks make of a presented request (R37). -/
inductive Presented where
  | notIdle
  | discarded
  | waits (reason : HoldReason)
  | stampEnd
  | taken
deriving DecidableEq, Repr

/-- The start-up stages after strap sampling (R186). -/
inductive StartStage where
  | storeScan | listen | online
deriving DecidableEq, Repr

/-- Phase machine, crew inputs and start-up (R62 to R80, R186 to R188). -/
structure Crew where
  phase      : Phase
  hold       : Bool
  holdSwitch : Bool
  storeFull  : Bool
  stopHold   : Timer
  stage      : StartStage
  listen     : Timer
deriving DecidableEq, Repr

/-- Placement (R81 to R93). Slack and breakthrough times in 0.1 s. -/
structure Placement where
  sub         : Option PlacementSub
  ropeOut     : Nat
  limitCount  : Nat
  cleanDist   : Nat
  offTime     : Timer
  slackTime   : Nat
  breakTime   : Nat
  limitEvents : Half
  slackPauses : Half
deriving DecidableEq, Repr

/-- Grout controller (R94 to R113). Refusal, sag, clean and breakthrough times in 0.1 s. `testsOpen`:
the latest scan was counted in FILL or PRESS, so its volume tests stand (R99; the model's own). -/
structure Grout where
  sub         : Option GroutSub
  opening     : Nat
  volume      : Nat
  remainder   : Nat
  refusalTime : Nat
  sagTime     : Nat
  yieldTimer  : Timer
  left        : Option GroutSub
  yieldCount  : Nat
  cleanTime   : Nat
  yieldEvents : Half
  result      : Option GroutResult
  setTimer    : Timer
  cureTimer   : Timer
  watch       : SettingWatch
  breakTime   : Nat
  testsOpen   : Bool
deriving DecidableEq, Repr

/-- What the jack work of a test and of a top-up have in common (R117, R118, R121, R150). `raise` and
`lower` are the sub-state's calls; `settled` says that the settle timer's end has been taken, `readDue` that
the scan to be read has been published at or after that end (both the model's own, log entries 14, 29). -/
structure Jack where
  rampStart : Nat
  rampRef   : Nat
  ramp      : Timer
  unload    : Timer
  seating   : Timer
  settle    : Timer
  settled   : Bool
  readDue   : Bool
  raise     : Bool
  lower     : Bool
deriving DecidableEq, Repr

/-- Stressing sequencer (R114 to R142). The test clock counts microseconds while `clockOn`. -/
structure Seq where
  sub        : Option SeqSub
  step       : Nat
  request    : Option Request
  clockOn    : Bool
  clock      : Nat
  jack       : Jack
  holdTimer  : Timer
  alignRead  : Int
  checks     : Nat
  datum      : Option Int
  readings   : Nat
  ext5       : Option Int
  ext15      : Option Int
  verdict    : Option FailVerdict
  extended   : Bool
  lockOffLow : Bool
  tripMark   : Bool
  abort      : Option AbortReason
  slot       : Option Nat
deriving DecidableEq, Repr

/-- Aftercare monitor (R143 to R155). Low and recovery times in 0.1 s. -/
structure Aft where
  sub        : Option AftSub
  stage      : Option TopUpStage
  target     : Option Nat
  slot       : Option Nat
  lowTime    : Nat
  recovery   : Nat
  request    : Option Request
  before     : Nat
  jack       : Jack
  count      : Nat
  lossExcess : Bool
deriving DecidableEq, Repr

/-- Measurement scan (R156 to R159): the published set, the rail marks of that scan (bit c for channel
c), the rail time of each channel in 0.1 s, and the LC value of the latest scan not under a
SENSOR_FAULT naming LC (R149). -/
structure Scan where
  jp        : Int
  ext       : Int
  lc        : Int
  gp        : Int
  gf        : Int
  hp        : Int
  wp        : Int
  ro        : Half
  rails     : BitVec 8
  railTimes : List Nat
  lcTrusted : Int
deriving DecidableEq, Repr

/-- Trip monitor (R160 to R172): the set latches in the order they set, the named channels, the first
cause, the deglitch times in 0.1 s, and the EXT_RUNAWAY window, latest value first. -/
structure Trip where
  latches    : List Latch
  named      : List Channel
  firstCause : Option FirstCause
  jackTime   : Nat
  groutTime  : Nat
  extTime    : Nat
  window     : List Int
deriving DecidableEq, Repr

/-- Grout valve positions (R95). -/
inductive Valve where
  | closed | opened | modulated
deriving DecidableEq, Repr

/-- Ready lamp patterns (R78). -/
inductive LampPattern where
  | off | steady | slowBlink | fastBlink | doubleBlink | shortFlash
deriving DecidableEq, Repr

/-- The outputs at the rig (00_scope.md, connection table): drives, and the lamp with the time since its
pattern began. -/
structure Drives where
  winch   : Bool
  valve   : Valve
  pump    : Bool
  relief  : Bool
  seating : Bool
  lamp    : LampPattern
  lampUs  : Nat
deriving DecidableEq, Repr

/-- The controller. `pending` is the queue of commands that wait, oldest first; `free` counts the free
values drawn. -/
structure State where
  pending   : List Instr
  free      : Nat
  binding   : Option Binding
  lif       : Lif
  roster    : Roster
  lease     : Lease
  crew      : Crew
  placement : Placement
  grout     : Grout
  seq       : Seq
  aft       : Aft
  scan      : Scan
  trip      : Trip
  store     : Store
  drives    : Drives
deriving DecidableEq, Repr

/-! ## Reasons to stop -/

/-- Why a step can fault. The manual names no condition that stops the controller: each is a latch, an
answer on the line or a frame discarded. -/
inductive Fault where
  /-- Raised by no command: the manual gives none that stops the machine. Safe. -/
  | noneNamed
deriving DecidableEq, Repr

/-- Why a step can be refused. -/
inductive Refusal where
  /-- Raised by an arm of `exec` whose command has no meaning yet; no arm does. Safe: the machine stops. -/
  | notModelled (mnemonic : String)
deriving DecidableEq, Repr

/-! ## Power-on values, block by block -/

/-- R16, R9, R1: the line interface after power-on with the straps read. The quiet measure of R7 runs from 0:
the spec gives it no power-on value (DESIGN CHOICE, log entry 33). -/
def Lif.reset (straps : BitVec 6) : Lif :=
  { straps, groupMask := 0, batch := ⟨[], 0⟩, ask := none, alert := none, fifo := [], beacon := none,
    tx := .free,
    rng := if straps = 0 ∨ straps = 63 then 40000 else 40000 + straps.zeroExtend 16,
    rxErrors := 0, txDrops := 0, queryDrops := 0,
    quiet := .start Config.quietUs, backoff := .off, drive := .off }

/-- R34. -/
def Roster.reset : Roster := { entries := [], beaconTimer := .off }

/-- R61. -/
def Lease.reset : Lease :=
  { state := .idle, clock := 0, ask := none, required := [], deferred := [], askTimer := .off,
    reask := .off, hold := .off, askLapses := 0 }

/-- R80, R186: the start listen begins unless a slot is still to be closed. -/
def Crew.reset (holdSwitch : Bool) (scanning : Bool) : Crew :=
  { phase := .setup, hold := false, holdSwitch, storeFull := false, stopHold := .off,
    stage := if scanning then .storeScan else .listen,
    listen := if scanning then .off else .start Config.listenUs }

/-- R93. -/
def Placement.reset : Placement :=
  { sub := none, ropeOut := 0, limitCount := 0, cleanDist := 0, offTime := .off, slackTime := 0,
    breakTime := 0, limitEvents := 0, slackPauses := 0 }

/-- R113. -/
def Grout.reset : Grout :=
  { sub := none, opening := 100, volume := 0, remainder := 0, refusalTime := 0, sagTime := 0,
    yieldTimer := .off, left := none, yieldCount := 0, cleanTime := 0, yieldEvents := 0, result := none,
    setTimer := .off, cureTimer := .off, watch := .unarmed, breakTime := 0, testsOpen := false }

/-- R142, R155: no jack work in hand. The ramp start load and the ramp reference are 0: the spec gives them no
power-on value (DESIGN CHOICE, log entry 33). -/
def Jack.reset : Jack :=
  { rampStart := 0, rampRef := 0, ramp := .off, unload := .off, seating := .off, settle := .off,
    settled := false, readDue := false, raise := false, lower := false }

/-- R142. The alignment reading is 0: the spec gives it no power-on value (DESIGN CHOICE, log entry 33). -/
def Seq.reset : Seq :=
  { sub := none, step := 0, request := none, clockOn := false, clock := 0, jack := .reset,
    holdTimer := .off, alignRead := 0, checks := 0, datum := none, readings := 0, ext5 := none,
    ext15 := none, verdict := none, extended := false, lockOffLow := false, tripMark := false,
    abort := none, slot := none }

/-- R155. The before load is 0: the spec gives it no power-on value (DESIGN CHOICE, log entry 33). -/
def Aft.reset : Aft :=
  { sub := none, stage := none, target := none, slot := none, lowTime := 0, recovery := 0,
    request := none, before := 0, jack := .reset, count := 0, lossExcess := false }

/-- R156, R157, R171. The rail marks and the trusted LC, which only a scan sets, are 0 (DESIGN CHOICE, log
entry 33). -/
def Scan.reset : Scan :=
  { jp := 0, ext := 0, lc := 0, gp := 0, gf := 0, hp := 0, wp := 0, ro := 0, rails := 0,
    railTimes := [0, 0, 0, 0, 0, 0, 0, 0], lcTrusted := 0 }

/-- R171. -/
def Trip.reset : Trip :=
  { latches := [], named := [], firstCause := none, jackTime := 0, groutTime := 0, extTime := 0,
    window := [] }

/-- R173: the contents as the module leaves the factory. -/
def Contents.factory : Contents :=
  { inst := ⟨none, none, none⟩, slots := List.replicate 8 none, counter := 0 }

/-- R70, R93, R113, R142, R80: drives off, closed and idle, the lamp off, fast-blinking under a strap
fault. -/
def Drives.reset (straps : BitVec 6) : Drives :=
  { winch := false, valve := .closed, pump := false, relief := false, seating := false,
    lamp := if straps = 0 ∨ straps = 63 then .fastBlink else .off, lampUs := 0 }

/-- The controller right after power-on (R186): straps sampled, the store scan passed at once because no
slot is OPEN, the start listen begun. The straps read 1, the KEEP pin low, the HOLD switch off and the
store as from the factory (DESIGN CHOICE, log entry 1). -/
def State.reset : State :=
  { pending := [], free := 0, binding := none, lif := .reset 1, roster := .reset, lease := .reset,
    crew := .reset false false, placement := .reset, grout := .reset, seq := .reset, aft := .reset,
    scan := .reset, trip := .reset,
    store := { nv := .factory, image := .factory, queue := [], keepPin := false },
    drives := .reset 1 }

end Sys2Proof.Machine
end

