-- ==== Sys2Proof/Machine/Update.lean ====
section
/-! DEFINITION. Named updates of the state, one for each block (each block owns its own state: 00_scope.md). Their projection lemmas are in Sys2Proof/Laws/State.lean. -/

namespace Sys2Proof.Machine

/-- Change the lif block and nothing else. -/
def State.onLif (s : State) (f : Lif → Lif) : State := { s with lif := f s.lif }

/-- Change the roster block and nothing else. -/
def State.onRoster (s : State) (f : Roster → Roster) : State := { s with roster := f s.roster }

/-- Change the lease block and nothing else. -/
def State.onLease (s : State) (f : Lease → Lease) : State := { s with lease := f s.lease }

/-- Change the crew block and nothing else. -/
def State.onCrew (s : State) (f : Crew → Crew) : State := { s with crew := f s.crew }

/-- Change the placement block and nothing else. -/
def State.onPlacement (s : State) (f : Placement → Placement) : State := { s with placement := f s.placement }

/-- Change the grout block and nothing else. -/
def State.onGrout (s : State) (f : Grout → Grout) : State := { s with grout := f s.grout }

/-- Change the seq block and nothing else. -/
def State.onSeq (s : State) (f : Seq → Seq) : State := { s with seq := f s.seq }

/-- Change the aft block and nothing else. -/
def State.onAft (s : State) (f : Aft → Aft) : State := { s with aft := f s.aft }

/-- Change the scan block and nothing else. -/
def State.onScan (s : State) (f : Scan → Scan) : State := { s with scan := f s.scan }

/-- Change the trip block and nothing else. -/
def State.onTrip (s : State) (f : Trip → Trip) : State := { s with trip := f s.trip }

/-- Change the store block and nothing else. -/
def State.onStore (s : State) (f : Store → Store) : State := { s with store := f s.store }

/-- Change the drives block and nothing else. -/
def State.onDrives (s : State) (f : Drives → Drives) : State := { s with drives := f s.drives }

/-- Change the binding and nothing else. -/
def State.setBinding (s : State) (b : Option Binding) : State := { s with binding := b }

/-- Draw one free value: the counter that free values are applied to goes on (log entry 7). -/
def State.drawFree (s : State) : State := { s with free := s.free + 1 }

end Sys2Proof.Machine
end

