-- ==== Sys2Proof/Machine/Operands.lean ====
section
/-! DEFINITION. The codes of operands and fields, both ways (13_frame_formats.md, "Field codes"). -/

namespace Sys2Proof.Machine

/-- All channels, in the order of their numbers. -/
def allChannels : List Channel := [.jp, .ext, .lc, .gp, .gf, .hp, .wp, .ro]

/-- Channel number (R162). -/
def channelCode : Channel → Nat
  | .jp => 0 | .ext => 1 | .lc => 2 | .gp => 3 | .gf => 4 | .hp => 5 | .wp => 6 | .ro => 7

/-- Phase codes. -/
def phaseCode : Phase → Nat
  | .setup => 0 | .placing => 1 | .grouting => 2 | .setting => 3 | .curing => 4 | .cured => 5
  | .stressing => 6 | .locked => 7 | .rejected => 8 | .detached => 9

/-- The phase of a code. -/
def phaseOfCode (c : Nat) : Option Phase :=
  match c with
  | 0 => some .setup | 1 => some .placing | 2 => some .grouting | 3 => some .setting
  | 4 => some .curing | 5 => some .cured | 6 => some .stressing | 7 => some .locked
  | 8 => some .rejected | 9 => some .detached
  | _ => none

/-- The highest sub-state code of a phase; 0 stands for none in any phase. -/
def lastSubCode : Phase → Nat
  | .placing => 4 | .grouting => 5 | .stressing => 10 | .locked => 3
  | .setup => 0 | .setting => 0 | .curing => 0 | .cured => 0 | .rejected => 0 | .detached => 0

/-- Sub-state codes of PLACING. -/
def placementSubCode : PlacementSub → Nat
  | .waitGo => 1 | .payout => 2 | .limitOff => 3 | .slack => 4

/-- Sub-state codes of GROUTING. -/
def groutSubCode : GroutSub → Nat
  | .waitGo => 1 | .fill => 2 | .press => 3 | .yielding => 4 | .supplyWeak => 5

/-- Sub-state codes of STRESSING. -/
def seqSubCode : SeqSub → Nat
  | .waitLease => 1 | .ramp => 2 | .holdLoad => 3 | .seating => 4 | .release => 5 | .settle => 6
  | .failUnload => 7 | .halted => 8 | .abortWait => 9 | .abortUnload => 10

/-- Sub-state codes of LOCKED. -/
def aftSubCode : AftSub → Nat
  | .watch => 1 | .pending => 2 | .topUp => 3

/-- Top-up stage codes; 0 stands for none. -/
def stageCode : TopUpStage → Nat
  | .lift => 1 | .ramp => 2 | .seating => 3 | .release => 4 | .settle => 5 | .halted => 6
  | .abortUnload => 7

/-- Lease state codes. -/
def leaseCode : LeaseState → Nat
  | .idle => 0 | .asking => 1 | .holding => 2

/-- The lease state of a code. -/
def leaseOfCode (c : Nat) : Option LeaseState :=
  match c with
  | 0 => some .idle | 1 => some .asking | 2 => some .holding
  | _ => none

/-- Class codes; 0 stands for absent. -/
def classCode : AskClass → Nat
  | .advance => 1 | .restore => 2

/-- The class of a code, when it is ADVANCE or RESTORE. -/
def classOfCode (c : Nat) : Option AskClass :=
  match c with
  | 1 => some .advance | 2 => some .restore
  | _ => none

/-- Reply verdict codes. -/
def replyVerdictCode : ReplyVerdict → Nat
  | .grant => 1 | .defer => 2

/-- The reply verdict of a code. -/
def replyVerdictOfCode (c : Nat) : Option ReplyVerdict :=
  match c with
  | 1 => some .grant | 2 => some .defer
  | _ => none

/-- Reply reason codes. -/
def replyReasonCode : ReplyReason → Nat
  | .none => 0 | .holding => 1 | .ahead => 2 | .freshGrout => 3 | .restorePending => 4

/-- Hold reason codes; 0 stands for none. -/
def holdReasonCode : Option HoldReason → Nat
  | none => 0 | some .paused => 1 | some .held => 2 | some .neighbourNotPresent => 3
  | some .askBackoff => 4 | some .storeFull => 5

/-- Alert cause codes. -/
def causeCode : AlertCause → Nat
  | .jackOver => 1 | .groutOver => 2 | .winchJam => 3 | .breakthrough => 4 | .rampStall => 5
  | .leaseOverrun => 6 | .extRunaway => 7 | .sensorFault => 8 | .lineJabber => 9
  | .duplicateId => 10 | .stampEnd => 11 | .lossExcess => 12

/-- The alert cause of a code. -/
def causeOfCode (c : Nat) : Option AlertCause :=
  match c with
  | 1 => some .jackOver | 2 => some .groutOver | 3 => some .winchJam | 4 => some .breakthrough
  | 5 => some .rampStall | 6 => some .leaseOverrun | 7 => some .extRunaway | 8 => some .sensorFault
  | 9 => some .lineJabber | 10 => some .duplicateId | 11 => some .stampEnd | 12 => some .lossExcess
  | _ => none

/-- The trip causes among the alert causes: all but BREAKTHROUGH and LOSS_EXCESS (R27). -/
def AlertCause.isTrip : AlertCause → Bool
  | .breakthrough => false
  | .lossExcess => false
  | .jackOver => true | .groutOver => true | .winchJam => true | .rampStall => true
  | .leaseOverrun => true | .extRunaway => true | .sensorFault => true | .lineJabber => true
  | .duplicateId => true | .stampEnd => true

/-- The cause an ALERT and a first cause carry for a latch; BREAK_IN sends BREAKTHROUGH (R162). -/
def Latch.cause : Latch → AlertCause
  | .jackOver => .jackOver | .groutOver => .groutOver | .winchJam => .winchJam
  | .breakIn => .breakthrough | .rampStall => .rampStall | .leaseOverrun => .leaseOverrun
  | .extRunaway => .extRunaway | .sensorFault => .sensorFault | .lineJabber => .lineJabber
  | .duplicateId => .duplicateId | .stampEnd => .stampEnd

/-- The latch's bit in a STATUS report (13_frame_formats.md). -/
def Latch.bit : Latch → Nat
  | .jackOver => 0 | .groutOver => 1 | .winchJam => 2 | .breakIn => 3 | .rampStall => 4
  | .leaseOverrun => 5 | .extRunaway => 6 | .sensorFault => 7 | .lineJabber => 8
  | .duplicateId => 9 | .stampEnd => 10

/-- Presence codes. -/
def presenceCode : Presence → Nat
  | .listening => 1 | .present => 2 | .mismatch => 3 | .lost => 4 | .retired => 5

/-- Mismatch reason codes; 0 stands for absent. -/
def mismatchCode : Option MismatchReason → Nat
  | none => 0 | some .notListed => 1 | some .wallDiffers => 2

/-- Slot kind codes. -/
def slotKindCode : SlotKind → Nat
  | .test => 1 | .topUpOnly => 2

/-- Test verdict codes; 0 stands for absent. -/
def verdictCode : Option Verdict → Nat
  | none => 0
  | some .pass => 1
  | some (.fail .failExtension) => 2
  | some (.fail .failCreep) => 3
  | some (.aborted _) => 4

/-- Abort reason codes of a verdict; 0 stands for absent. -/
def abortCode : Option Verdict → Nat
  | some (.aborted .stop) => 1
  | some (.aborted .power) => 2
  | some (.aborted .trip) => 3
  | some .pass => 0
  | some (.fail _) => 0
  | none => 0

/-- Grout result codes; 0 stands for absent. -/
def groutResultCode : GroutResult → Nat
  | .refusal => 1 | .volumeLimit => 2 | .communicated => 3 | .stopped => 4

/-- Step kind codes of a BIND. -/
def stepKindOfCode (c : Nat) : Option StepKind :=
  match c with
  | 1 => some .load | 2 => some .proof | 3 => some .unload | 4 => some .lockOff
  | _ => none

/-- Refusal reason codes. -/
def refusalCode : RefusalReason → Nat
  | .range => 1 | .order => 2 | .duplicate => 3 | .self => 4 | .fit => 5 | .bound => 6

/-- Query what codes. -/
def whatCode : What → Byte
  | .status => 1 | .record => 2 | .exported => 3 | .other c => c

/-- Answer codes without content. -/
def plainCode : PlainAnswer → Nat
  | .outOfRange => 1 | .notClosed => 2 | .numberMismatch => 3 | .busy => 4

/-- Off-time picks in microseconds: 0.5, 1, 2, 4 s. -/
def offTimePick (c : Nat) : Option Nat := [500000, 1000000, 2000000, 4000000][c]?

/-- Top-up deglitch picks in scans of 0.1 s: 1, 5, 20, 60 min. -/
def topUpPick (c : Nat) : Option Nat := [600, 3000, 12000, 36000][c]?

/-- GROUT_OVER deglitch picks in scans: 0.1, 1, 5 s. -/
def groutOverPick (c : Nat) : Option Nat := [1, 10, 50][c]?

/-- EXT_RUNAWAY deglitch picks in scans: 5, 20, 60 s. -/
def extPick (c : Nat) : Option Nat := [50, 200, 600][c]?

/-- Start phases a BIND may name (R64, R191). -/
def startPhaseOfCode (c : Nat) : Option Phase :=
  match c with
  | 1 => some .placing | 2 => some .grouting | 4 => some .curing | 5 => some .cured
  | 7 => some .locked
  | _ => none

/-- One more on a 16-bit count that saturates at 65,535 (00_scope.md). -/
def satInc (c : Half) : Half := if c = 65535#16 then c else c + 1

end Sys2Proof.Machine
end

