-- ==== Sys2Proof/Machine/Flags.lean ====
section
/-! DEFINITION. Everything computed from the state: own number, HELD, listen-only, channels in use, loads, the drives and the lamp. -/

namespace Sys2Proof.Machine

/-! ## Identity and overlays -/

/-- The own number: the strap value from 1 to 62, absent under a strap fault (R1). -/
def State.own (s : State) : Option Nat :=
  let n := s.lif.straps.toNat
  if 1 ≤ n ∧ n ≤ 62 then some n else none

/-- The own number, taken as 0 under a strap fault (R29). -/
def State.ownNumber (s : State) : Nat := s.own.getD 0

/-- A strap value of 0 or 63 (R1). -/
def State.strapFault (s : State) : Bool := s.own.isNone

/-- Whether a latch is set (R160). -/
def State.latched (s : State) (l : Latch) : Bool := s.trip.latches.contains l

/-- HELD: some trip latch is set (R167). -/
def State.held (s : State) : Bool := !s.trip.latches.isEmpty

/-- Whether SENSOR_FAULT names a channel, which makes its values untrusted (R159). -/
def State.named (s : State) (c : Channel) : Bool := s.trip.named.contains c

/-- Listen-only: a strap fault, DUPLICATE_ID or LINE_JABBER (R15). -/
def State.listenOnly (s : State) : Bool :=
  s.strapFault || s.latched .duplicateId || s.latched .lineJabber

/-- The parameters in force. -/
def State.par (s : State) : Binding := s.binding.getD .unbound

/-- Whether a binding has been accepted since power-on. -/
def State.bound (s : State) : Bool := s.binding.isSome

/-- The group mask: bit g for group g, applied to a destination 64 + g (R5). -/
def State.accepts (s : State) (dst : Byte) : Bool :=
  (s.own == some dst.toNat) || dst.toNat == 63
    || (64 ≤ dst.toNat && dst.toNat ≤ 79 && s.lif.groupMask.getLsbD (dst.toNat - 64))

/-- Whether the transmitter drives the line. -/
def State.sending (s : State) : Bool :=
  match s.lif.tx with
  | .sending _ _ => true
  | .free => false
  | .waitingQuiet => false
  | .backingOff _ => false

/-- Whether some transmit slot holds a frame. -/
def State.anySlot (s : State) : Bool :=
  !s.lif.batch.frame.isEmpty || s.lif.ask.isSome || s.lif.alert.isSome || !s.lif.fifo.isEmpty
    || s.lif.beacon.isSome

/-! ## Phase and sub-states -/

/-- Phases in which every ASK is deferred with FRESH_GROUT (R41 row 1, R109). -/
def State.freshGrout (s : State) : Bool := s.crew.phase == .grouting || s.crew.phase == .setting

/-- A top-up is PENDING (R41 row 2, R44). -/
def State.pendingTopUp (s : State) : Bool :=
  s.crew.phase == .locked && s.aft.sub == some .pending

/-- A top-up is under way. -/
def State.toppingUp (s : State) : Bool := s.crew.phase == .locked && s.aft.sub == some .topUp

/-- The sequencer's sub-state is `x`, in STRESSING. -/
def State.seqIn (s : State) (x : SeqSub) : Bool := s.crew.phase == .stressing && s.seq.sub == some x

/-- The top-up stage is `x`, in TOPUP. -/
def State.stageIn (s : State) (x : TopUpStage) : Bool := s.toppingUp && s.aft.stage == some x

/-- Placement's sub-state is `x`, in PLACING. -/
def State.placeIn (s : State) (x : PlacementSub) : Bool :=
  s.crew.phase == .placing && s.placement.sub == some x

/-- The grout controller's sub-state is `x`, in GROUTING. -/
def State.groutIn (s : State) (x : GroutSub) : Bool :=
  s.crew.phase == .grouting && s.grout.sub == some x

/-- The published sub-state's code, 0 for none (R63). -/
def State.subCode (s : State) : Nat :=
  match s.crew.phase with
  | .placing => (s.placement.sub.map placementSubCode).getD 0
  | .grouting => (s.grout.sub.map groutSubCode).getD 0
  | .stressing => (s.seq.sub.map seqSubCode).getD 0
  | .locked => (s.aft.sub.map aftSubCode).getD 0
  | .setup => 0 | .setting => 0 | .curing => 0 | .cured => 0 | .rejected => 0 | .detached => 0

/-- Whether a channel is in use (R158). -/
def State.inUse (s : State) (c : Channel) : Bool :=
  match s.crew.phase with
  | .placing => c == .wp || c == .ro || c == .gp
  | .grouting => c == .gp || c == .gf || c == .hp
  | .setting => c == .gp
  | .stressing => c == .jp || c == .ext || c == .lc
  | .locked => c == .lc || (s.aft.sub == some .topUp && (c == .jp || c == .ext))
  | .setup => false | .curing => false | .cured => false | .rejected => false | .detached => false

/-- Whether a channel stood at its rail at the latest scan (R159). -/
def State.atRail (s : State) (c : Channel) : Bool := s.scan.rails.getLsbD (channelCode c)

/-- A channel's rail time in 0.1 s (R159). -/
def State.railTime (s : State) (c : Channel) : Nat := s.scan.railTimes.getD (channelCode c) 0

/-! ## Loads -/

/-- Jack load in kN: JP times the ram area over 10,000, rounded down, 0 for a JP below 0 (R114). -/
def State.jackLoad (s : State) : Nat := s.scan.jp.toNat * s.par.ramArea / 10000

/-- Load tolerance: 1 % of the design load, rounded down, at least 2 kN (R114). -/
def State.loadTolerance (s : State) : Nat := max (s.par.designLoad / 100) 2

/-- JP is below 500 kPa and may be used (R118, R138). -/
def State.jackLow (s : State) : Bool := decide (s.scan.jp < Config.unloadedKPa) && !s.named .jp

/-- Present load of a beacon (R31). -/
def State.presentLoad (s : State) : Nat :=
  match s.crew.phase with
  | .stressing => s.jackLoad
  | .locked => if s.aft.sub = some .topUp then s.jackLoad else s.scan.lc.toNat
  | .setup => 0 | .placing => 0 | .grouting => 0 | .setting => 0 | .curing => 0 | .cured => 0
  | .rejected => 0 | .detached => 0

/-- The step in hand of the plan; none for ALIGN, which is step 0 (R114). -/
def State.planStep (s : State) : Option PlanStep :=
  match s.seq.step with
  | 0 => none
  | n + 1 => s.par.plan[n]?

/-- Target of the step in hand: the alignment load for ALIGN (R121). -/
def State.stepTarget (s : State) : Nat :=
  match s.seq.step with
  | 0 => s.par.alignLoad
  | n + 1 => (s.par.plan[n]?.map PlanStep.target).getD 0

/-- The step in hand is of a kind. -/
def State.stepIs (s : State) (k : StepKind) : Bool := s.planStep.map PlanStep.kind == some k

/-- Test extension: EXT minus the datum (R119). -/
def State.testExt (s : State) : Int := s.scan.ext - s.seq.datum.getD 0

/-- A residual of `lc` kN is below `target` by more than `tol` per cent (R133, R144). -/
def residualLow (lc : Int) (target tol : Nat) : Bool := decide (lc * 100 < ((target * (100 - tol) : Nat) : Int))

/-! ## The drives -/

/-- Winch drive: PAYOUT, HOLD off, no latch (R82). -/
def State.winchOn (s : State) : Bool := s.placeIn .payout && !s.crew.hold && !s.held

/-- Grout valve (R95). -/
def State.valveOf (s : State) : Valve :=
  if s.crew.hold || s.held then .closed
  else if s.groutIn .fill then .opened
  else if s.groutIn .press then .modulated
  else .closed

/-- The sub-state or stage calls for raising: on a raising ramp, and to top the load up in HOLD_LOAD
(R115). -/
def State.raiseCalled (s : State) : Bool :=
  ((s.seqIn .ramp || s.seqIn .holdLoad) && s.seq.jack.raise)
    || ((s.stageIn .lift || s.stageIn .ramp) && s.aft.jack.raise)

/-- The sub-state or stage is one of the unloads (R116). -/
def State.unloading (s : State) : Bool :=
  s.seqIn .release || s.seqIn .failUnload || s.seqIn .abortUnload
    || s.stageIn .release || s.stageIn .abortUnload

/-- The sub-state or stage calls for lowering: on a lowering ramp, and in the unloads (R116). -/
def State.lowerCalled (s : State) : Bool :=
  ((s.seqIn .ramp || s.seqIn .release || s.seqIn .failUnload || s.seqIn .abortUnload)
      && s.seq.jack.lower)
    || ((s.stageIn .ramp || s.stageIn .release || s.stageIn .abortUnload) && s.aft.jack.lower)

/-- Jack pump (R115). -/
def State.pumpOn (s : State) : Bool :=
  s.lease.state == .holding && !s.crew.hold && !s.held && s.raiseCalled

/-- Relief valve (R116). -/
def State.reliefOpen (s : State) : Bool :=
  s.lease.state == .holding && !s.crew.hold && s.lowerCalled && (!s.held || s.unloading)

/-- Lock valve seating (R117, R150). -/
def State.seatingOn (s : State) : Bool := s.seqIn .seating || s.stageIn .seating

/-! ## The lamp -/

/-- Waiting for the crew (R78 row 6). -/
def State.waitsForCrew (s : State) : Bool :=
  s.placeIn .waitGo || s.groutIn .waitGo || s.placeIn .slack || s.groutIn .supplyWeak
    || s.crew.phase == .cured
    || (s.crew.hold && (s.crew.phase == .placing || s.crew.phase == .grouting
          || s.crew.phase == .stressing || s.toppingUp))

/-- The lamp's pattern: the first row that holds (R78); off until the start listen ends. -/
def State.lampPattern (s : State) : LampPattern :=
  if s.strapFault then .fastBlink
  else if s.crew.stage ≠ .online then .off
  else if s.crew.phase = .detached then .shortFlash
  else if s.held then .fastBlink
  else if s.crew.storeFull then .doubleBlink
  else if s.crew.phase = .setup ∨ s.crew.phase = .rejected then .off
  else if s.waitsForCrew then .steady
  else .slowBlink

/-- Whether a pattern shows the lamp lit at a time in microseconds since the pattern began (R78). -/
def lampLit (p : LampPattern) (us : Nat) : Bool :=
  match p with
  | .off => false
  | .steady => true
  | .slowBlink => us % 1000000 < 500000
  | .fastBlink => us % 200000 < 100000
  | .doubleBlink =>
    let t := us % 1500000
    t < 150000 || (300000 ≤ t && t < 450000)
  | .shortFlash => us % 4000000 < 100000

/-- The outputs as the state now gives them. A pattern that changes starts at the beginning of its cycle
(R78). -/
def State.drivesNow (s : State) : Drives :=
  { winch := s.winchOn, valve := s.valveOf, pump := s.pumpOn, relief := s.reliefOpen,
    seating := s.seatingOn, lamp := s.lampPattern,
    lampUs := if s.drives.lamp = s.lampPattern then s.drives.lampUs else 0 }

end Sys2Proof.Machine
end

