-- ==== Sys2Proof/Machine/Frames.lean ====
section
/-! DEFINITION. The byte layouts of the frames the controller sends (13_frame_formats.md). -/

namespace Sys2Proof.Machine

/-- A one-byte field. -/
def byteOf (n : Nat) : Byte := BitVec.ofNat 8 n

/-- A two-byte field. -/
def halfOf (n : Nat) : Half := BitVec.ofNat 16 n

/-- One bit of a flags byte. -/
def flagBit (b : Bool) (n : Nat) : Nat := if b then 2 ^ n else 0

/-- Label count and twelve characters; places past the count are sent as 0 (DESIGN CHOICE, log entry 34). -/
def labelBytes (l : List Byte) : List Byte :=
  byteOf l.length :: (l ++ List.replicate (12 - l.length) 0).take 12

/-- BEACON payload. Bits 1 to 7 of the flags byte are sent as 0: the layout gives bit 0 only (DESIGN CHOICE,
log entry 34). -/
def Beacon.payload (b : Beacon) : List Byte :=
  [byteOf (phaseCode b.phase), b.sub, byteOf (flagBit b.held 0), byteOf (leaseCode b.lease),
    byteOf ((b.ask.map fun a => classCode a.1).getD 0)]
  ++ be32 ((b.ask.map Prod.snd).getD 0) ++ be32 b.clock ++ be16 (halfOf b.load) ++ be16 b.wall
  ++ [byteOf b.roster.length] ++ b.roster.map byteOf

/-- REPLY payload. -/
def replyPayload (es : List ReplyEntry) : List Byte :=
  byteOf es.length
    :: es.flatMap fun e =>
      [byteOf e.target] ++ be32 e.stamp
        ++ [byteOf (replyVerdictCode e.verdict), byteOf (replyReasonCode e.reason)]

/-- ALERT payload. -/
def Alert.payload (a : Alert) : List Byte :=
  [byteOf (causeCode a.cause), byteOf (phaseCode a.phase)] ++ be16 a.value

/-- Installation record, part 0. The bytes of a part that is absent, and flag bits 3 to 7, are sent as 0 (DESIGN
CHOICE, log entry 34). -/
def InstRecord.bytes (r : InstRecord) : List Byte :=
  [0, byteOf (flagBit r.opening.isSome 0 + flagBit r.placement.isSome 1 + flagBit r.grout.isSome 2)]
  ++ labelBytes ((r.opening.map InstOpening.label).getD [])
  ++ be16 (halfOf ((r.opening.bind InstOpening.tendon).getD 0))
  ++ be16 ((r.opening.map InstOpening.counter).getD 0)
  ++ be16 (halfOf ((r.placement.map PlacementResult.ropeOut).getD 0))
  ++ be16 ((r.placement.map PlacementResult.limitEvents).getD 0)
  ++ be16 ((r.placement.map PlacementResult.slackPauses).getD 0)
  ++ [byteOf ((r.grout.map fun g => groutResultCode g.result).getD 0)]
  ++ be32 (BitVec.ofNat 32 ((r.grout.map GroutRecord.volume).getD 0))
  ++ be16 ((r.grout.map GroutRecord.yieldEvents).getD 0)

/-- Test slot, part 0. An absent residual, and the flag bits that the layout does not name, are sent as 0
(DESIGN CHOICE, log entry 34). -/
def SlotRecord.bytes (slot : Nat) (r : SlotRecord) : List Byte :=
  [byteOf slot, if r.isOpen then 1 else 2] ++ be16 r.number ++ [byteOf (slotKindCode r.kind)]
  ++ labelBytes r.label ++ be16 r.wall ++ [byteOf r.station]
  ++ be16 (halfOf r.digest.designLoad) ++ be16 (halfOf r.digest.proofTarget)
  ++ be16 (halfOf r.digest.lockOffTarget)
  ++ [byteOf r.digest.steps, byteOf (verdictCode r.verdict), byteOf (abortCode r.verdict),
      byteOf (flagBit r.extended 0 + flagBit r.lockOffLow 1 + flagBit r.lossExcess 2
        + flagBit r.residual.isSome 3)]
  ++ be16 (halfOf (r.residual.getD 0))
  ++ [byteOf r.points.length, byteOf r.topUps.length, byteOf (flagBit r.exported 0)]

/-- One point, 11 bytes. -/
def Point.bytes (p : Point) : List Byte :=
  [byteOf p.step] ++ be16 (halfOf p.load) ++ be32 (BitVec.ofInt 32 p.ext)
    ++ be32 (BitVec.ofNat 32 p.seconds)

/-- One top-up entry, 5 bytes. -/
def TopUpEntry.bytes (e : TopUpEntry) : List Byte :=
  be16 (halfOf e.before) ++ be16 (halfOf e.after) ++ [if e.ok then 1 else 2]

/-- Latch set of a STATUS report; bits 11 to 15 are sent as 0 (DESIGN CHOICE, log entry 34). -/
def latchBits (ls : List Latch) : Half := ls.foldl (fun w l => w ||| (1#16 <<< l.bit)) 0

/-- Channel set of a STATUS report. -/
def channelBits (cs : List Channel) : Byte := cs.foldl (fun w c => w ||| (1#8 <<< channelCode c)) 0

/-- Store summary of a STATUS report, 12 bytes. Bits that the layout does not name are sent as 0 (DESIGN CHOICE,
log entry 34). -/
def StoreSummary.bytes (t : StoreSummary) : List Byte :=
  [byteOf t.free, byteOf t.opened, byteOf t.closed, byteOf t.unexported] ++ be16 t.counter
  ++ [byteOf ((t.openSlot.map Prod.fst).getD 0)] ++ be16 ((t.openSlot.map Prod.snd).getD 0)
  ++ [byteOf (flagBit t.keepPin 0), byteOf (flagBit t.wouldOpen 0), byteOf t.jobsWaiting]

/-- One roster record of a STATUS report, 9 bytes; heard fields that are absent are sent as 0. Bits 4 to 7 of
the flags byte are sent as 0: the layout gives bits 0 to 3 only (DESIGN CHOICE, log entry 34). -/
def Entry.bytes (e : Entry) : List Byte :=
  [byteOf e.number, byteOf (presenceCode e.presence),
    byteOf (flagBit e.lostLatch 0 + flagBit e.heardHeld 1 + flagBit e.heardPhase.isSome 2
      + flagBit e.heard.isSome 3),
    byteOf (mismatchCode e.mismatch), byteOf ((e.heardPhase.map phaseCode).getD 0),
    (e.heard.map Heard.sub).getD 0, byteOf ((e.heard.map fun h => leaseCode h.lease).getD 0)]
  ++ be16 ((e.heard.map Heard.load).getD 0)

/-- STATUS content from offset 2. With no first cause its phase and value, and in every report the flag bits
that the layout does not name, are sent as 0 (DESIGN CHOICE, log entry 34). -/
def StatusReport.bytes (r : StatusReport) : List Byte :=
  [byteOf r.own, byteOf (flagBit r.bound 0 + flagBit r.hold 1 + flagBit r.lossExcess 4)]
  ++ be16 r.wall ++ labelBytes r.label ++ be16 r.groupMask
  ++ be16 r.rxErrors ++ be16 r.txDrops ++ be16 r.queryDrops
  ++ [byteOf (phaseCode r.phase), r.sub, r.stage, byteOf (holdReasonCode r.holdReason),
      byteOf r.stepIndex, byteOf r.topUpCount, byteOf (leaseCode r.lease),
      byteOf ((r.ask.map fun a => classCode a.1).getD 0)]
  ++ be32 ((r.ask.map Prod.snd).getD 0) ++ be32 r.clock ++ [byteOf r.deferred] ++ be16 r.askLapses
  ++ be16 (latchBits r.latches) ++ [channelBits r.named]
  ++ [byteOf ((r.firstCause.map fun c => causeCode c.cause).getD 0),
      byteOf ((r.firstCause.map fun c => phaseCode c.phase).getD 0)]
  ++ be16 ((r.firstCause.map FirstCause.value).getD 0)
  ++ [byteOf (((r.firstCause.bind FirstCause.channel).map channelCode).getD 0)]
  ++ be32 (BitVec.ofInt 32 r.jp) ++ be32 (BitVec.ofInt 32 r.ext)
  ++ be16 (BitVec.ofInt 16 r.lc) ++ be16 (BitVec.ofInt 16 r.gp) ++ be16 (BitVec.ofInt 16 r.gf)
  ++ be16 (BitVec.ofInt 16 r.hp) ++ be16 (BitVec.ofInt 16 r.wp) ++ be16 r.ro
  ++ r.store.bytes ++ [byteOf r.roster.length] ++ r.roster.flatMap Entry.bytes

/-- REPORT payload: answer code, what code, content. A content that the spec does not state fits the payload
(R2; log entry 32). -/
def Report.payload : Report → List Byte
  | .bindOk own start n => [5, 4, byteOf own, byteOf (phaseCode start), byteOf n]
  | .bindRefused i r => [6, 4, byteOf i, byteOf (refusalCode r)]
  | .plain a w => [byteOf (plainCode a), whatCode w]
  | .exportedOk slot n => [0, 3, byteOf slot] ++ be16 n
  | .installation r => [0, 2] ++ r.bytes
  | .freeSlot slot => [0, 2, byteOf slot, 0]
  | .slotHead slot r => [0, 2] ++ r.bytes slot
  | .points slot ps => [0, 2, byteOf slot, byteOf ps.length] ++ ps.flatMap Point.bytes
  | .topUps slot es => [0, 2, byteOf slot, byteOf es.length] ++ es.flatMap TopUpEntry.bytes
  | .unstated content => [0, 2] ++ content.take 198
  | .status r => [0, 1] ++ r.bytes

/-- Kind byte of a frame the controller sends. -/
def OutFrame.kind : OutFrame → Byte
  | .reply _ => 3
  | .ask (.ask _ _ _) => 2
  | .ask (.withdraw _) => 4
  | .ask .leave => 5
  | .alert _ => 7
  | .report _ _ => 10
  | .beacon _ => 1

/-- Destination: 63, but for a report, which goes to the station that asked (01_the_site_line.md). -/
def OutFrame.dst : OutFrame → Byte
  | .reply _ => 63
  | .ask _ => 63
  | .alert _ => 63
  | .report dst _ => dst
  | .beacon _ => 63

/-- Payload of a frame the controller sends. -/
def OutFrame.payload : OutFrame → List Byte
  | .reply es => replyPayload es
  | .ask (.ask c st n) => [byteOf (classCode c)] ++ be32 st ++ [byteOf n]
  | .ask (.withdraw st) => be32 st
  | .ask .leave => []
  | .alert a => a.payload
  | .report _ r => r.payload
  | .beacon b => b.payload

/-- The bytes of a frame as station `own` sends it (R2). -/
def OutFrame.wire (own : Nat) (f : OutFrame) : List Byte :=
  frameBytes f.dst (byteOf own) f.kind f.payload

/-- The bytes the transmitter is sending, none when it drives nothing (R2). -/
def State.wireNow (s : State) : List Byte :=
  match s.lif.tx with
  | .sending f _ => f.wire s.ownNumber
  | .free => []
  | .waitingQuiet => []
  | .backingOff _ => []

end Sys2Proof.Machine
end

