-- ==== Sys2Proof/Machine/StoreOps.lean ====
section
/-! DEFINITION. The record store's operations: what a write job changes, which hand-overs are accepted, the append queue, the choice of a slot (10_the_record_store.md). -/

namespace Sys2Proof.Machine

/-- The test slot with a number from 1 to 8, when it is not FREE. -/
def Contents.slot (c : Contents) (n : Nat) : Option SlotRecord :=
  match n with
  | 0 => none
  | k + 1 => (c.slots[k]?).getD none

/-- Change the record of one slot, when it is not FREE. -/
def Contents.editSlot (c : Contents) (n : Nat) (f : SlotRecord → SlotRecord) : Contents :=
  match n with
  | 0 => c
  | k + 1 => { c with slots := c.slots.modify k (Option.map f) }

/-- The change a write job makes (R174, R178, R179, R181, R184). -/
def applyJob (c : Contents) : Job → Contents
  | .header 0 _ _ => c
  | .header (k + 1) r n => { c with slots := c.slots.set k (some r), counter := n }
  | .point n p => c.editSlot n fun r => { r with points := r.points ++ [p] }
  | .extended n => c.editSlot n fun r => { r with extended := true }
  | .lockOffLow n => c.editSlot n fun r => { r with lockOffLow := true }
  | .closing n v res => c.editSlot n fun r => { r with isOpen := false, verdict := some v, residual := res }
  | .topUp n e => c.editSlot n fun r => { r with topUps := r.topUps ++ [e] }
  | .lossExcess n => c.editSlot n fun r => { r with lossExcess := true }
  | .exported n => c.editSlot n fun r => { r with exported := true }
  | .opening o => { c with inst := ⟨some o, none, none⟩ }
  | .placement p => { c with inst := { c.inst with placement := some p } }
  | .grout g => { c with inst := { c.inst with grout := some g } }

/-- A slot that is OPEN (R178). -/
def SlotRecord.takesTest (r : SlotRecord) : Bool := r.isOpen

/-- A CLOSED slot with verdict PASS or of kind TOPUP_ONLY (R179). -/
def SlotRecord.takesTopUps (r : SlotRecord) : Bool :=
  !r.isOpen && (r.verdict == some .pass || r.kind == .topUpOnly)

/-- Whether a hand-over is accepted; one that is not is discarded without a trace (R178, R179, R181). -/
def acceptsJob (c : Contents) : Job → Bool
  | .header n _ _ => 1 ≤ n && n ≤ 8
  | .point n _ =>
    ((c.slot n).map fun r => r.takesTest && decide (r.points.length < Config.maxPoints)).getD false
  | .extended n => ((c.slot n).map SlotRecord.takesTest).getD false
  | .lockOffLow n => ((c.slot n).map SlotRecord.takesTest).getD false
  | .closing n _ _ => ((c.slot n).map SlotRecord.takesTest).getD false
  | .topUp n _ =>
    ((c.slot n).map fun r => r.takesTopUps && decide (r.topUps.length < Config.maxTopUps)).getD false
  | .lossExcess n => ((c.slot n).map SlotRecord.takesTopUps).getD false
  | .exported n => ((c.slot n).map fun r => !r.isOpen).getD false
  | .opening _ => true
  | .placement _ => c.inst.opening.isSome
  | .grout _ => c.inst.opening.isSome

/-- The head job's write completes: the memory takes its change and the job leaves the queue (R180). -/
def Store.completeHead (t : Store) : Store :=
  match t.queue with
  | [] => t
  | j :: rest => { t with nv := applyJob t.nv j, queue := rest }

/-- A change made in the image, its job placed at the tail (R173). A full queue has had its head written
by then, since no append meets a full queue (R180; DEDUCED, log entry 9). -/
def Store.hand (t : Store) (j : Job) : Store :=
  let t' := if Config.queuePlaces ≤ t.queue.length then t.completeHead else t
  { t' with image := applyJob t'.image j, queue := t'.queue ++ [j] }

/-- A hand-over to the store. -/
def State.handOver (j : Job) (s : State) : State :=
  if acceptsJob s.store.image j then s.onStore fun t => t.hand j else s

/-- The next test number: from 65,535 to 1 (R175). -/
def nextNumber (c : Half) : Half := if c = 65535#16 then 1 else c + 1

/-- The slot number of the first slot that a test picks, counted from `n`. -/
def firstSlot (p : Option SlotRecord → Bool) (n : Nat) : List (Option SlotRecord) → Option Nat
  | [] => none
  | x :: rest => if p x then some n else firstSlot p (n + 1) rest

/-- A CLOSED slot with verdict ABORTED (R176 order 2). -/
def slotAborted : Option SlotRecord → Bool
  | some r =>
    !r.isOpen
      && (match r.verdict with
          | some (.aborted _) => true
          | some .pass => false
          | some (.fail _) => false
          | none => false)
  | none => false

/-- An exported CLOSED slot whose label differs from the binding's (R176 order 3). -/
def slotReusable (label : List Byte) : Option SlotRecord → Bool
  | some r => !r.isOpen && r.exported && r.label != label
  | none => false

/-- The reusable slot with the lowest test number, as slot number and test number (R176 order 3). Of two with
the same test number it is the one with the lower slot number (DESIGN CHOICE, log entry 38). -/
def lowestReusable (label : List Byte) (n : Nat) : List (Option SlotRecord) → Option (Nat × Half)
  | [] => none
  | x :: rest =>
    let later := lowestReusable label (n + 1) rest
    match x with
    | none => later
    | some r =>
      if slotReusable label (some r) then
        match later with
        | none => some (n, r.number)
        | some (m, k) => if r.number ≤ k then some (n, r.number) else some (m, k)
      else later

/-- The slot an opening would take, or none for STORE_FULL (R176). Without a binding there is no label to
pass over and no honour flag (log entry 20). -/
def State.chooseSlot (s : State) : Option Nat :=
  match firstSlot Option.isNone 1 s.store.image.slots with
  | some n => some n
  | none =>
    match firstSlot slotAborted 1 s.store.image.slots with
    | some n => some n
    | none =>
      if !s.store.keepPin || !s.par.keepHonour then
        (lowestReusable s.par.label 1 s.store.image.slots).map Prod.fst
      else none

/-- Target of the plan's first step of a kind, for the plan digest. -/
def planTarget (k : StepKind) (p : List PlanStep) : Nat :=
  ((p.find? fun x => x.kind == k).map PlanStep.target).getD 0

/-- A fresh header (R174, R177). -/
def State.freshSlot (s : State) (kind : SlotKind) : SlotRecord :=
  { isOpen := kind == .test
    number := nextNumber s.store.image.counter
    kind
    label := s.par.label
    wall := s.par.wall
    station := s.ownNumber
    digest :=
      { designLoad := s.par.designLoad, proofTarget := planTarget .proof s.par.plan,
        lockOffTarget := planTarget .lockOff s.par.plan, steps := s.par.plan.length }
    points := [], verdict := none, extended := false, lockOffLow := false, residual := none,
    topUps := [], lossExcess := false, exported := false }

/-- Open slot `n`: fresh header and raised counter in one write job (R175, R176). -/
def State.openSlot (kind : SlotKind) (n : Nat) (s : State) : State :=
  s.handOver (.header n (s.freshSlot kind) (nextNumber s.store.image.counter))

/-- Close an OPEN slot as the power-on scan does (R182). -/
def closePower : Option SlotRecord → Option SlotRecord
  | some r => if r.isOpen then some { r with isOpen := false, verdict := some (.aborted .power) } else some r
  | none => none

/-- Some slot is OPEN. -/
def Contents.anyOpen (c : Contents) : Bool :=
  c.slots.any fun x => (x.map SlotRecord.isOpen).getD false

/-- The OPEN slot with the lowest number closed, the others as they are (R182). -/
def closeFirst : List (Option SlotRecord) → List (Option SlotRecord)
  | [] => []
  | x :: rest =>
    if (x.map SlotRecord.isOpen).getD false then closePower x :: rest else x :: closeFirst rest

/-- The store summary of a STATUS report (R185). -/
def State.storeSummary (s : State) : StoreSummary :=
  let slots := s.store.image.slots
  let isOpen (x : Option SlotRecord) : Bool := (x.map SlotRecord.isOpen).getD false
  { free := slots.countP Option.isNone
    opened := slots.countP isOpen
    closed := slots.countP fun x => x.isSome && !isOpen x
    unexported := slots.countP fun x =>
      match x with
      | none => false
      | some r =>
        !r.isOpen && !r.exported
          && (r.kind == .topUpOnly
              || (match r.verdict with
                  | some .pass => true
                  | some (.fail _) => true
                  | some (.aborted _) => false
                  | none => false))
    counter := s.store.image.counter
    openSlot := (firstSlot isOpen 1 slots).bind fun n => (s.store.image.slot n).map fun r => (n, r.number)
    keepPin := s.store.keepPin
    wouldOpen := s.chooseSlot.isSome
    jobsWaiting := s.store.queue.length }

end Sys2Proof.Machine
end

