-- ==== Sys2Proof/Machine/Time.lean ====
section
/-! DEFINITION. Time: running timers advance together; suspended ones keep their elapsed time (00_scope.md; log entry 3). -/

namespace Sys2Proof.Machine

/-- A running timer's elapsed time after `d` microseconds, no further than its limit. -/
def Timer.tick (d : Nat) (t : Timer) : Timer :=
  if t.on then { t with elapsed := min t.limit (t.elapsed + d) } else t

/-- What is left on a timer. -/
def Timer.left (t : Timer) : Nat := t.limit - t.elapsed

/-- A timer at its limit that has been dealt with: it stays there and does not come due again (R166). -/
def Timer.spent (t : Timer) : Timer := { t with on := false, elapsed := t.limit }

/-- Jack timers: the ramp timer is suspended under HOLD, the unload timer runs only while the relief valve is
open, seating and settle always run (R117, R118, R123, R133, R150, R151). -/
def Jack.tick (hold relief : Bool) (d : Nat) (j : Jack) : Jack :=
  { j with
    ramp := if hold then j.ramp else j.ramp.tick d
    unload := if relief then j.unload.tick d else j.unload
    seating := j.seating.tick d
    settle := j.settle.tick d }

/-- A roster entry's beacon age, which does not run in RETIRED (R23). -/
def Entry.tick (d : Nat) (e : Entry) : Entry :=
  if e.presence = .retired then e else { e with age := e.age + d }

/-- `d` microseconds pass: every running timer advances (log entry 3). -/
def State.elapse (d : Nat) (s : State) : State :=
  { s with
    lif :=
      { s.lif with
        quiet := s.lif.quiet.tick d, backoff := s.lif.backoff.tick d, drive := s.lif.drive.tick d }
    roster :=
      { entries := s.roster.entries.map (Entry.tick d), beaconTimer := s.roster.beaconTimer.tick d }
    lease :=
      { s.lease with
        askTimer := s.lease.askTimer.tick d, reask := s.lease.reask.tick d, hold := s.lease.hold.tick d }
    crew := { s.crew with stopHold := s.crew.stopHold.tick d, listen := s.crew.listen.tick d }
    placement :=
      { s.placement with
        offTime := if s.crew.hold then s.placement.offTime else s.placement.offTime.tick d }
    grout :=
      { s.grout with
        yieldTimer := s.grout.yieldTimer.tick d, setTimer := s.grout.setTimer.tick d,
        cureTimer := s.grout.cureTimer.tick d }
    seq :=
      { s.seq with
        clock := if s.seq.clockOn then s.seq.clock + d else s.seq.clock
        jack := s.seq.jack.tick s.crew.hold s.reliefOpen d, holdTimer := s.seq.holdTimer.tick d }
    aft := { s.aft with jack := s.aft.jack.tick s.crew.hold s.reliefOpen d }
    drives := { s.drives with lampUs := s.drives.lampUs + d } }

/-- The expiry of a timer has been reported: what was left on it has passed (log entry 3). -/
def State.expire (t : Timer) (s : State) : State := s.elapse t.left

end Sys2Proof.Machine
end

