-- ==== Sys2Proof/Machine/Ops.lean ====
section
/-! DEFINITION. The shared operations: transmit slots, the step lease, the trip latches, requests, presence, and what closes every event. -/

namespace Sys2Proof.Machine

/-! ## Transmit slots (R11 to R15) -/

/-- Offer a frame to the ask slot: it replaces the one waiting; while listen-only it is discarded (R13,
R15). -/
def State.placeAsk (f : AskFrame) (s : State) : State :=
  if s.listenOnly then s else s.onLif fun l => { l with ask := some ⟨f, 0⟩ }

/-- Offer an ALERT to the alert slot (R13, R15). -/
def State.placeAlert (a : Alert) (s : State) : State :=
  if s.listenOnly then s else s.onLif fun l => { l with alert := some ⟨a, 0⟩ }

/-- Offer a BEACON to the beacon slot (R13, R15). -/
def State.placeBeacon (b : Beacon) (s : State) : State :=
  if s.listenOnly then s else s.onLif fun l => { l with beacon := some ⟨b, 0⟩ }

/-- An entry put into a batch: in place of the same neighbour's entry, else at the end (R12). -/
def putReply (e : ReplyEntry) (es : List ReplyEntry) : List ReplyEntry :=
  if es.any fun x => x.target == e.target then es.map fun x => if x.target = e.target then e else x
  else es ++ [e]

/-- Add one entry to the reply batch (R12, R15). -/
def State.addReply (e : ReplyEntry) (s : State) : State :=
  if s.listenOnly then s
  else s.onLif fun l => { l with batch := { l.batch with frame := putReply e l.batch.frame } }

/-- A report placed at the tail of the report FIFO (R14). -/
def State.pushReport (dst : Byte) (r : Report) (s : State) : State :=
  s.onLif fun l => { l with fifo := l.fifo ++ [⟨dst, r, 0⟩] }

/-- Entering listen-only: every slot and the FIFO are emptied, and a transmitter that is waiting or
backing off returns to free (R15). -/
def Lif.dropSlots (l : Lif) : Lif :=
  { l with
    batch := ⟨[], 0⟩, ask := none, alert := none, fifo := [], beacon := none
    tx := match l.tx with
      | .sending f n => .sending f n
      | .free => .free
      | .waitingQuiet => .free
      | .backingOff _ => .free
    backoff := .off }

/-- The quiet measure starts again from zero (R7). -/
def State.restartQuiet (s : State) : State :=
  s.onLif fun l => { l with quiet := .start Config.quietUs }

/-! ## The lease's clock, deferred list and state (R35 to R58) -/

/-- The clock takes a heard value that is higher (R35). -/
def State.raiseClock (v : Stamp) (s : State) : State :=
  s.onLease fun l => { l with clock := if l.clock < v then v else l.clock }

/-- The reply entry that grants a deferred ask (R44). -/
def Deferred.grant (d : Deferred) : ReplyEntry := ⟨d.number, d.stamp, .grant, .none⟩

/-- GRANT entries for the deferred entries that `p` picks, in list order, and those entries removed
(R44). -/
def State.grantThose (p : Deferred → Bool) (s : State) : State :=
  ((s.lease.deferred.filter p).foldl (fun t d => t.addReply d.grant) s).onLease fun l =>
    { l with deferred := l.deferred.filter fun d => !p d }

/-- R44: with the lease IDLE, the phase neither GROUTING nor SETTING and no top-up PENDING, the whole
list is granted; while a top-up is PENDING, its RESTORE entries. -/
def State.grantDeferred (s : State) : State :=
  if s.lease.state ≠ .idle || s.freshGrout then s
  else if s.pendingTopUp then s.grantThose fun d => d.cls == .restore
  else s.grantThose fun _ => true

/-- The lease enters IDLE: no current ask, no required set, ask and hold timers stopped, the deferred list
granted where R44's conditions hold (R49, R51, R58). -/
def State.toIdle (s : State) : State :=
  (s.onLease fun l =>
    { l with state := .idle, ask := none, required := [], askTimer := .off, hold := .off }).grantDeferred

/-- The current ask's stamp. -/
def State.askStamp (s : State) : Stamp := (s.lease.ask.map CurrentAsk.stamp).getD 0

/-- The current ask carries the abort flag. -/
def State.askAbort (s : State) : Bool := (s.lease.ask.map CurrentAsk.abort).getD false

/-- The request of the requester that owns the lease in this phase: the sequencer in STRESSING, the
aftercare monitor in LOCKED. -/
def State.request (s : State) : Option Request :=
  if s.crew.phase = .stressing then s.seq.request
  else if s.crew.phase = .locked then s.aft.request
  else none

/-- Replace that request. -/
def State.setRequest (r : Option Request) (s : State) : State :=
  if s.crew.phase = .stressing then s.onSeq fun q => { q with request := r }
  else if s.crew.phase = .locked then s.onAft fun a => { a with request := r }
  else s

/-- Change that request's status. -/
def State.setStatus (st : RequestStatus) (s : State) : State :=
  s.setRequest (s.request.map fun r => { r with status := st })

/-- The request waits with a hold reason. -/
def State.waitsWith (h : Option HoldReason) (s : State) : Bool :=
  s.request.map Request.status == some (.waiting h)

/-- A withdrawal in ASKING; the request waits with a hold reason (R51). -/
def State.withdrawFor (h : HoldReason) (s : State) : State :=
  if s.lease.state = .asking then
    ((s.placeAsk (.withdraw s.askStamp)).setStatus (.waiting (some h))).toIdle
  else s

/-- A withdrawal in ASKING after which the request is gone (R53, R55). -/
def State.withdrawGone (s : State) : State :=
  if s.lease.state = .asking then ((s.placeAsk (.withdraw s.askStamp)).setRequest none).toIdle
  else s

/-! ## Trip latches (R160 to R167) -/

/-- Placement ends the pay-out in hand (R91). -/
def Placement.atLatch (p : Placement) : Placement :=
  if p.sub = some .payout ∨ p.sub = some .limitOff then
    { p with sub := some .waitGo, offTime := .off, slackTime := 0 }
  else p

/-- No ramp in hand and nothing called for. -/
def Jack.stop (j : Jack) : Jack := { j with ramp := .off, raise := false, lower := false }

/-- The sequencer at a latch: the trip mark, and HALTED from RAMP or HOLD_LOAD (R136). -/
def Seq.atLatch (q : Seq) : Seq :=
  if q.sub = some .ramp ∨ q.sub = some .holdLoad then
    { q with tripMark := true, sub := some .halted, holdTimer := .off, jack := q.jack.stop }
  else { q with tripMark := true }

/-- The top-up at a latch: HALTED from LIFT or RAMP (R151). -/
def Aft.atLatch (a : Aft) : Aft :=
  if a.sub = some .topUp ∧ (a.stage = some .lift ∨ a.stage = some .ramp) then
    { a with stage := some .halted, jack := a.jack.stop }
  else a

/-- A latch setting announced to the operating blocks, each in its own phase (R91, R108, R136, R151). -/
def State.blocksAtLatch (s : State) : State :=
  { s with
    placement := if s.crew.phase = .placing then s.placement.atLatch else s.placement
    grout := if s.crew.phase = .grouting then { s.grout with sagTime := 0 } else s.grout
    seq := if s.crew.phase = .stressing then s.seq.atLatch else s.seq
    aft := if s.crew.phase = .locked then s.aft.atLatch else s.aft }

/-- A latch setting announced: the lease withdraws an ask without the abort flag, and the blocks act (R54,
R167). -/
def State.announce (s : State) : State :=
  (if s.askAbort then s else s.withdrawFor .held).blocksAtLatch

/-- The trip monitor's own record of a latch setting (R160, R161, R163). -/
def Trip.set (l : Latch) (phase : Phase) (value : Half) (ch : Option Channel) (t : Trip) : Trip :=
  { latches := if t.latches.contains l then t.latches else t.latches ++ [l]
    named := match ch with
      | none => t.named
      | some c => if t.named.contains c then t.named else t.named ++ [c]
    firstCause := if t.latches.isEmpty then some ⟨l.cause, phase, value, ch⟩ else t.firstCause
    jackTime := if l = .jackOver then 0 else t.jackTime
    groutTime := if l = .groutOver then 0 else t.groutTime
    extTime := if l = .extRunaway then 0 else t.extTime
    window := t.window }

/-- A latch sets: first cause, listen-only where the latch brings it, the ALERT, the announcement (R15,
R160, R162). -/
def State.setLatch (l : Latch) (value : Half) (ch : Option Channel) (s : State) : State :=
  let t := s.onTrip fun x => x.set l s.crew.phase value ch
  let u := if l = .lineJabber ∨ l = .duplicateId then t.onLif Lif.dropSlots else t
  (u.placeAlert ⟨l.cause, s.crew.phase, value⟩).announce

/-- A request to set a latch; one that is set does not set again (R160). -/
def State.latch (l : Latch) (value : Half) (s : State) : State :=
  if s.latched l then s else s.setLatch l value none

/-- A request to name a channel in SENSOR_FAULT (R160). Its rail time is no longer measured (R159). -/
def State.nameChannel (c : Channel) (s : State) : State :=
  if s.named c then s
  else
    (s.onScan fun x => { x with railTimes := x.railTimes.set (channelCode c) 0 }).setLatch .sensorFault
      (halfOf (channelCode c)) (some c)

/-! ## Jack work shared by tests and top-ups (R117, R118, R121, R122, R149, R150) -/

/-- Ramp limit: 120 times the load change divided by the ramp rate, rounded down, plus 60 s. -/
def State.rampLimitUs (target load : Nat) (s : State) : Nat :=
  (120 * (max target load - min target load) / s.par.rampRate + 60) * Config.secUs

/-- A ramp begins from the jack load of the latest scan (R121). -/
def State.rampFrom (target : Nat) (j : Jack) (s : State) : Jack :=
  { j with
    rampStart := s.jackLoad, rampRef := s.jackLoad
    ramp := .start (s.rampLimitUs target s.jackLoad), raise := false, lower := false }

/-- An unload begins: the relief valve is called, unless the jack is already below 500 kPa, which ends the unload
at the first scan with no lowering (R118, R131, R132, R140; DEDUCED, log entry 13). -/
def State.unloadFrom (j : Jack) (s : State) : Jack :=
  { j with
    ramp := .off
    unload := .start ((120 * s.jackLoad / s.par.rampRate + 60) * Config.secUs)
    seating := .off, raise := false, lower := !s.jackLow }

/-- The sequencer enters an unload sub-state (R118, R131, R132, R140). -/
def State.enterUnload (x : SeqSub) (s : State) : State :=
  s.onSeq fun q => { q with sub := some x, holdTimer := .off, jack := s.unloadFrom q.jack }

/-- The top-up enters an unload stage, with the relief valve called whatever the jack holds (R150, R152). -/
def State.enterTopUpUnload (x : TopUpStage) (s : State) : State :=
  s.onAft fun a => { a with stage := some x, jack := { s.unloadFrom a.jack with lower := true } }

/-! ## Taking a request and holding (R37, R38, R47) -/

/-- The lease tells the requester that it is HOLDING: RAMP, ABORT_UNLOAD, or the top-up's LIFT (R120, R139,
R149), the recovery time at 0 (DESIGN CHOICE, log entry 39). -/
def State.toldHolding (s : State) : State :=
  if s.seqIn .waitLease then
    s.onSeq fun q => { q with sub := some .ramp, jack := s.rampFrom s.stepTarget q.jack }
  else if s.seqIn .abortWait then s.enterUnload .abortUnload
  else if s.pendingTopUp then
    s.onAft fun a =>
      { a with
        sub := some .topUp, stage := some .lift, before := s.scan.lcTrusted.toNat, recovery := 0
        jack := s.rampFrom s.scan.lcTrusted.toNat a.jack }
  else s

/-- The lease enters HOLDING (R38, R47). -/
def State.enterHolding (s : State) : State :=
  (s.onLease fun l =>
    { l with state := .holding, askTimer := .off, hold := .start Config.holdUs }).toldHolding

/-- Every roster entry is PRESENT or RETIRED (R28). -/
def State.allPresent (s : State) : Bool :=
  s.roster.entries.all fun e => e.presence == .present || e.presence == .retired

/-- The entries that are PRESENT, in roster order, each unanswered (R38). -/
def State.presentMembers (s : State) : List Member :=
  (s.roster.entries.filter fun e => e.presence == .present).map fun e => ⟨e.number, .unanswered⟩

/-- The lease's checks of a presented request, in order (R37). -/
def State.checkRequest (r : Request) (s : State) : Presented :=
  if s.lease.state ≠ .idle then .notIdle
  else if s.crew.phase ≠ .stressing ∧ s.crew.phase ≠ .locked then .discarded
  else if s.crew.hold then .waits .paused
  else if s.held && !r.abort then .waits .held
  else if s.lease.clock = Config.lastStamp then .stampEnd
  else if !s.allPresent then .waits .neighbourNotPresent
  else if s.lease.reask.on && !r.abort then .waits .askBackoff
  else .taken

/-- Place the current ask in the ask slot and start the ask timer (R38, R43, R48). -/
def State.sendAsk (s : State) : State :=
  match s.lease.ask with
  | none => s
  | some a =>
    (s.placeAsk (.ask a.cls a.stamp a.count)).onLease fun l => { l with askTimer := .start Config.askUs }

/-- A request is taken (R38). -/
def State.take (r : Request) (s : State) : State :=
  let t := (s.onLease fun l =>
    { l with
      clock := l.clock + 1
      ask := some ⟨r.cls, r.abort, l.clock + 1, 1⟩
      required := s.presentMembers }).setStatus .taken
  if s.presentMembers.isEmpty then t.enterHolding
  else (t.onLease fun l => { l with state := .asking }).sendAsk

/-- The requester presents its request (R37). -/
def State.present (s : State) : State :=
  match s.request with
  | none => s
  | some r =>
    match s.checkRequest r with
    | .notIdle => s.setStatus (.waiting none)
    | .discarded => s
    | .waits h => s.setStatus (.waiting (some h))
    | .stampEnd => (s.setStatus (.waiting (some .held))).latch .stampEnd 0
    | .taken => s.take r

/-- A request that waits with this hold reason is presented again (R39). -/
def State.presentWaiting (h : Option HoldReason) (s : State) : State :=
  if s.waitsWith h then s.present else s

/-- The requester makes a new request and presents it. -/
def State.ask (cls : AskClass) (abort : Bool) (s : State) : State :=
  (s.setRequest (some ⟨cls, abort, .waiting none⟩)).present

/-- The requester releases the lease: in HOLDING it ends, in ASKING the ask is withdrawn, in IDLE nothing
happens (R55, R58). A request that waited for the lease to be IDLE is presented (R39). -/
def State.release (s : State) : State :=
  if s.lease.state = .holding then
    ((if s.request.map Request.status = some .taken then s.setRequest none else s).toIdle).presentWaiting
      none
  else s.withdrawGone

/-- With every member of the required set granted, the lease enters HOLDING (R47). -/
def State.checkComplete (s : State) : State :=
  if s.lease.state = .asking ∧ (s.lease.required.all fun m => m.mark == .granted) then s.enterHolding
  else s

/-! ## Presence (R21 to R28, R45, R56, R57) -/

/-- The roster entry of a number. -/
def State.entry (n : Nat) (s : State) : Option Entry := s.roster.entries.find? fun e => e.number == n

/-- A roster member: its number is one of the entries (R17). -/
def State.member (n : Nat) (s : State) : Bool := (s.entry n).isSome

/-- What the lease does with a presence change the roster reports (R45, R56). -/
def State.leaseHearsPresence (n : Nat) (new : Presence) (s : State) : State :=
  let t := if new = .retired then
      s.onLease fun l => { l with deferred := l.deferred.filter fun d => d.number != n }
    else s
  if t.lease.state = .asking ∧ (t.lease.required.any fun m => m.number == n) then
    if new = .lost ∨ new = .mismatch then t.withdrawFor .neighbourNotPresent
    else if new = .retired then
      (t.onLease fun l => { l with required := l.required.filter fun m => m.number != n }).checkComplete
    else t
  else t

/-- The roster reports a change of presence to the lease (R28); a request that waited with
NEIGHBOUR_NOT_PRESENT is presented again (R39). -/
def State.presenceChanged (n : Nat) (old new : Presence) (s : State) : State :=
  if old = new then s
  else if s.waitsWith (some .neighbourNotPresent) then (s.leaseHearsPresence n new).present
  else s.leaseHearsPresence n new

/-- An entry changed in place, and its change of presence, where there is one, reported. -/
def State.changeEntry (n : Nat) (f : Entry → Entry) (s : State) : State :=
  match s.entry n with
  | none => s
  | some e =>
    (s.onRoster fun r => { r with entries := r.entries.map fun x => if x.number = n then f x else x }).presenceChanged
      n e.presence (f e).presence

/-! ## The phase -/

/-- The phase machine moves the phase (R62). -/
def State.toPhase (p : Phase) (s : State) : State := s.onCrew fun c => { c with phase := p }

/-! ## Receiving (R3 to R6, R14) -/

/-- A valid frame on the line, before its kind matters: not heard while sending, the duplicate-number test,
the filter (R3, R4, R5; log entry 10). -/
def State.receive (dst src : Byte) (act : State → State) (s : State) : State :=
  if s.sending then s
  else
    let t := s.restartQuiet
    if t.own = some src.toNat then t.latch .duplicateId (halfOf src.toNat)
    else if t.accepts dst then act t
    else t

/-- The responder may take a query or a BIND (R14, R187). -/
def State.canTake (s : State) : Bool :=
  s.crew.stage == .online && decide (s.lif.fifo.length < Config.fifoPlaces) && !s.listenOnly

/-- A QUERY or BIND: only when addressed to the own number (R6), and only when it can be taken (R14). -/
def State.takeQuery (dst : Byte) (act : State → State) (s : State) : State :=
  if s.own ≠ some dst.toNat then s
  else if s.canTake then act s
  else s.onLif fun l => { l with queryDrops := satInc l.queryDrops }

/-! ## The end of every event -/

/-- Times of conditions that are no longer tested, and rail times of channels that left use, return to 0
in the same event (R159, R163, R165). -/
def State.clearTimes (s : State) : State :=
  (s.onTrip fun t =>
    { t with
      jackTime := if s.inUse .jp then t.jackTime else 0
      groutTime := if s.crew.phase = .grouting then t.groutTime else 0
      extTime := if s.seqIn .holdLoad then t.extTime else 0
      window := if s.seqIn .holdLoad then t.window else [] }).onScan fun x =>
    { x with railTimes := allChannels.map fun c => if s.inUse c then s.railTime c else 0 }

/-- A free transmitter with a frame in some slot waits quiet (R7). -/
def State.startTx (s : State) : State :=
  if s.lif.tx = .free && s.crew.stage = .online && !s.listenOnly && s.anySlot then
    s.onLif fun l => { l with tx := .waitingQuiet }
  else s

/-- The drives and the lamp follow in the same event (R78, R82, R95, R115, R116, R117). -/
def State.showDrives (s : State) : State := s.onDrives fun _ => s.drivesNow

/-- What closes every event. -/
def State.finish (s : State) : State := s.clearTimes.startTx.showDrives

end Sys2Proof.Machine
end

