-- ==== Sys2Proof/Machine/Placing.lean ====
section
/-! DEFINITION. Placement: what a scan, GO and STOP do in PLACING, and its commands (05_tendon_placement.md). The move to GROUTING is here with the grout controller's entry. -/

namespace Sys2Proof.Machine

/-! ## Scan (R83, R85, R86, R87, R92) -/

/-- Whether consumers may use a channel at the scan just published: SENSOR_FAULT neither names it nor comes
due for it (R159; log entry 17). -/
def State.trusts (c : Channel) (s : State) : Bool := !s.named c && decide (s.railTime c < 10)

/-- BREAK_IN is due (R92). -/
def State.breakInDue (s : State) : Bool :=
  s.crew.phase == .placing && decide (10 ≤ s.placement.breakTime) && !s.latched .breakIn

/-- Placement is complete (R88). -/
def State.placementDue (s : State) : Bool :=
  s.crew.phase == .placing && decide (s.par.tendonLength ≤ s.placement.ropeOut)

/-- Rope counted and the breakthrough time measured at a scan with `rise` new pulses (R83, R86, R92). The whole
rise belongs to the sub-state that stands at the scan (DESIGN CHOICE, log entry 35). A GP that SENSOR_FAULT names is
not used (R167), and the breakthrough time is 0 at such a scan (DEDUCED, log entry 45). -/
def State.countRope (rise : Nat) (s : State) : State :=
  let gain := if s.trusts .ro then rise else 0
  s.onPlacement fun p =>
    { p with
      ropeOut := min 65535 (p.ropeOut + gain)
      cleanDist := if p.sub = some .payout then min 200 (p.cleanDist + gain) else p.cleanDist
      breakTime :=
        if !s.named .gp && decide ((s.par.breakthrough : Int) < s.scan.gp) then min 10 (p.breakTime + 1) else 0 }

/-- The consecutive-limit count with this limit event, counted from 0 when the clean distance has reached
200 cm (R86; log entry 16). -/
def Placement.nextLimitCount (p : Placement) : Nat :=
  (if 200 ≤ p.cleanDist then 0 else p.limitCount) + 1

/-- A limit event; the fifth in a row latches WINCH_JAM (R85, R86). -/
def State.limitEvent (s : State) : State :=
  let n := s.placement.nextLimitCount
  let t := s.onPlacement fun p =>
    { p with limitEvents := satInc p.limitEvents, cleanDist := 0, slackTime := 0 }
  if 5 ≤ n then
    (t.onPlacement fun p => { p with sub := some .waitGo, limitCount := 0 }).latch .winchJam
      (halfOf s.placement.ropeOut)
  else
    t.onPlacement fun p =>
      { p with sub := some .limitOff, limitCount := n, offTime := .start s.par.offTimeUs }

/-- The limit and slack tests of a scan in PAYOUT (R85, R87). They use WP at the scan at which its rail time reaches
1 s, unless the naming is taken before the block (DEDUCED, log entry 42). -/
def State.limitAndSlack (s : State) : State :=
  if (s.par.pullLimit : Int) < s.scan.wp then s.limitEvent
  else
    s.onPlacement fun p =>
      { p with slackTime := if s.scan.wp < (s.par.slack : Int) then min 20 (p.slackTime + 1) else 0 }

/-- Placement at a new scan (R83, R85, R87, R88, R92). The limit and slack tests come after the
breakthrough and completion tests. -/
def State.placementScan (rise : Nat) (s : State) : State :=
  let t := s.countRope rise
  if t.breakInDue || t.placementDue then t
  else if t.placement.sub = some .payout ∧ !t.crew.hold ∧ !t.held then t.limitAndSlack
  else t

/-! ## Events a scan brings due -/

/-- BREAK_IN latches (R92); the value is the GP of the scan. -/
def State.breakInEvent (s : State) : State :=
  if s.breakInDue then s.latch .breakIn (BitVec.ofInt 16 s.scan.gp) else s

/-- The clean distance has reached 200 cm (R86). -/
def State.cleanDistanceEvent (s : State) : State :=
  if s.crew.phase = .placing ∧ 200 ≤ s.placement.cleanDist then
    s.onPlacement fun p => { p with limitCount := 0 }
  else s

/-- Slack found (R87). -/
def State.slackEvent (s : State) : State :=
  if s.placeIn .payout && decide (20 ≤ s.placement.slackTime) then
    s.onPlacement fun p =>
      { p with sub := some .slack, slackPauses := satInc p.slackPauses, slackTime := 0 }
  else s

/-- The grout controller enters GROUTING (R94). -/
def Grout.enter (g : Grout) : Grout :=
  { g with
    sub := some .waitGo, opening := 100, volume := 0, remainder := 0, refusalTime := 0, sagTime := 0,
    yieldTimer := .off, left := none, yieldCount := 0, cleanTime := 0, yieldEvents := 0,
    result := none, testsOpen := false }

/-- Placement leaves PLACING, its counts kept (R82). -/
def Placement.leave (p : Placement) : Placement :=
  { p with sub := none, offTime := .off, slackTime := 0, breakTime := 0 }

/-- Placement completes: the append, then the move to GROUTING (R65, R88). -/
def State.completePlacement (s : State) : State :=
  (((s.handOver (.placement ⟨s.placement.ropeOut, s.placement.limitEvents, s.placement.slackPauses⟩)).onPlacement
    Placement.leave).toPhase .grouting).onGrout Grout.enter

/-- Completion, after the breakthrough test of the same scan (R88, R92), and after the return of the
consecutive-limit count that the clean distance of that scan brings (R86; DESIGN CHOICE, log entry 47). -/
def State.placementEvent (s : State) : State :=
  if s.placementDue then s.breakInEvent.cleanDistanceEvent.completePlacement else s

/-- The off-time runs out (R85); it is suspended under HOLD (R90). -/
def State.offTimeEnd (s : State) : State :=
  if s.placement.offTime.on && s.placeIn .limitOff && !s.crew.hold then
    (s.expire s.placement.offTime).onPlacement fun p =>
      { p with sub := some .payout, offTime := .off, slackTime := 0 }
  else s

/-! ## GO and STOP -/

/-- GO in WAIT_GO or SLACK (R84). -/
def State.placementGo (s : State) : State :=
  s.onPlacement fun p => { p with sub := some .payout, slackTime := 0 }

/-- STOP in PLACING (R89). -/
def Placement.atStop (p : Placement) : Placement :=
  if p.sub = some .payout ∨ p.sub = some .limitOff ∨ p.sub = some .slack then
    { p with sub := some .waitGo, offTime := .off, slackTime := 0 }
  else p

/-! ## Commands -/

/-- OFF_TIME_END (R85). -/
def execOffTimeEnd (s : State) : Host.Outcome State Fault Refusal := .next s.offTimeEnd.finish

/-- SLACK_FOUND (R87). -/
def execSlackFound (s : State) : Host.Outcome State Fault Refusal := .next s.slackEvent.finish

/-- CLEAN_DISTANCE_REACHED (R86). -/
def execCleanDistanceReached (s : State) : Host.Outcome State Fault Refusal :=
  .next s.cleanDistanceEvent.finish

/-- PLACEMENT_COMPLETE (R88). -/
def execPlacementComplete (s : State) : Host.Outcome State Fault Refusal :=
  .next s.placementEvent.finish

/-- BREAK_IN (R92). -/
def execBreakIn (s : State) : Host.Outcome State Fault Refusal := .next s.breakInEvent.finish

end Sys2Proof.Machine
end

