-- ==== Sys2Proof/Machine/Grouting.lean ====
section
/-! DEFINITION. The grout controller: scans, the ends of grouting, header yield, the setting watch, set and cure, and its commands (06_grouting_and_cure.md). -/

namespace Sys2Proof.Machine

/-! ## What is due (R99, R101, R103) -/

/-- Grouting has begun: FILL, PRESS, YIELD or SUPPLY_WEAK (R98, R104, R106). -/
def State.groutBegun (s : State) : Bool :=
  s.groutIn .fill || s.groutIn .press || s.groutIn .yielding || s.groutIn .supplyWeak

/-- The sub-state is FILL or PRESS. -/
def State.groutOpen (s : State) : Bool := s.groutIn .fill || s.groutIn .press

/-- Fill volume in 0.1 L (06_grouting_and_cure.md, "Parameters"). -/
def Binding.fillVolume (b : Binding) : Nat := b.holeVolume * b.fillFactor / 10

/-- The volume limit has been reached (R99). -/
def State.volumeDue (s : State) : Bool :=
  s.groutOpen && s.grout.testsOpen && decide (10 * s.par.volumeLimit ≤ s.grout.volume)

/-- The refusal time, in minutes, has been reached in PRESS (R99, R100). -/
def State.refusalDue (s : State) : Bool :=
  s.groutIn .press && s.grout.testsOpen && decide (600 * s.par.refusalTime ≤ s.grout.refusalTime)

/-- The fill volume has been reached in FILL (R99). -/
def State.fillDue (s : State) : Bool :=
  s.groutIn .fill && s.grout.testsOpen && decide (s.par.fillVolume ≤ s.grout.volume)

/-- A header sag has been found (R101). -/
def State.sagDue (s : State) : Bool :=
  s.groutOpen && decide (20 ≤ s.grout.sagTime) && !s.volumeDue && !s.refusalDue

/-! ## Scan (R96, R98, R100, R101, R103) -/

/-- Grout counted at a scan (R98). -/
def State.countGrout (s : State) : State :=
  if s.groutBegun && s.trusts .gf then
    s.onGrout fun g =>
      let r := g.remainder + s.scan.gf.toNat
      { g with volume := min 1000000 (g.volume + r / 600), remainder := r % 600 }
  else s

/-- The opening after one adjustment toward the stage pressure (R96). -/
def adjustOpening (gp : Int) (stage opening : Nat) : Nat :=
  if gp < (stage : Int) then min 100 (opening + 5)
  else if (stage : Int) < gp then opening - 5
  else opening

/-- The modulated valve at a scan: the opening and the refusal timer (R96, R100). The refusal timer uses GF at the
scan at which its rail time reaches 1 s (DEDUCED, log entry 42). -/
def State.modulate (s : State) : State :=
  if s.valveOf = .modulated then
    s.onGrout fun g =>
      { g with
        opening := if s.trusts .gp then adjustOpening s.scan.gp s.par.stagePressure g.opening
          else g.opening
        refusalTime := if s.scan.gf < (s.par.refusalFlow : Int) then g.refusalTime + 1 else 0 }
  else s

/-- Sag and clean time at a scan with the valve open and HP trusted (R101, R103). R103 says that the clean time
runs and not by how much: a scan at or above the minimum adds 0.1 s to it (DEDUCED, log entry 15). -/
def State.measureHeader (s : State) : State :=
  if s.valveOf ≠ .closed ∧ s.trusts .hp then
    s.onGrout fun g =>
      if s.scan.hp < (s.par.headerMin : Int) then
        { g with sagTime := min 20 (g.sagTime + 1), cleanTime := 0 }
      else { g with sagTime := 0, cleanTime := min 600 (g.cleanTime + 1) }
  else s

/-- The grout controller at a new scan in GROUTING; a scan that ends grouting finds no sag (R99). The opening is
adjusted after the count and before the tests of the same scan (R96; DESIGN CHOICE, log entry 36). -/
def State.groutScan (s : State) : State :=
  let t := (s.countGrout.modulate).onGrout fun g => { g with testsOpen := s.groutOpen }
  if t.volumeDue || t.refusalDue then t else t.measureHeader

/-- The breakthrough watch at a new scan in SETTING (R111). -/
def State.settingScan (s : State) : State :=
  s.onGrout fun g =>
    if !s.trusts .gp then { g with breakTime := 0 }
    else
      match g.watch with
      | .unarmed => if s.scan.gp ≤ (s.par.breakthrough : Int) then { g with watch := .armed } else g
      | .armed =>
        { g with breakTime := if (s.par.breakthrough : Int) < s.scan.gp then min 10 (g.breakTime + 1) else 0 }
      | .alerted => g

/-! ## The end of grouting (R105) -/

/-- The grout controller's own state at the end of grouting, as SETTING begins (R105, R110). R105 is silent on
the sag time and on the left sub-state of a grouting that STOP ends: 0 and absent (DESIGN CHOICE, log entry 37). -/
def Grout.close (r : GroutResult) (setUs : Nat) (g : Grout) : Grout :=
  { g with
    sub := none, result := some r, refusalTime := 0, sagTime := 0, yieldTimer := .off, left := none,
    testsOpen := false, watch := .unarmed, breakTime := 0, setTimer := .start setUs }

/-- Grouting ends with a result: the append, the move to SETTING, the set timer (R65, R105). A clean time of 60 s
that the same scan brought leaves the consecutive-yield count as it stands (DESIGN CHOICE, log entry 47). -/
def State.endGrouting (r : GroutResult) (s : State) : State :=
  ((s.handOver (.grout ⟨r, s.grout.volume, s.grout.yieldEvents⟩)).toPhase .setting).onGrout
    (Grout.close r (s.par.setTime * Config.hourUs))

/-- The volume limit ends grouting (R99). -/
def State.volumeEvent (s : State) : State := if s.volumeDue then s.endGrouting .volumeLimit else s

/-- Refusal ends grouting, unless the volume limit comes first (R99). -/
def State.refusalEvent (s : State) : State :=
  if s.volumeDue then s.endGrouting .volumeLimit
  else if s.refusalDue then s.endGrouting .refusal
  else s

/-- The fill volume moves FILL to PRESS, unless the volume limit comes first (R99). -/
def State.fillEvent (s : State) : State :=
  if s.volumeDue then s.endGrouting .volumeLimit
  else if s.fillDue then
    s.onGrout fun g => { g with sub := some .press, refusalTime := 0 }
  else s

/-! ## Header yield (R101 to R103) -/

/-- Yield time: 20 s plus 2 s times the own number (R102). -/
def State.yieldUs (s : State) : Nat := (20 + 2 * s.ownNumber) * Config.secUs

/-- A sag found: YIELD, or SUPPLY_WEAK at the fourth (R101, R103). -/
def Grout.sag (yieldUs : Nat) (g : Grout) : Grout :=
  { g with
    sub := if g.yieldCount < 3 then some .yielding else some .supplyWeak
    left := g.sub, sagTime := 0, cleanTime := 0, testsOpen := false
    yieldEvents := satInc g.yieldEvents, yieldCount := min 4 (g.yieldCount + 1)
    yieldTimer := if g.yieldCount < 3 then .start yieldUs else .off }

/-- A header sag, after the move from FILL to PRESS of the same scan (R99, R101). -/
def State.sagEvent (s : State) : State :=
  if s.sagDue then s.fillEvent.onGrout (Grout.sag s.yieldUs) else s

/-- The sub-state that was left is taken up again (R102, R103). -/
def Grout.resume (g : Grout) : Grout :=
  { g with
    sub := some (g.left.getD .fill), left := none, sagTime := 0, cleanTime := 0, yieldTimer := .off }

/-- The yield timer runs out (R102). -/
def State.yieldEnd (s : State) : State :=
  if s.grout.yieldTimer.on && s.groutIn .yielding then
    (s.expire s.grout.yieldTimer).onGrout Grout.resume
  else s

/-- The clean time has reached 60 s (R103). -/
def State.cleanTimeEvent (s : State) : State :=
  if s.groutOpen && decide (600 ≤ s.grout.cleanTime) then s.onGrout fun g => { g with yieldCount := 0 }
  else s

/-! ## GO and STOP -/

/-- GO in WAIT_GO (R97). -/
def State.groutGo (s : State) : State :=
  s.onGrout fun g => { g with sub := some .fill, sagTime := 0, cleanTime := 0, yieldCount := 0 }

/-- GO in SUPPLY_WEAK (R103). -/
def State.supplyGo (s : State) : State := s.onGrout fun g => { g.resume with yieldCount := 0 }

/-- STOP in GROUTING (R106). -/
def State.groutStop (s : State) : State := if s.groutBegun then s.endGrouting .stopped else s

/-! ## ALERT heard (R27, R104, R197) -/

/-- The roster notes an ALERT from a member (R27). -/
def State.noteAlert (n : Nat) (cause : AlertCause) (phase : Phase) (s : State) : State :=
  s.onRoster fun r =>
    { r with
      entries := r.entries.map fun e =>
        if e.number = n then
          { e with heardPhase := some phase, heardHeld := e.heardHeld || cause.isTrip }
        else e }

/-- An ALERT at the roster and the grout controller (R27, R104, R197). -/
def State.hearAlert (src cause phase : Byte) (s : State) : State :=
  match causeOfCode cause.toNat, phaseOfCode phase.toNat with
  | some c, some p =>
    if s.bound && s.member src.toNat then
      let t := s.noteAlert src.toNat c p
      if c = .breakthrough ∧ t.groutBegun then t.endGrouting .communicated else t
    else s
  | _, _ => s

/-! ## Setting and curing (R110 to R112) -/

/-- The breakthrough watch has found 1 s of grout (R111). R111 gives the breakthrough time no value once the watch
is alerted: 0 (DESIGN CHOICE, log entry 37). -/
def State.settingEvent (s : State) : State :=
  if s.crew.phase = .setting ∧ s.grout.watch = .armed ∧ 10 ≤ s.grout.breakTime then
    (s.placeAlert ⟨.breakthrough, .setting, BitVec.ofInt 16 s.scan.gp⟩).onGrout fun g =>
      { g with watch := .alerted, breakTime := 0 }
  else s

/-- SETTING gives way to CURING: the watch stops, the cure timer starts, the deferred list is granted
(R44, R65, R110). The stopped watch is held unarmed, its breakthrough time at 0 (DESIGN CHOICE, log entry 37). -/
def State.toCuring (s : State) : State :=
  ((s.toPhase .curing).onGrout fun g =>
    { g with
      setTimer := .off, watch := .unarmed, breakTime := 0
      cureTimer := .start (s.par.cureTime * Config.hourUs) }).grantDeferred

/-- The set timer expires (R110). -/
def State.setEnd (s : State) : State :=
  if s.grout.setTimer.on && s.crew.phase == .setting then (s.expire s.grout.setTimer).toCuring else s

/-- The cure timer expires (R112). -/
def State.cureEnd (s : State) : State :=
  if s.grout.cureTimer.on && s.crew.phase == .curing then
    ((s.expire s.grout.cureTimer).onGrout fun g => { g with cureTimer := .off }).toPhase .cured
  else s

/-! ## Commands -/

/-- FILL_COMPLETE (R99). -/
def execFillComplete (s : State) : Host.Outcome State Fault Refusal := .next s.fillEvent.finish

/-- VOLUME_LIMIT (R99). -/
def execVolumeLimit (s : State) : Host.Outcome State Fault Refusal := .next s.volumeEvent.finish

/-- REFUSAL (R99). -/
def execRefusal (s : State) : Host.Outcome State Fault Refusal := .next s.refusalEvent.finish

/-- HEADER_SAG (R101). -/
def execHeaderSag (s : State) : Host.Outcome State Fault Refusal := .next s.sagEvent.finish

/-- YIELD_END (R102). -/
def execYieldEnd (s : State) : Host.Outcome State Fault Refusal := .next s.yieldEnd.finish

/-- CLEAN_TIME_REACHED (R103). -/
def execCleanTimeReached (s : State) : Host.Outcome State Fault Refusal := .next s.cleanTimeEvent.finish

/-- SETTING_BREAKTHROUGH (R111). -/
def execSettingBreakthrough (s : State) : Host.Outcome State Fault Refusal := .next s.settingEvent.finish

/-- SET_TIMER_END (R110). -/
def execSetTimerEnd (s : State) : Host.Outcome State Fault Refusal := .next s.setEnd.finish

/-- CURE_TIMER_END (R112). -/
def execCureTimerEnd (s : State) : Host.Outcome State Fault Refusal := .next s.cureEnd.finish

/-- ALERT (R104). The value is not read. -/
def execAlert (dst src cause phase : Byte) (_value : Half) (s : State) :
    Host.Outcome State Fault Refusal :=
  .next (s.receive dst src fun t => t.hearAlert src cause phase).finish

end Sys2Proof.Machine
end

