-- ==== Sys2Proof/Machine/Aftercare.lean ====
section
/-! DEFINITION. The aftercare monitor: LOCKED, the residual watch, the pending top-up, its stages and its commands (08_aftercare_and_top_up.md); the ramp that tests and top-ups share (R122). -/

namespace Sys2Proof.Machine

/-! ## The ramp at a scan (R122, R149) -/

/-- The jack load lies within the load tolerance of a target, above or below (R122). -/
def State.atTarget (target : Nat) (s : State) : Bool :=
  decide (s.jackLoad ≤ target + s.loadTolerance) && decide (target ≤ s.jackLoad + s.loadTolerance)

/-- The ramp reference from the ramp timer, held at the target once reached (R122; log entry 24). -/
def State.rampReference (target : Nat) (j : Jack) (s : State) : Nat :=
  let gain := s.par.rampRate * j.ramp.elapsed / (60 * Config.secUs)
  if j.rampStart ≤ target then min target (j.rampStart + gain) else max target (j.rampStart - gain)

/-- The reference moved and the drives called, on a ramp that may raise or lower (R122). -/
def State.rampCalls (target : Nat) (j : Jack) (s : State) : Jack :=
  let ref := s.rampReference target j
  { j with
    rampRef := ref
    raise := decide (j.rampStart < target) && decide (s.jackLoad < ref)
    lower := decide (target < j.rampStart) && decide (ref < s.jackLoad) }

/-- The reference moved and the pump called while the load is below it, in LIFT (R149). -/
def State.liftCalls (target : Nat) (j : Jack) (s : State) : Jack :=
  let ref := s.rampReference target j
  { j with rampRef := ref, raise := decide (s.jackLoad < ref), lower := false }

/-- A seating stroke begins (R117, R150). -/
def Jack.seat (j : Jack) : Jack := { j.stop with seating := .start Config.seatingUs }

/-- A settle begins (R132, R150). -/
def Jack.settleFrom (j : Jack) : Jack :=
  { j with
    unload := .off, lower := false, settle := .start Config.settleUs, settled := false, readDue := false }

/-- The settle timer stands at its limit, its end not yet taken by its command (log entry 3). -/
def Jack.settleOver (j : Jack) : Bool := j.settle.on && decide (j.settle.limit ≤ j.settle.elapsed)

/-- The settle timer's end is taken (R133, R150). -/
def Jack.endSettle (j : Jack) : Jack := { j with settle := .off, settled := true }

/-- An unload ends at a scan with JP below 500 kPa that may be used (R118, R150). -/
def State.unloadEnds (s : State) : Bool := s.jackLow && s.trusts .jp

/-! ## Entering LOCKED (R143) -/

/-- The aftercare monitor enters LOCKED. R143 is silent on the ramp start load and the ramp reference: 0
(DESIGN CHOICE, log entry 39). -/
def State.enterLocked (target : Nat) (slot : Option Nat) (s : State) : State :=
  s.onAft fun a =>
    { a with
      sub := some .watch, stage := none, target := some target, slot, lowTime := 0, recovery := 0
      request := none, jack := .reset, count := 0, lossExcess := false }

/-! ## PENDING (R145 to R148) -/

/-- The lock-off target; 0 before LOCKED. -/
def State.lockTarget (s : State) : Nat := s.aft.target.getD 0

/-- The residual is low (R144). -/
def State.residualIsLow (s : State) : Bool := residualLow s.scan.lc s.lockTarget s.par.lossTol

/-- With no slot in hand, a TOPUP_ONLY slot is opened where the store gives one, and becomes the top-up slot
(R145). -/
def State.openTopUpSlot (s : State) : State :=
  match s.aft.slot, s.chooseSlot with
  | none, some n => (s.openSlot .topUpOnly n).onAft fun a => { a with slot := some n }
  | none, none => s
  | some _, _ => s

/-- The request with its slot in hand, or one that waits with STORE_FULL when no slot opens (R145). -/
def State.askSlot (s : State) : State :=
  let t := s.openTopUpSlot
  if t.aft.slot.isSome then t.ask .restore false
  else t.onAft fun a => { a with request := some ⟨.restore, false, .waiting (some .storeFull)⟩ }

/-- Entry to PENDING (R145). -/
def State.enterPending (s : State) : State :=
  (s.onAft fun a => { a with sub := some .pending, lowTime := 0, recovery := 0 }).askSlot

/-- The watch finds a low residual with the count at 3 (R153): the flag, the mark for the slot, the ALERT
(R162). -/
def State.raiseLossExcess (s : State) : State :=
  let t := s.onAft fun a => { a with lowTime := 0, lossExcess := true }
  let u := match s.aft.slot with
    | some n => t.handOver (.lossExcess n)
    | none => t
  u.placeAlert ⟨.lossExcess, .locked, halfOf s.scan.lc.toNat⟩

/-- The low time has reached the deglitch time (R144). -/
def State.lowDue (s : State) : Bool :=
  s.crew.phase == .locked && s.aft.sub == some .watch && !s.aft.lossExcess
    && decide (0 < s.aft.lowTime) && decide (s.par.topUpScans ≤ s.aft.lowTime)

/-- The low time reaches the deglitch time (R144, R145, R153). -/
def State.lowEvent (s : State) : State :=
  if s.lowDue then (if s.aft.count < 3 then s.enterPending else s.raiseLossExcess) else s

/-- The recovery time has reached the deglitch time before the lease is HOLDING (R147). -/
def State.recoveryDue (s : State) : Bool :=
  s.pendingTopUp && decide (0 < s.aft.recovery) && decide (s.par.topUpScans ≤ s.aft.recovery)
    && s.lease.state != .holding

/-- The pending top-up is given up: the ask withdrawn or the request dropped, WATCH, and the deferred list
granted (R44, R147). The recovery time is 0 from then on (DESIGN CHOICE, log entry 39). A request that waits under
STAMP_END is dropped like any other (R146, R147; DEDUCED, log entry 44). -/
def State.recoveryEvent (s : State) : State :=
  if s.recoveryDue then
    (s.withdrawGone.onAft fun a =>
      { a with sub := some .watch, request := none, lowTime := 0, recovery := 0 }).grantDeferred
  else s

/-- A retry for a slot (R146). Where it opens one while the recovery time has reached the deglitch time, which
is taken first is a free value: with the recovery first, the slot stays the top-up slot and no request is
presented (R154; log entry 31). -/
def State.retrySlot (s : State) : State :=
  if s.recoveryDue && s.openTopUpSlot.aft.slot.isSome then
    let u := s.drawFree
    if Config.recoveryFirst s.free then u.openTopUpSlot.recoveryEvent else u.askSlot
  else s.askSlot

/-- A top-up that waits with STORE_FULL asks afresh for a slot (R146). -/
def State.retryStoreFull (s : State) : State :=
  if s.pendingTopUp && s.waitsWith (some .storeFull) then s.retrySlot else s

/-! ## The end of a top-up (R150, R152, R153) -/

/-- A top-up ends: the entry, the count, the release, WATCH (R150, R152). The ramp start load, the ramp reference
and the recovery time are 0 from then on (DESIGN CHOICE, log entry 39). -/
def State.endTopUp (after : Nat) (ok : Bool) (s : State) : State :=
  let t := match s.aft.slot with
    | some n => s.handOver (.topUp n ⟨s.aft.before, after, ok⟩)
    | none => s
  ((t.onAft fun a => { a with count := a.count + 1 }).release).onAft fun a =>
    { a with sub := some .watch, stage := none, lowTime := 0, recovery := 0, request := none, jack := .reset }

/-- The after load of a completed top-up is read from the latest scan, which is the one to be read (R150; log
entry 14). -/
def State.completeTopUp (s : State) : State := s.endTopUp s.scan.lc.toNat true

/-- An aborted top-up ends with the latest trusted LC (R152). R152 does not say, as R149 and R150 do, that a value
below 0 is taken as 0: the model takes it so (DEDUCED, log entry 40). -/
def State.abortTopUp (s : State) : State := s.endTopUp s.scan.lcTrusted.toNat false

/-! ## Scan (R144, R147, R149, R150) -/

/-- The watch at a scan (R144). -/
def State.watchScan (s : State) : State :=
  s.onAft fun a =>
    if a.lossExcess then a
    else if s.trusts .lc && s.residualIsLow then { a with lowTime := min s.par.topUpScans (a.lowTime + 1) }
    else { a with lowTime := 0 }

/-- The pending condition at a scan (R147). -/
def State.pendingScan (s : State) : State :=
  s.onAft fun a =>
    if s.trusts .lc && !s.residualIsLow then
      { a with recovery := min s.par.topUpScans (a.recovery + 1) }
    else { a with recovery := 0 }

/-- LIFT and RAMP at a scan: the end of the ramp first (R149, R150). -/
def State.topUpRampScan (lift : Bool) (s : State) : State :=
  if lift then
    if s.atTarget s.aft.before then
      s.onAft fun a => { a with stage := some .ramp, jack := s.rampFrom s.lockTarget a.jack }
    else s.onAft fun a => { a with jack := s.liftCalls s.aft.before a.jack }
  else if s.atTarget s.lockTarget then
    s.onAft fun a => { a with stage := some .seating, jack := a.jack.seat }
  else s.onAft fun a => { a with jack := s.rampCalls s.lockTarget a.jack }

/-- The relief valve is called at a scan at which an unload goes on. -/
def State.lowerTopUp (s : State) : State := s.onAft fun a => { a with jack := { a.jack with lower := true } }

/-- SETTLE at a scan at or after the end of the settle, not taken under a fault naming LC: the after load is
read, or left for the command of the settle's end where that has not come yet (R150; log entries 4, 14). -/
def State.topUpSettleScan (s : State) : State :=
  if !s.trusts .lc then s
  else if s.aft.jack.settled then s.completeTopUp
  else if s.aft.jack.settleOver then s.onAft fun a => { a with jack := { a.jack with readDue := true } }
  else s

/-- A stage of a top-up at a scan. An unload is tested at the scans published after its entry, the first of which
stands for the scan at its entry (R150; DEDUCED, log entry 46). -/
def State.stageScan (x : TopUpStage) (s : State) : State :=
  match x with
  | .lift => s.topUpRampScan true
  | .ramp => s.topUpRampScan false
  | .release =>
    if s.unloadEnds then s.onAft fun a => { a with stage := some .settle, jack := a.jack.settleFrom }
    else s.lowerTopUp
  | .abortUnload => if s.unloadEnds then s.abortTopUp else s.lowerTopUp
  | .settle => s.topUpSettleScan
  | .seating => s
  | .halted => s

/-- The aftercare monitor at a new scan in LOCKED. -/
def State.aftScan (s : State) : State :=
  match s.aft.sub with
  | none => s
  | some .watch => s.watchScan
  | some .pending => s.pendingScan
  | some .topUp =>
    match s.aft.stage with
    | none => s
    | some x => s.stageScan x

/-! ## Timers, STOP and detaching -/

/-- The top-up seating timer ends (R150). -/
def State.topUpSeatingEnd (s : State) : State :=
  if s.stageIn .seating && s.aft.jack.seating.on then
    (s.expire s.aft.jack.seating).enterTopUpUnload .release
  else s

/-- The top-up settle timer ends. The scan to be read is the latest one when it came at or after that moment;
otherwise the next that is not taken under a fault naming LC (R150; log entry 14). -/
def State.topUpSettleEnd (s : State) : State :=
  if s.stageIn .settle && s.aft.jack.settle.on then
    let t := (s.expire s.aft.jack.settle).onAft fun a => { a with jack := a.jack.endSettle }
    if s.aft.jack.readDue then t.completeTopUp else t
  else s

/-- The reading of a settle whose end no command has taken (log entry 4). -/
def State.topUpReadEvent (s : State) : State := if s.aft.jack.readDue then s.topUpSettleEnd else s

/-- STOP in LOCKED, after the lease has withdrawn an ask that was out (R53, R148, R152); `asked` says
whether one was. -/
def State.aftStop (asked : Bool) (s : State) : State :=
  if s.stageIn .lift || s.stageIn .ramp || s.stageIn .halted then s.enterTopUpUnload .abortUnload
  else if s.pendingTopUp then (if asked then s.ask .restore false else s.retryStoreFull)
  else s

/-- Aftercare stops as the controller detaches (R69): no sub-state, no stage, the low and recovery times and the
ramp values at 0 (DESIGN CHOICE, log entry 39). -/
def Aft.detach (a : Aft) : Aft :=
  { a with sub := none, stage := none, request := none, lowTime := 0, recovery := 0, jack := .reset }

/-! ## Commands -/

/-- LOW_TIME_REACHED (R144). -/
def execLowTimeReached (s : State) : Host.Outcome State Fault Refusal := .next s.lowEvent.finish

/-- RECOVERY_TIME_REACHED (R147). -/
def execRecoveryTimeReached (s : State) : Host.Outcome State Fault Refusal :=
  .next s.recoveryEvent.finish

/-- TOPUP_SEATING_END (R150). -/
def execTopupSeatingEnd (s : State) : Host.Outcome State Fault Refusal := .next s.topUpSeatingEnd.finish

/-- TOPUP_SETTLE_END (R150). -/
def execTopupSettleEnd (s : State) : Host.Outcome State Fault Refusal := .next s.topUpSettleEnd.finish

end Sys2Proof.Machine
end

