-- ==== Sys2Proof/Machine/Stressing.lean ====
section
/-! DEFINITION. The stressing sequencer: the step cycle, alignment, the proof hold, lock-off, the ends of a test, and its commands (07_stressing_and_the_proof_test.md). -/

namespace Sys2Proof.Machine

/-! ## Points and the end of a test (R130, R131, R134, R140) -/

/-- A hand-over for the slot of the current test. -/
def State.handTest (job : Nat → Job) (s : State) : State :=
  match s.seq.slot with
  | none => s
  | some n => s.handOver (job n)

/-- A point appended: step index, load, test extension, whole seconds of the test clock (R130). -/
def State.addPoint (load : Nat) (ext : Int) (s : State) : State :=
  s.handTest fun n => .point n ⟨s.seq.step, load, ext, s.seq.clock / Config.secUs⟩

/-- The closing of the slot; a verdict that is absent hands nothing (log entry 30). -/
def State.closeTest (v : Option Verdict) (residual : Option Nat) (s : State) : State :=
  match v with
  | none => s
  | some x => s.handTest fun n => .closing n x residual

/-- The sequencer with no test in hand (R119, R136). The spec is silent on the ramp start load and the ramp
reference from then on: 0 (DESIGN CHOICE, log entry 39). -/
def Seq.leave (q : Seq) : Seq :=
  { q with
    sub := none, request := none, clockOn := false, jack := .reset, holdTimer := .off,
    tripMark := false, slot := none }

/-- A test ends: the closing, the release, the move of the phase (R67, R131, R134, R140). -/
def State.endTest (v : Option Verdict) (residual : Option Nat) (p : Phase) (s : State) : State :=
  (((s.closeTest v residual).release).toPhase p).onSeq Seq.leave

/-- The end of a failed test (R131). -/
def State.endFailed (s : State) : State := s.endTest (s.seq.verdict.map .fail) none .rejected

/-- The end of an aborted test (R140). -/
def State.endAborted (s : State) : State := s.endTest (s.seq.abort.map .aborted) none .cured

/-- The residual is read: the residual point, LOCKOFF_LOW, the closing with PASS, the release, LOCKED
(R133, R134, R143). -/
def State.completeLockOff (s : State) : State :=
  let residual := s.scan.lc.toNat
  let target := s.stepTarget
  let t := s.addPoint residual s.testExt
  let u :=
    if residualLow residual target s.par.lockTol then
      (t.onSeq fun q => { q with lockOffLow := true }).handTest .lockOffLow
    else t
  (u.endTest (some .pass) (some residual) .locked).enterLocked target s.seq.slot

/-! ## The step cycle (R119 to R124) -/

/-- WAIT_LEASE for the step in hand, with its ADVANCE request presented (R120). -/
def State.waitLease (s : State) : State :=
  (s.onSeq fun q => { q with sub := some .waitLease }).ask .advance false

/-- A step ends: the release, the next step, WAIT_LEASE (R124, R125, R128). -/
def State.nextStep (s : State) : State :=
  (((s.onSeq fun q => { q with holdTimer := .off, jack := q.jack.stop }).release).onSeq fun q =>
    { q with step := q.step + 1 }).waitLease

/-- The sequencer as a test starts in a slot (R119). R119 is silent on the ramp start load, the ramp reference and
the alignment reading, which a ramp and a hold set before a rule reads them: 0 (DESIGN CHOICE, log entry 39). -/
def Seq.begin (held : Bool) (slot : Nat) (q : Seq) : Seq :=
  { q with
    sub := none, step := 0, request := none, clockOn := true, clock := 0, jack := .reset,
    holdTimer := .off, alignRead := 0, checks := 0, datum := none, readings := 0, ext5 := none,
    ext15 := none, verdict := none, extended := false, lockOffLow := false, tripMark := held,
    abort := none, slot := some slot }

/-- A test starts (R66, R119). -/
def State.startTest (slot : Nat) (s : State) : State :=
  ((((s.openSlot .test slot).onCrew fun c => { c with storeFull := false }).toPhase .stressing).onSeq
    (Seq.begin s.held slot)).waitLease

/-- How long the hold of the step in hand lasts: 600 s at most for ALIGN, 3,600 s for PROOF, the step's hold
time otherwise (R124, R125, R126). -/
def State.stepHoldUs (s : State) : Nat :=
  match s.planStep with
  | none => 600 * Config.secUs
  | some p => (if p.kind = .proof then 3600 else p.hold) * Config.secUs

/-- Entry to HOLD_LOAD (R122, R124, R125, R126). Only ALIGN, which is step 0, stores an alignment reading (R125). -/
def State.enterHoldLoad (s : State) : State :=
  s.onSeq fun q =>
    { q with
      sub := some .holdLoad, holdTimer := .start s.stepHoldUs, checks := 0, readings := 0, jack := q.jack.stop
      alignRead := if q.step = 0 then s.scan.ext else q.alignRead }

/-- The end of a ramp: HOLD_LOAD, or SEATING with the first lock-off point (R122, R132). -/
def State.rampEnd (s : State) : State :=
  if s.stepIs .lockOff then
    (s.addPoint s.jackLoad s.testExt).onSeq fun q =>
      { q with sub := some .seating, jack := q.jack.seat }
  else s.enterHoldLoad

/-- RAMP at a scan: the end of the ramp first (R122). JP counts at the scan at which its rail time reaches 1 s
(DEDUCED, log entry 42). -/
def State.rampScan (s : State) : State :=
  if s.atTarget s.stepTarget then s.rampEnd
  else s.onSeq fun q => { q with jack := s.rampCalls s.stepTarget q.jack }

/-- The pump call of HOLD_LOAD at a scan (R124; JP as in RAMP, log entry 42). -/
def State.holdScan (s : State) : State :=
  s.onSeq fun q =>
    { q with
      jack :=
        { q.jack with
          raise :=
            if s.jackLoad + s.loadTolerance < s.stepTarget then true
            else if s.stepTarget ≤ s.jackLoad then false
            else q.jack.raise } }

/-- SETTLE at a scan at or after the end of the settle, not taken under a fault naming LC: the residual is read,
or left for the command of the settle's end where that has not come yet (R133; log entries 4, 14). -/
def State.settleScan (s : State) : State :=
  if !s.trusts .lc then s
  else if s.seq.jack.settled then s.completeLockOff
  else if s.seq.jack.settleOver then s.onSeq fun q => { q with jack := { q.jack with readDue := true } }
  else s

/-- The relief valve is called at a scan at which an unload goes on. -/
def State.lowerTest (s : State) : State := s.onSeq fun q => { q with jack := { q.jack with lower := true } }

/-- The sequencer at a new scan in STRESSING (R118, R122, R124, R133). An unload is tested at the scans published
after its entry, the first of which stands for the scan at its entry (DEDUCED, log entry 46). -/
def State.seqScan (s : State) : State :=
  match s.seq.sub with
  | some .ramp => s.rampScan
  | some .holdLoad => s.holdScan
  | some .release =>
    if s.unloadEnds then s.onSeq fun q => { q with sub := some .settle, jack := q.jack.settleFrom }
    else s.lowerTest
  | some .failUnload => if s.unloadEnds then s.endFailed else s.lowerTest
  | some .abortUnload => if s.unloadEnds then s.endAborted else s.lowerTest
  | some .settle => s.settleScan
  | some .waitLease => s
  | some .seating => s
  | some .halted => s
  | some .abortWait => s
  | none => s

/-! ## Holds (R124 to R129) -/

/-- The hold of a LOAD or UNLOAD step ends (R124). -/
def State.stepHoldEnd (s : State) : State :=
  if s.seqIn .holdLoad && s.seq.holdTimer.on && (s.stepIs .load || s.stepIs .unload) then
    let t := s.expire s.seq.holdTimer
    (t.addPoint t.jackLoad t.testExt).nextStep
  else s

/-- The alignment hold ends: datum, point 0, the next step (R125, R130). -/
def State.alignEnd (s : State) : State :=
  ((s.onSeq fun q => { q with datum := some s.scan.ext }).addPoint s.jackLoad 0).nextStep

/-- The step hold timer is brought to a mark in seconds. -/
def State.holdTo (mark : Nat) (s : State) : State :=
  s.elapse (mark * Config.secUs - s.seq.holdTimer.elapsed)

/-- An alignment check, every 60 s to 600 s (R125). -/
def State.alignCheck (s : State) : State :=
  if s.seqIn .holdLoad && s.seq.step == 0 && s.seq.holdTimer.on then
    let t := s.holdTo (60 * (s.seq.checks + 1))
    let moved := (t.scan.ext - t.seq.alignRead).natAbs
    if moved < 20 ∨ 9 ≤ s.seq.checks then t.alignEnd
    else t.onSeq fun q => { q with alignRead := t.scan.ext, checks := q.checks + 1 }
  else s

/-- A failed proof: the pending verdict and FAIL_UNLOAD within the held lease (R127, R129, R131). -/
def State.failProof (v : FailVerdict) (s : State) : State :=
  (s.onSeq fun q => { q with verdict := some v }).enterUnload .failUnload

/-- The extension lies in the window, both ends included (R127). -/
def State.extInWindow (s : State) : Bool :=
  decide ((s.par.extMin : Int) ≤ s.testExt) && decide (s.testExt ≤ (s.par.extMax : Int))

/-- The check that belongs to a reading, counted from 1, after its point (R127, R128, R129). -/
def State.proofCheck (reading : Nat) (s : State) : State :=
  if reading = 1 then (if s.extInWindow then s else s.failProof .failExtension)
  else if reading = 6 then
    if s.testExt - s.seq.ext5.getD 0 ≤ (s.par.creepLimit : Int) then s.nextStep
    else (s.onSeq fun q => { q with extended := true }).handTest .extended
  else if reading = 10 then
    if s.testExt - s.seq.ext15.getD 0 ≤ (s.par.creepLimit : Int) then s.nextStep
    else s.failProof .failCreep
  else s

/-- A reading is taken: the point, ext(5) at reading 4, ext(15) at reading 6, the check (R126). -/
def State.takeReading (reading : Nat) (s : State) : State :=
  ((s.addPoint s.jackLoad s.testExt).onSeq fun q =>
    { q with
      readings := reading
      ext5 := if reading = 4 then some s.testExt else q.ext5
      ext15 := if reading = 6 then some s.testExt else q.ext15 }).proofCheck reading

/-- A reading of the proof hold falls due (R126); readings 7 to 10 only in an extended hold. -/
def State.proofReading (s : State) : State :=
  match Config.proofSchedule[s.seq.readings]? with
  | none => s
  | some mark =>
    if s.seqIn .holdLoad && s.stepIs .proof && s.seq.holdTimer.on
        && (decide (s.seq.readings < 6) || s.seq.extended) then
      (s.holdTo mark).takeReading (s.seq.readings + 1)
    else s

/-! ## Ramp and unload limits, seating, settle (R117, R118, R123, R133) -/

/-- A ramp timer is running in a test or a top-up, and HOLD does not suspend it. -/
def State.rampTimer (s : State) : Option Timer :=
  if s.crew.hold then none
  else if s.seqIn .ramp && s.seq.jack.ramp.on then some s.seq.jack.ramp
  else if (s.stageIn .lift || s.stageIn .ramp) && s.aft.jack.ramp.on then some s.aft.jack.ramp
  else none

/-- A ramp timer at its limit asks for RAMP_STALL (R123, R149). -/
def State.rampTimerLimit (s : State) : State :=
  match s.rampTimer with
  | none => s
  | some t => (s.expire t).latch .rampStall (halfOf s.jackLoad)

/-- The unload timer of a test or a top-up, which runs while the relief valve is open (R118, R150). -/
def State.unloadTimer (s : State) : Option Timer :=
  if !s.reliefOpen then none
  else if (s.seqIn .release || s.seqIn .failUnload || s.seqIn .abortUnload) && s.seq.jack.unload.on then
    some s.seq.jack.unload
  else if (s.stageIn .release || s.stageIn .abortUnload) && s.aft.jack.unload.on then
    some s.aft.jack.unload
  else none

/-- The unload timers stay at their limit (R166). -/
def State.spendUnload (s : State) : State :=
  if s.crew.phase = .stressing then
    s.onSeq fun q => { q with jack := { q.jack with unload := q.jack.unload.spent } }
  else s.onAft fun a => { a with jack := { a.jack with unload := a.jack.unload.spent } }

/-- An unload timer at its limit asks for RAMP_STALL, and the lowering goes on (R118, R150). -/
def State.unloadTimerLimit (s : State) : State :=
  match s.unloadTimer with
  | none => s
  | some t => ((s.expire t).spendUnload).latch .rampStall (halfOf s.jackLoad)

/-- The seating timer ends (R117, R132). -/
def State.seatingEnd (s : State) : State :=
  if s.seqIn .seating && s.seq.jack.seating.on then
    (s.expire s.seq.jack.seating).enterUnload .release
  else s

/-- The settle timer ends. The scan to be read is the latest one when it came at or after that moment; otherwise
the next that is not taken under a fault naming LC (R133; log entry 14). -/
def State.settleEnd (s : State) : State :=
  if s.seqIn .settle && s.seq.jack.settle.on then
    let t := (s.expire s.seq.jack.settle).onSeq fun q => { q with jack := q.jack.endSettle }
    if s.seq.jack.readDue then t.completeLockOff else t
  else s

/-- The reading of a settle whose end no command has taken (log entry 4). -/
def State.settleReadEvent (s : State) : State := if s.seq.jack.readDue then s.settleEnd else s

/-! ## STOP (R137, R138) -/

/-- The abort reason is fixed (R138). -/
def State.fixAbort (s : State) : State :=
  s.onSeq fun q => { q with abort := some (if q.tripMark then .trip else .stop) }

/-- ABORT_WAIT with a new abort request presented (R139). -/
def State.abortWait (s : State) : State :=
  (s.onSeq fun q => { q with sub := some .abortWait }).ask .restore true

/-- STOP in STRESSING, after the lease has withdrawn an ask that was out (R53, R138); `asked` says whether
one was. -/
def State.seqStop (asked : Bool) (s : State) : State :=
  if s.seqIn .ramp || s.seqIn .holdLoad || s.seqIn .halted then s.fixAbort.enterUnload .abortUnload
  else if s.seqIn .waitLease then
    let t := (s.setRequest none).fixAbort
    if !asked && s.jackLow then t.endAborted else t.abortWait
  else if s.seqIn .abortWait && asked then s.abortWait
  else s

/-! ## Commands -/

/-- RAMP_TIMER_LIMIT (R123). -/
def execRampTimerLimit (s : State) : Host.Outcome State Fault Refusal := .next s.rampTimerLimit.finish

/-- STEP_HOLD_END (R124). -/
def execStepHoldEnd (s : State) : Host.Outcome State Fault Refusal := .next s.stepHoldEnd.finish

/-- ALIGN_CHECK (R125). -/
def execAlignCheck (s : State) : Host.Outcome State Fault Refusal := .next s.alignCheck.finish

/-- PROOF_READING (R126). -/
def execProofReading (s : State) : Host.Outcome State Fault Refusal := .next s.proofReading.finish

/-- SEATING_END (R117). -/
def execSeatingEnd (s : State) : Host.Outcome State Fault Refusal := .next s.seatingEnd.finish

/-- UNLOAD_TIMER_LIMIT (R118). -/
def execUnloadTimerLimit (s : State) : Host.Outcome State Fault Refusal :=
  .next s.unloadTimerLimit.finish

/-- SETTLE_END (R133). -/
def execSettleEnd (s : State) : Host.Outcome State Fault Refusal := .next s.settleEnd.finish

end Sys2Proof.Machine
end

