-- ==== Sys2Proof/Machine/Trips.lean ====
section
/-! DEFINITION. The trip monitor: its own conditions, naming channels, release by STOP, and its commands (09_measurement_and_trips.md). -/

namespace Sys2Proof.Machine

/-! ## Conditions at a scan (R159, R163 to R165) -/

/-- Rail times at a published scan (R159): a channel in use and not yet named. -/
def State.measureRails (s : State) : State :=
  s.onScan fun x =>
    { x with
      railTimes := allChannels.map fun c =>
        if s.inUse c && s.atRail c && !s.named c then min 10 (s.railTime c + 1) else 0 }

/-- The EXT_RUNAWAY window with a new value, latest first: at most 61 (R165). -/
def pushWindow (v : Int) (w : List Int) : List Int := (v :: w).take 61

/-- The rise over the measuring window, when it holds 61 values (R165). -/
def windowRise (w : List Int) : Option Int :=
  match w with
  | [] => none
  | latest :: _ => (w[60]?).map fun first => latest - first

/-- The deglitch times of the trip monitor's own conditions at a published scan (R163 to R165). A channel is
untrusted to them once it is named, so the scan at which its rail time reaches 1 s still counts (DEDUCED, log
entry 41). -/
def State.measureTrips (s : State) : State :=
  s.onTrip fun t =>
    let w := if s.par.extEnable && s.seqIn .holdLoad then pushWindow s.scan.ext t.window else []
    { t with
      jackTime :=
        if s.inUse .jp && !s.named .jp && !s.latched .jackOver && decide ((s.par.maxJack : Int) < s.scan.jp)
        then min 1 (t.jackTime + 1) else 0
      groutTime :=
        if s.crew.phase == .grouting && !s.named .gp && !s.latched .groutOver
            && decide ((s.par.groutMax : Int) < s.scan.gp)
        then min s.par.groutScans (t.groutTime + 1) else 0
      window := w
      extTime :=
        if !s.named .ext && !s.latched .extRunaway && decide (20 < (windowRise w).getD 0)
        then min s.par.extScans (t.extTime + 1) else 0 }

/-- A channel's rail time has reached 1 s (R159). -/
def State.sensorDue (c : Channel) (s : State) : Bool :=
  s.inUse c && !s.named c && decide (10 ≤ s.railTime c)

/-- JACK_OVER is due (R164). -/
def State.jackOverDue (s : State) : Bool :=
  s.inUse .jp && !s.latched .jackOver && decide (1 ≤ s.trip.jackTime)

/-- GROUT_OVER is due (R165). -/
def State.groutOverDue (s : State) : Bool :=
  s.crew.phase == .grouting && !s.latched .groutOver
    && decide (1 ≤ s.trip.groutTime) && decide (s.par.groutScans ≤ s.trip.groutTime)

/-- EXT_RUNAWAY is due (R165). -/
def State.extRunawayDue (s : State) : Bool :=
  s.seqIn .holdLoad && !s.latched .extRunaway
    && decide (1 ≤ s.trip.extTime) && decide (s.par.extScans ≤ s.trip.extTime)

/-! ## Events a scan brings due -/

/-- A channel is named in SENSOR_FAULT (R159, R160). -/
def State.sensorEvent (c : Channel) (s : State) : State :=
  if s.sensorDue c then s.nameChannel c else s

/-- JACK_OVER latches; its value is JP in units of 10 kPa (R162, R164). -/
def State.jackOverEvent (s : State) : State :=
  if s.jackOverDue then s.latch .jackOver (halfOf (s.scan.jp.toNat / 10)) else s

/-- GROUT_OVER latches; its value is GP (R162, R165). -/
def State.groutOverEvent (s : State) : State :=
  if s.groutOverDue then s.latch .groutOver (BitVec.ofInt 16 s.scan.gp) else s

/-- EXT_RUNAWAY latches; its value is the rise over the window (R162, R165; log entry 25). -/
def State.extRunawayEvent (s : State) : State :=
  if s.extRunawayDue then
    s.latch .extRunaway (BitVec.ofInt 16 ((windowRise s.trip.window).getD 0))
  else s

/-- The latches that a scan has brought due, in one order (R161; log entry 4). -/
def State.takeLatches (s : State) : State :=
  ((allChannels.foldl (fun t c => t.sensorEvent c) s).jackOverEvent.groutOverEvent).extRunawayEvent

/-- Some latch is due. -/
def State.latchDue (s : State) : Bool :=
  (allChannels.any fun c => s.sensorDue c) || s.jackOverDue || s.groutOverDue || s.extRunawayDue

/-! ## Release by STOP (R164 to R169) -/

/-- The release condition of a latch other than SENSOR_FAULT, on the latest published scan. -/
def State.releases (l : Latch) (s : State) : Bool :=
  match l with
  | .jackOver => decide (s.scan.jp * 10 < (s.par.maxJack * 9 : Nat))
  | .groutOver => decide (s.scan.gp < (s.par.stagePressure : Int))
  | .breakIn => decide (s.scan.gp < (s.par.breakthrough : Int))
  | .winchJam => true
  | .rampStall => true
  | .leaseOverrun => true
  | .extRunaway => true
  | .lineJabber => true
  | .duplicateId => false
  | .stampEnd => false
  | .sensorFault => s.trip.named.all fun c => !s.atRail c || !s.inUse c

/-- The channels that stay named at a press: at their rail and in use (R168). -/
def State.staysNamed (s : State) : List Channel :=
  s.trip.named.filter fun c => s.atRail c && s.inUse c

/-- The latches that stay set at a press (R168). -/
def State.staysSet (s : State) : List Latch := s.trip.latches.filter fun l => !s.releases l

/-- The press leaves these latches and channels, and with none left the first cause is gone (R168,
R169). -/
def Trip.leave (latches : List Latch) (named : List Channel) (t : Trip) : Trip :=
  { t with latches, named, firstCause := if latches.isEmpty then none else t.firstCause }

/-! ## Commands -/

/-- JACK_OVER (R164). -/
def execJackOver (s : State) : Host.Outcome State Fault Refusal := .next s.jackOverEvent.finish

/-- GROUT_OVER (R165). -/
def execGroutOver (s : State) : Host.Outcome State Fault Refusal := .next s.groutOverEvent.finish

/-- EXT_RUNAWAY (R165). -/
def execExtRunaway (s : State) : Host.Outcome State Fault Refusal := .next s.extRunawayEvent.finish

/-- SENSOR_FAULT (R159). -/
def execSensorFault (ch : Channel) (s : State) : Host.Outcome State Fault Refusal :=
  .next (s.sensorEvent ch).finish

end Sys2Proof.Machine
end

