-- ==== Sys2Proof/Machine/Crew.lean ====
section
/-! DEFINITION. The phase machine's commands: GO, STOP, long STOP, HOLD (04_anchor_phases_and_crew_controls.md). -/

namespace Sys2Proof.Machine

/-! ## GO (R66, R72) -/

/-- GO in CURED: a slot opened and the test started, or the store-full indication with its pattern from the
beginning (R66). -/
def State.curedGo (s : State) : State :=
  match s.chooseSlot with
  | some n => s.startTest n
  | none => (s.onCrew fun c => { c with storeFull := true }).onDrives fun d => { d with lampUs := 0 }

/-- GO: taken with HOLD off and no latch set, in a state that waits for it (R72); not before the start
listen has ended (R71). -/
def State.goPress (s : State) : State :=
  if s.crew.stage ≠ .online || s.crew.hold || s.held then s
  else if s.placeIn .waitGo || s.placeIn .slack then s.placementGo
  else if s.groutIn .waitGo then s.groutGo
  else if s.groutIn .supplyWeak then s.supplyGo
  else if s.crew.phase = .cured then s.curedGo
  else s

/-- GO (R72). -/
def execGo (s : State) : Host.Outcome State Fault Refusal := .next s.goPress.finish

/-! ## STOP (R53, R73, R168) -/

/-- The press at the trip monitor (R168); with the last latch gone, requests that wait with HELD are
presented again (R39, R169). -/
def State.pressRelease (s : State) : State :=
  let t := s.onTrip fun x => x.leave s.staysSet s.staysNamed
  if s.held && s.staysSet.isEmpty then t.presentWaiting (some .held) else t

/-- The press at the owner of the work; `asked` says whether the lease has just withdrawn an ask (R73). -/
def State.ownerStop (asked : Bool) (s : State) : State :=
  match s.crew.phase with
  | .placing => s.onPlacement Placement.atStop
  | .grouting => s.groutStop
  | .stressing => s.seqStop asked
  | .locked => s.aftStop asked
  | .setup => s
  | .setting => s
  | .curing => s
  | .cured => s
  | .rejected => s
  | .detached => s

/-- The press at the lease, then at the owner of the work (R53, R73). -/
def State.pressOwner (s : State) : State := s.withdrawGone.ownerStop (s.lease.state == .asking)

/-- The press ends HELD while a request waits with HELD. -/
def State.pressFreesRequest (s : State) : Bool :=
  s.held && s.staysSet.isEmpty && s.waitsWith (some .held)

/-- The press at the trip monitor, the lease and the owner of the work (R73; log entry 18). Where it ends HELD
while a request waits with HELD: in STRESSING the order is a free value (R141; log entry 7); in LOCKED the
request stays waiting at the press and is presented once, as the last latch clears (R148). -/
def State.pressWork (s : State) : State :=
  if s.pressFreesRequest then
    if s.crew.phase = .stressing then
      let u := s.drawFree
      if Config.stopClearsFirst s.free then u.pressRelease.pressOwner else u.pressOwner.pressRelease
    else s.pressOwner.pressRelease
  else s.pressRelease.pressOwner

/-- STOP: the latches that release, the work, the store-full indication, the long-STOP measure (R68, R73). -/
def State.stopPress (s : State) : State :=
  if s.crew.stage ≠ .online then s
  else
    s.pressWork.onCrew fun c => { c with storeFull := false, stopHold := .start Config.longStopUs }

/-- STOP (R73). -/
def execStop (s : State) : Host.Outcome State Fault Refusal := .next s.stopPress.finish

/-- STOP_RELEASE (R71). -/
def execStopRelease (s : State) : Host.Outcome State Fault Refusal :=
  .next (s.onCrew fun c => { c with stopHold := .off }).finish

/-! ## Long STOP (R68, R69) -/

/-- Phases in which a long STOP is taken (R68). -/
def longStopPhase : Phase → Bool
  | .setup => true | .curing => true | .cured => true | .locked => true | .rejected => true
  | .placing => false | .grouting => false | .setting => false | .stressing => false | .detached => false

/-- The controller detaches (R30, R45, R69). -/
def State.detach (s : State) : State :=
  let t := ((s.grantThose fun _ => true).placeAsk .leave).toPhase .detached
  ((((t.onRoster fun r => { r with beaconTimer := .off }).onLif fun l => { l with beacon := none }).onGrout
    fun g => { g with cureTimer := .off }).onAft Aft.detach).onCrew fun c => { c with storeFull := false }

/-- The hold of STOP reaches 5 s: the one test of the press (R68). -/
def State.longStop (s : State) : State :=
  if s.crew.stopHold.on then
    let t := (s.expire s.crew.stopHold).onCrew fun c => { c with stopHold := .off }
    if longStopPhase t.crew.phase && t.lease.state == .idle && !t.strapFault then t.detach else t
  else s

/-- LONG_STOP (R68). -/
def execLongStop (s : State) : Host.Outcome State Fault Refusal := .next s.longStop.finish

/-! ## HOLD (R52, R71, R74, R75, R90, R107) -/

/-- Slack and sag times start again from 0 (R90, R107). -/
def State.restartWatches (s : State) : State :=
  (s.onPlacement fun p => if s.crew.phase = .placing then { p with slackTime := 0 } else p).onGrout fun g =>
    if s.crew.phase = .grouting then { g with sagTime := 0 } else g

/-- HOLD goes on: the switch, and once on line the HOLD state, the pause and the withdrawal (R52, R74). -/
def State.holdOn (s : State) : State :=
  let t := s.onCrew fun c => { c with holdSwitch := true }
  if s.crew.stage ≠ .online || s.crew.hold then t
  else ((t.onCrew fun c => { c with hold := true }).restartWatches).withdrawFor .paused

/-- HOLD_ON (R74). -/
def execHoldOn (s : State) : Host.Outcome State Fault Refusal := .next s.holdOn.finish

/-- HOLD goes off: the pause ends, and a request that waits with PAUSED is presented again (R39, R75). -/
def State.holdOff (s : State) : State :=
  let t := s.onCrew fun c => { c with holdSwitch := false }
  if s.crew.stage ≠ .online || !s.crew.hold then t
  else ((t.onCrew fun c => { c with hold := false }).restartWatches).presentWaiting (some .paused)

/-- HOLD_OFF (R75). -/
def execHoldOff (s : State) : Host.Outcome State Fault Refusal := .next s.holdOff.finish

end Sys2Proof.Machine
end

