-- ==== Sys2Proof/Machine/Line.lean ====
section
/-! DEFINITION. The line interface's commands: receptions that end at LIF, the quiet wait, collisions, backoff, completion, jabber (01_the_site_line.md). -/

namespace Sys2Proof.Machine

/-! ## Receptions that end at LIF -/

/-- A reception LIF counts in RX_ERRORS (R3, R6). -/
def State.countRxError (s : State) : State :=
  s.onLif fun l => { l with rxErrors := satInc l.rxErrors }

/-- A burst that fails a receive check is counted; a valid frame of a bad kind or size is counted once it
has passed the duplicate-number test and the filter (R3, R4, R5, R6, R196). -/
def State.badReception (burst : List Byte) (s : State) : State :=
  match rxFault burst with
  | some _ => if s.sending then s else s.restartQuiet.countRxError
  | none =>
    s.receive (burstDst burst) (burstSrc burst)
      (fun t => if sizeAllowed (burstKind burst) (burstPayload burst) then t else t.countRxError)

/-- BAD_RECEPTION (R3). -/
def execBadReception (burst : List Byte) (s : State) : Host.Outcome State Fault Refusal :=
  .next (s.badReception burst).finish

/-- A valid frame that no block is handed: only the duplicate-number test acts on it (R4, R5, R6). -/
def State.hearOnly (dst src : Byte) (s : State) : State := s.receive dst src fun t => t

/-- REPORT_DISCARD (R6): a REPORT is discarded without counting. -/
def execReportDiscard (dst src : Byte) (s : State) : Host.Outcome State Fault Refusal :=
  .next (s.hearOnly dst src).finish

/-- FRAME_NOT_ACCEPTED (R5, R6): discarded without counting after the duplicate-number test. -/
def execFrameNotAccepted (dst src : Byte) (s : State) : Host.Outcome State Fault Refusal :=
  .next (s.hearOnly dst src).finish

/-! ## The selector and the transmitter -/

/-- The selector's choice: the first slot in order that holds a frame, and the slots after the frame has
left its own; a report keeps its place in the FIFO (R11, R14). -/
def Lif.select (l : Lif) : Option (OutFrame × Nat × Lif) :=
  if !l.batch.frame.isEmpty then
    some (.reply l.batch.frame, l.batch.attempts, { l with batch := ⟨[], 0⟩ })
  else
    match l.ask with
    | some f => some (.ask f.frame, f.attempts, { l with ask := none })
    | none =>
      match l.alert with
      | some f => some (.alert f.frame, f.attempts, { l with alert := none })
      | none =>
        match l.fifo with
        | r :: _ => some (.report r.dst r.report, r.attempts, l)
        | [] =>
          match l.beacon with
          | some f => some (.beacon f.frame, f.attempts, { l with beacon := none })
          | none => none

/-- The quiet wait ends: the chosen frame is sent, or the transmitter is free again (R7). -/
def Lif.quietEnd (l : Lif) : Lif :=
  match l.select with
  | none => { l with tx := .free }
  | some (f, n, l') => { l' with tx := .sending f n, drive := .start Config.jabberUs }

/-- The end of a quiet wait (R7). -/
def State.quietWaitEnd (s : State) : State :=
  if s.lif.tx = .waitingQuiet then (s.expire s.lif.quiet).onLif Lif.quietEnd else s

/-- QUIET_WAIT_END (R7, R11). -/
def execQuietWaitEnd (s : State) : Host.Outcome State Fault Refusal := .next s.quietWaitEnd.finish

/-- One step of the backoff generator (R9). -/
def rngStep (r : Half) : Half :=
  let bit := ((r.getLsbD 15 != r.getLsbD 13) != r.getLsbD 12) != r.getLsbD 10
  (r <<< 1) ||| (if bit then 1#16 else 0#16)

/-- The sixteen steps of one draw (R9). -/
def rngDraw (r : Half) : Half := (List.range 16).foldl (fun x _ => rngStep x) r

/-- The backoff slots drawn from a generator value after `attempts` attempts (R8, R9). -/
def backoffSlots (r : Half) (attempts : Nat) : Nat := r.toNat % 2 ^ min attempts 6

/-- A returned batch combined with a new one: new entries replace the returned ones for the same
neighbours, the rest follow (R12). -/
def combineBatch (returned new : List ReplyEntry) : List ReplyEntry :=
  (returned.map fun e => (new.find? fun x => x.target == e.target).getD e)
    ++ new.filter fun x => !returned.any fun e => e.target == x.target

/-- Set the attempt count of the FIFO's head (R14). -/
def countHead (attempts : Nat) : List ReportItem → List ReportItem
  | [] => []
  | r :: rest => { r with attempts } :: rest

/-- A collided frame goes back to its slot as the slot's rule states (R12, R13, R14). -/
def Lif.putBack (f : OutFrame) (attempts : Nat) (l : Lif) : Lif :=
  match f with
  | .reply es => { l with batch := ⟨combineBatch es l.batch.frame, attempts⟩ }
  | .ask a => if l.ask.isSome then l else { l with ask := some ⟨a, attempts⟩ }
  | .alert a => if l.alert.isSome then l else { l with alert := some ⟨a, attempts⟩ }
  | .report _ _ => { l with fifo := countHead attempts l.fifo }
  | .beacon b => if l.beacon.isSome then l else { l with beacon := some ⟨b, attempts⟩ }

/-- A frame is lost for good: a report leaves the FIFO's head (R8, R14). -/
def Lif.lose (f : OutFrame) (l : Lif) : Lif :=
  match f with
  | .report _ _ => { l with fifo := l.fifo.tail }
  | .reply _ => l
  | .ask _ => l
  | .alert _ => l
  | .beacon _ => l

/-- The backoff begins; one of no slots ends at once, and the quiet measure starts at its end (R8). -/
def Lif.backOff (k : Nat) (l : Lif) : Lif :=
  if k = 0 then
    { l with tx := .waitingQuiet, drive := .off, backoff := .off, quiet := .start Config.quietUs }
  else
    { l with tx := .backingOff k, drive := .off, backoff := .start (k * Config.backoffSlotUs),
             quiet := .start Config.quietUs }

/-- A beacon of a DETACHED controller is discarded in place of its return (R30). -/
def State.returnsFrame (f : OutFrame) (s : State) : Bool :=
  match f with
  | .beacon _ => s.crew.phase != .detached
  | .reply _ => true
  | .ask _ => true
  | .alert _ => true
  | .report _ _ => true

/-- A collision: one more attempt, the frame back in its slot or dropped at the twelfth, the backoff drawn
(R8, R9; log entries 11, 12). While listen-only nothing goes back (R15). -/
def State.collision (s : State) : State :=
  match s.lif.tx with
  | .sending f n =>
    let rng := rngDraw s.lif.rng
    let t := s.onLif fun l =>
      if Config.maxAttempts ≤ n + 1 then { l.lose f with txDrops := satInc l.txDrops }
      else if s.returnsFrame f then l.putBack f (n + 1)
      else l
    let u := t.onLif fun l => { l.backOff (backoffSlots rng (n + 1)) with rng }
    if u.listenOnly then u.onLif Lif.dropSlots else u
  | .free => s
  | .waitingQuiet => s
  | .backingOff _ => s

/-- COLLISION (R8). -/
def execCollision (s : State) : Host.Outcome State Fault Refusal := .next s.collision.finish

/-- The backoff ends: the transmitter waits quiet again, its measure from zero (R8). -/
def State.backoffEnd (s : State) : State :=
  match s.lif.tx with
  | .backingOff _ =>
    (s.expire s.lif.backoff).onLif fun l =>
      { l with tx := .waitingQuiet, backoff := .off, quiet := .start Config.quietUs }
  | .free => s
  | .waitingQuiet => s
  | .sending _ _ => s

/-- BACKOFF_END (R8). -/
def execBackoffEnd (s : State) : Host.Outcome State Fault Refusal := .next s.backoffEnd.finish

/-- A frame has been sent without collision: a report leaves the FIFO, and the transmitter is free (R8,
R14). -/
def State.transmitComplete (s : State) : State :=
  match s.lif.tx with
  | .sending f _ =>
    s.onLif fun l =>
      { l.lose f with tx := .free, drive := .off, quiet := .start Config.quietUs }
  | .free => s
  | .waitingQuiet => s
  | .backingOff _ => s

/-- TRANSMIT_COMPLETE (R8). -/
def execTransmitComplete (s : State) : Host.Outcome State Fault Refusal :=
  .next s.transmitComplete.finish

/-- The transmitter is cut off: the frame is discarded and counted, and LINE_JABBER is asked for, which
makes LIF listen-only (R10, R15). -/
def State.jabberCutoff (s : State) : State :=
  match s.lif.tx with
  | .sending f _ =>
    ((s.expire s.lif.drive).onLif fun l =>
      { l.lose f with
        tx := .free, drive := .off, quiet := .start Config.quietUs, txDrops := satInc l.txDrops }).latch
      .lineJabber 0
  | .free => s
  | .waitingQuiet => s
  | .backingOff _ => s

/-- JABBER_CUTOFF (R10). -/
def execJabberCutoff (s : State) : Host.Outcome State Fault Refusal := .next s.jabberCutoff.finish

end Sys2Proof.Machine
end

