-- ==== Sys2Proof/Machine/Negotiation.lean ====
section
/-! DEFINITION. The lease's commands: ASK, REPLY and WITHDRAW heard, the ask, re-ask and hold timers (03_the_step_lease.md). -/

namespace Sys2Proof.Machine

/-! ## Answering an ASK (R36, R40 to R43) -/

/-- Whether the first ask outranks the second: class, then stamp, then station number (R36). -/
def outranks (c1 : AskClass) (st1 : Stamp) (n1 : Nat) (c2 : AskClass) (st2 : Stamp) (n2 : Nat) : Bool :=
  if c1 ≠ c2 then c1 == .restore
  else if st1 ≠ st2 then decide (st1 < st2)
  else decide (n1 < n2)

/-- The own current ask outranks a received one (R36). -/
def State.ownOutranks (src : Nat) (cls : AskClass) (stamp : Stamp) (s : State) : Bool :=
  match s.lease.ask with
  | none => false
  | some a => outranks a.cls a.stamp s.ownNumber cls stamp src

/-- The answer table: a reason to DEFER, or none for GRANT (R41). -/
def State.answerTo (src : Nat) (cls : AskClass) (stamp : Stamp) (s : State) : Option ReplyReason :=
  if s.freshGrout then some .freshGrout
  else if s.pendingTopUp && cls == .advance then some .restorePending
  else if s.lease.state = .holding then some .holding
  else if s.lease.state = .asking && s.ownOutranks src cls stamp then some .ahead
  else none

/-- An entry placed in the deferred list: in place of the sender's own, else at the end (R42). -/
def putDeferred (d : Deferred) (ds : List Deferred) : List Deferred :=
  if ds.any fun x => x.number == d.number then ds.map fun x => if x.number = d.number then d else x
  else ds ++ [d]

/-- A member marked; one that is not in the set is added at the end (R43). -/
def markUnanswered (n : Nat) (ms : List Member) : List Member :=
  if ms.any fun m => m.number == n then
    ms.map fun m => if m.number = n then { m with mark := .unanswered } else m
  else ms ++ [⟨n, .unanswered⟩]

/-- DEFER: the reply entry and the deferred entry (R42). -/
def State.deferAsk (src : Nat) (cls : AskClass) (stamp : Stamp) (reason : ReplyReason) (s : State) :
    State :=
  (s.addReply ⟨src, stamp, .defer, reason⟩).onLease fun l =>
    { l with deferred := putDeferred ⟨src, cls, stamp⟩ l.deferred }

/-- GRANT: the reply entry, the sender's deferred entry removed; in ASKING the sender must answer again and
the ASK is repeated (R42, R43). -/
def State.grantAsk (src : Nat) (stamp : Stamp) (s : State) : State :=
  let t := (s.addReply ⟨src, stamp, .grant, .none⟩).onLease fun l =>
    { l with deferred := l.deferred.filter fun d => d.number != src }
  if t.lease.state = .asking then
    (t.onLease fun l => { l with required := markUnanswered src l.required }).sendAsk
  else t

/-- An ASK at the lease: the clock, then the answer where the lease answers (R35, R40, R41, R197). -/
def State.hearAsk (src cls : Byte) (stamp : Stamp) (s : State) : State :=
  let t := s.raiseClock stamp
  match classOfCode cls.toNat with
  | none => t
  | some c =>
    if t.bound && t.member src.toNat && t.crew.phase != .detached then
      match t.answerTo src.toNat c stamp with
      | some r => t.deferAsk src.toNat c stamp r
      | none => t.grantAsk src.toNat stamp
    else t

/-- ASK (R41). The send count does not affect the answer (R40). -/
def execAsk (dst src cls : Byte) (stamp : Stamp) (_count : Byte) (s : State) :
    Host.Outcome State Fault Refusal :=
  .next (s.receive dst src fun t => t.hearAsk src cls stamp).finish

/-! ## Reading a REPLY (R46, R47) -/

/-- An entry that counts toward the current ask (R46). -/
def State.replyCounts (src : Nat) (e : ReplyIn) (s : State) : Bool :=
  s.own == some e.target.toNat && s.lease.state == .asking && e.stamp == s.askStamp
    && s.lease.required.any fun m => m.number == src

/-- A member's mark set. -/
def State.mark (n : Nat) (k : Mark) (s : State) : State :=
  s.onLease fun l =>
    { l with required := l.required.map fun m => if m.number = n then { m with mark := k } else m }

/-- One entry of a REPLY (R46, R47, R197). -/
def State.hearReplyEntry (src : Nat) (s : State) (e : ReplyIn) : State :=
  if s.replyCounts src e then
    match replyVerdictOfCode e.verdict.toNat with
    | some .grant => (s.mark src .granted).checkComplete
    | some .defer => s.mark src .deferred
    | none => s
  else s

/-- A REPLY at the lease: the clock from every entry, then entry by entry (R35, R46). -/
def State.hearReply (src : Byte) (es : List ReplyIn) (s : State) : State :=
  es.foldl (State.hearReplyEntry src.toNat) (es.foldl (fun t e => t.raiseClock e.stamp) s)

/-- REPLY (R46). -/
def execReply (dst src : Byte) (es : List ReplyIn) (s : State) : Host.Outcome State Fault Refusal :=
  .next (s.receive dst src fun t => t.hearReply src es).finish

/-! ## WITHDRAW (R45) -/

/-- A WITHDRAW at the lease: the clock, then the matching deferred entry (R35, R45). -/
def State.hearWithdraw (src : Byte) (stamp : Stamp) (s : State) : State :=
  let t := s.raiseClock stamp
  if t.member src.toNat then
    t.onLease fun l =>
      { l with deferred := l.deferred.filter fun d => !(d.number == src.toNat && d.stamp == stamp) }
  else t

/-- WITHDRAW (R45). -/
def execWithdraw (dst src : Byte) (stamp : Stamp) (s : State) : Host.Outcome State Fault Refusal :=
  .next (s.receive dst src fun t => t.hearWithdraw src stamp).finish

/-! ## The lease's timers (R48, R49, R50, R59) -/

/-- A lapse (R49): WITHDRAW, IDLE, the count, the re-ask delay; a request with the abort flag is presented
again at once (R39). -/
def State.lapse (s : State) : State :=
  let abort := s.askAbort
  let t := (s.placeAsk (.withdraw s.askStamp)).onLease fun l =>
    { l with askLapses := satInc l.askLapses, reask := .start Config.reaskUs }
  let u := (t.setStatus (.waiting (if abort then none else some .askBackoff))).toIdle
  if abort then u.present else u

/-- Some member of the required set is unanswered. -/
def State.someUnanswered (s : State) : Bool := s.lease.required.any fun m => m.mark == .unanswered

/-- The send count of the current ask. -/
def State.sendCount (s : State) : Nat := (s.lease.ask.map CurrentAsk.count).getD 0

/-- The ask timer expires in ASKING (R48). -/
def State.askTimeout (s : State) : State :=
  if s.someUnanswered then
    if s.sendCount < 4 then
      (s.onLease fun l =>
        { l with ask := l.ask.map fun a => { a with count := a.count + 1 } }).sendAsk
    else s.lapse
  else s.sendAsk

/-- The ask timer's expiry. -/
def State.askTimerEnd (s : State) : State :=
  if s.lease.askTimer.on && s.lease.state == .asking then (s.expire s.lease.askTimer).askTimeout else s

/-- ASK_TIMER (R48). -/
def execAskTimer (s : State) : Host.Outcome State Fault Refusal := .next s.askTimerEnd.finish

/-- The re-ask delay ends (R50). -/
def State.reaskEnd (s : State) : State :=
  if s.lease.reask.on then
    ((s.expire s.lease.reask).onLease fun l => { l with reask := .off }).presentWaiting
      (some .askBackoff)
  else s

/-- REASK_DELAY_END (R50). -/
def execReaskDelayEnd (s : State) : Host.Outcome State Fault Refusal := .next s.reaskEnd.finish

/-- The hold timer reaches 90 min (R59); the value is the hold in minutes (R162). -/
def State.holdOverrun (s : State) : State :=
  if s.lease.hold.on then
    ((s.expire s.lease.hold).onLease fun l => { l with hold := l.hold.spent }).latch .leaseOverrun 90
  else s

/-- HOLD_TIMER_OVERRUN (R59). -/
def execHoldTimerOverrun (s : State) : Host.Outcome State Fault Refusal := .next s.holdOverrun.finish

end Sys2Proof.Machine
end

