-- ==== Sys2Proof/Machine/Scanning.lean ====
section
/-! DEFINITION. SCAN_PUBLISH: 100 ms pass, the eight values are published, and every consumer acts on the new set (R156). -/

namespace Sys2Proof.Machine

/-- What earlier scans brought due and no command has taken yet, in one order (log entry 4). -/
def State.takeOverdue (s : State) : State :=
  ((((((((((((s.takeLatches.breakInEvent).cleanDistanceEvent).placementEvent).slackEvent).refusalEvent).fillEvent).sagEvent).cleanTimeEvent).settingEvent).lowEvent).recoveryEvent).settleReadEvent).topUpReadEvent

/-- The eight values published together; an open or shorted rope-out loop stops the count (R156, R157). The pulses
of an interval at whose end the loop is at its rail are not counted (DESIGN CHOICE, log entry 43). -/
def Scan.publish (v : ScanSet) (x : Scan) : Scan :=
  { jp := v.jp, ext := v.ext, lc := v.lc, gp := v.gp, gf := v.gf, hp := v.hp, wp := v.wp
    ro := if v.rails.getLsbD 7 then x.ro else x.ro + v.pulses
    rails := v.rails, railTimes := x.railTimes, lcTrusted := x.lcTrusted }

/-- The LC of the latest scan that may be used is kept (R149). -/
def State.keepTrusted (s : State) : State :=
  if s.trusts .lc then s.onScan fun x => { x with lcTrusted := x.lc } else s

/-- The rise of RO at this scan, modulo 65,536 (R157). -/
def ropeRise (before after : Half) : Nat := (after - before).toNat

/-- The blocks that act on a new set in this phase (R156). -/
def State.consume (rise : Nat) (s : State) : State :=
  match s.crew.phase with
  | .placing => s.placementScan rise
  | .grouting => s.groutScan
  | .setting => s.settingScan
  | .stressing => s.seqScan
  | .locked => s.aftScan
  | .setup => s
  | .curing => s
  | .cured => s
  | .rejected => s
  | .detached => s

/-- The set published and measured: values, rail times, deglitch times (R156, R159, R163). -/
def State.publish (v : ScanSet) (s : State) : State :=
  ((s.onScan (Scan.publish v)).measureRails.keepTrusted).measureTrips

/-- The scan, consumed; where a latch falls due at it, whether the latch is taken first is a free value
(R141, R154, R170; log entry 8). -/
def State.scanEffect (v : ScanSet) (s : State) : State :=
  let t := s.publish v
  let rise := ropeRise s.scan.ro t.scan.ro
  if t.latchDue then
    let u := t.drawFree
    if Config.latchFirst t.free then u.takeLatches.consume rise else u.consume rise
  else t.consume rise

/-- SCAN_PUBLISH (R156). -/
def execScanPublish (v : ScanSet) (s : State) : Host.Outcome State Fault Refusal :=
  .next ((s.takeOverdue.finish.elapse Config.scanUs).scanEffect v).finish

end Sys2Proof.Machine
end

