-- ==== Sys2Proof/Machine/Presence.lean ====
section
/-! DEFINITION. The roster's commands: beacons heard and sent, LEAVE, RETIRE, beacon ages (02_roster_and_presence.md). -/

namespace Sys2Proof.Machine

/-! ## Beacons sent (R29, R31) -/

/-- The beacon as the state gives it (R31). -/
def State.buildBeacon (s : State) : Beacon :=
  { phase := s.crew.phase
    sub := byteOf s.subCode
    held := s.held
    lease := s.lease.state
    ask := if s.lease.state = .idle then none else s.lease.ask.map fun a => (a.cls, a.stamp)
    clock := s.lease.clock
    load := s.presentLoad
    wall := if s.bound then s.par.wall else 0
    roster := s.roster.entries.map Entry.number }

/-- Beacon period: 2,000 ms plus 4 ms times the own number, 0 under a strap fault (R29). -/
def State.beaconPeriodUs (s : State) : Nat := 2000000 + 4000 * s.ownNumber

/-- A beacon is built and placed, and the timer runs its period (R29). -/
def State.sendBeacon (s : State) : State :=
  (s.placeBeacon s.buildBeacon).onRoster fun r => { r with beaconTimer := .start s.beaconPeriodUs }

/-- The beacon timer's expiry. -/
def State.beaconDue (s : State) : State :=
  if s.roster.beaconTimer.on then (s.expire s.roster.beaconTimer).sendBeacon else s

/-- BEACON_TIMER (R29). -/
def execBeaconTimer (s : State) : Host.Outcome State Fault Refusal := .next s.beaconDue.finish

/-! ## Beacons heard (R18 to R22, R197) -/

/-- The codes of a beacon, when all are in their tables (R197). -/
def beaconCodes (b : BeaconIn) : Option (Phase × LeaseState) :=
  match phaseOfCode b.phase.toNat, leaseOfCode b.lease.toNat with
  | some p, some l =>
    if b.sub.toNat ≤ lastSubCode p ∧ b.cls.toNat ≤ 2 then some (p, l) else none
  | _, _ => none

/-- Why a beacon is not good, or none for a good one (R18). -/
def State.beaconFault (b : BeaconIn) (s : State) : Option MismatchReason :=
  if b.wall ≠ s.par.wall then some .wallDiffers
  else if b.roster.any fun x => s.own == some x.toNat then none
  else some .notListed

/-- The entry after a recorded beacon (R19). -/
def Entry.record (b : BeaconIn) (p : Phase) (l : LeaseState) (e : Entry) : Entry :=
  { e with
    age := 0, heardPhase := some p, heardHeld := b.flags.getLsbD 0
    heard := some ⟨b.sub, l, b.load⟩ }

/-- The entry after a good beacon (R21). -/
def Entry.hearGood (e : Entry) : Entry :=
  match e.presence with
  | .listening =>
    if 2 ≤ e.count then { e with presence := .present, count := 3 } else { e with count := e.count + 1 }
  | .present => { e with count := 3 }
  | .mismatch => { e with presence := .listening, count := 1, mismatch := none }
  | .lost => { e with presence := .listening, count := 1, mismatch := none }
  | .retired => { e with presence := .listening, count := 1, mismatch := none }

/-- The entry after a beacon that is not good (R22). -/
def Entry.hearBad (r : MismatchReason) (e : Entry) : Entry :=
  if e.presence = .retired then e
  else { e with presence := .mismatch, count := 0, mismatch := some r }

/-- The entry after a beacon of this verdict. -/
def Entry.classify (fault : Option MismatchReason) (e : Entry) : Entry :=
  match fault with
  | none => e.hearGood
  | some r => e.hearBad r

/-- A beacon at the roster: recorded, its clock handed over, the presence changed (R18 to R22). -/
def State.hearBeacon (src : Byte) (b : BeaconIn) (s : State) : State :=
  match beaconCodes b with
  | none => s
  | some (p, l) =>
    if s.bound && s.member src.toNat then
      ((s.onRoster fun r =>
          { r with
            entries := r.entries.map fun e =>
              if e.number = src.toNat then e.record b p l else e }).raiseClock b.clock).changeEntry
        src.toNat (Entry.classify (s.beaconFault b))
    else s

/-- BEACON (R18). -/
def execBeacon (dst src : Byte) (b : BeaconIn) (s : State) : Host.Outcome State Fault Refusal :=
  .next (s.receive dst src fun t => t.hearBeacon src b).finish

/-! ## LEAVE, RETIRE and the beacon age -/

/-- The entry made RETIRED (R24). -/
def Entry.retire (e : Entry) : Entry :=
  if e.presence = .retired then e
  else { e with presence := .retired, count := 0, mismatch := none }

/-- A LOST entry made RETIRED (R25). -/
def Entry.retireLost (e : Entry) : Entry := if e.presence = .lost then e.retire else e

/-- The entry made LOST when its beacon age reaches 8 s (R23, R26). -/
def Entry.lose (e : Entry) : Entry :=
  if e.presence = .listening ∨ e.presence = .present ∨ e.presence = .mismatch then
    { e with presence := .lost, count := 0, mismatch := none, lostLatch := true }
  else e

/-- LEAVE (R24). -/
def execLeave (dst src : Byte) (s : State) : Host.Outcome State Fault Refusal :=
  .next (s.receive dst src fun t => t.changeEntry src.toNat Entry.retire).finish

/-- RETIRE (R25). -/
def execRetire (dst src number : Byte) (s : State) : Host.Outcome State Fault Refusal :=
  .next (s.receive dst src fun t => t.changeEntry number.toNat Entry.retireLost).finish

/-- An entry's beacon age reaches 8 s (R23). -/
def State.ageExpiry (n : Nat) (s : State) : State :=
  match s.entry n with
  | none => s
  | some e =>
    if e.presence = .listening ∨ e.presence = .present ∨ e.presence = .mismatch then
      (s.elapse (Config.beaconAgeUs - e.age)).changeEntry n Entry.lose
    else s

/-- BEACON_AGE_EXPIRY (R23). -/
def execBeaconAgeExpiry (number : Byte) (s : State) : Host.Outcome State Fault Refusal :=
  .next (s.ageExpiry number.toNat).finish

end Sys2Proof.Machine
end

