-- ==== Sys2Proof/Machine/Records.lean ====
section
/-! DEFINITION. The responder's queries and the record store's own commands (10_the_record_store.md, R195). -/

namespace Sys2Proof.Machine

/-! ## STATUS (R26, R33, R195) -/

/-- The hold reason of the waiting request of the sequencer or the aftercare monitor. -/
def State.holdReason (s : State) : Option HoldReason :=
  match s.request.map Request.status with
  | some (.waiting h) => h
  | some .taken => none
  | none => none

/-- The STATUS report as the state stands (R195; log entry 21). -/
def State.statusReport (s : State) : StatusReport :=
  { own := s.ownNumber
    bound := s.bound
    hold := s.crew.hold
    lossExcess := s.aft.lossExcess
    wall := if s.bound then s.par.wall else 0
    label := if s.bound then s.par.label else []
    groupMask := s.lif.groupMask
    rxErrors := s.lif.rxErrors
    txDrops := s.lif.txDrops
    queryDrops := s.lif.queryDrops
    phase := s.crew.phase
    sub := byteOf s.subCode
    stage := byteOf (if s.toppingUp then (s.aft.stage.map stageCode).getD 0 else 0)
    holdReason := s.holdReason
    stepIndex := if s.crew.phase = .stressing then s.seq.step else 0
    topUpCount := s.aft.count
    lease := s.lease.state
    ask := s.lease.ask.map fun a => (a.cls, a.stamp)
    clock := s.lease.clock
    deferred := s.lease.deferred.length
    askLapses := s.lease.askLapses
    latches := s.trip.latches
    named := s.trip.named
    firstCause := s.trip.firstCause
    jp := s.scan.jp, ext := s.scan.ext, lc := s.scan.lc, gp := s.scan.gp, gf := s.scan.gf
    hp := s.scan.hp, wp := s.scan.wp, ro := s.scan.ro
    store := s.storeSummary
    roster := s.roster.entries }

/-- The report has shown every lost latch, and clears them (R26). -/
def Roster.clearLost (r : Roster) : Roster :=
  { r with entries := r.entries.map fun e => { e with lostLatch := false } }

/-- A STATUS query taken (R195). -/
def State.answerStatus (src : Byte) (s : State) : State :=
  (s.pushReport src (.status s.statusReport)).onRoster Roster.clearLost

/-- STATUS_QUERY (R195). -/
def execStatusQuery (dst src : Byte) (s : State) : Host.Outcome State Fault Refusal :=
  .next (s.receive dst src fun t => t.takeQuery dst fun u => u.answerStatus src).finish

/-! ## RECORD (R183) -/

/-- One part of a test slot; a part above 3 is none of these (R183). -/
def partOf (slot part : Nat) (r : Option SlotRecord) : Report :=
  match r with
  | none =>
    if part = 0 then .freeSlot slot
    else if part = 3 then .topUps slot []
    else .points slot []
  | some r =>
    if part = 0 then .slotHead slot r
    else if part = 1 then .points slot (r.points.take 12)
    else if part = 2 then .points slot ((r.points.drop 12).take 12)
    else .topUps slot r.topUps

/-- A RECORD query for a part above 3 of a test slot: answered OK, with a content the spec does not state (R183;
log entry 32). -/
def unstatedRecord (slot part : Nat) : Bool := decide (1 ≤ slot) && decide (slot ≤ 8) && decide (3 < part)

/-- The answer to a RECORD query (R183). For a part above 3 of a test slot the content is a free value (log
entry 32). -/
def State.recordAnswer (slot part : Nat) (s : State) : Report :=
  if 8 < slot ∨ (slot = 0 ∧ part ≠ 0) then .plain .outOfRange .record
  else if slot = 0 then .installation s.store.image.inst
  else if 3 < part then .unstated (Config.unstatedPart s.free)
  else partOf slot part (s.store.image.slot slot)

/-- A RECORD query taken (R183). -/
def State.answerRecord (src : Byte) (slot part : Nat) (s : State) : State :=
  let t := s.pushReport src (s.recordAnswer slot part)
  if unstatedRecord slot part then t.drawFree else t

/-- RECORD_QUERY (R183). -/
def execRecordQuery (dst src slot part : Byte) (s : State) : Host.Outcome State Fault Refusal :=
  .next
    (s.receive dst src fun t => t.takeQuery dst fun u =>
      u.answerRecord src slot.toNat part.toNat).finish

/-! ## EXPORTED (R184) -/

/-- The slot of an EXPORTED query, when it is CLOSED. -/
def State.closedSlot (slot : Nat) (s : State) : Option SlotRecord :=
  match s.store.image.slot slot with
  | some r => if r.isOpen then none else some r
  | none => none

/-- The answer to an EXPORTED query, row by row (R184). -/
def State.exportedAnswer (slot : Nat) (number : Half) (s : State) : Report :=
  if slot = 0 ∨ 8 < slot then .plain .outOfRange .exported
  else
    match s.closedSlot slot with
    | none => .plain .notClosed .exported
    | some r =>
      if r.number ≠ number then .plain .numberMismatch .exported
      else if r.exported then .exportedOk slot number
      else if s.store.queue ≠ [] then .plain .busy .exported
      else .exportedOk slot number

/-- Row 6: the flag is set (R184). -/
def State.exportsSlot (slot : Nat) (number : Half) (s : State) : Bool :=
  decide (1 ≤ slot) && decide (slot ≤ 8) && s.store.queue.isEmpty
    && (match s.closedSlot slot with
        | some r => r.number == number && !r.exported
        | none => false)

/-- An EXPORTED query taken: the answer as the store stands, then row 6's effect, with the aftercare monitor
told (R146, R184). -/
def State.answerExported (src : Byte) (slot : Nat) (number : Half) (s : State) : State :=
  let t := s.pushReport src (s.exportedAnswer slot number)
  if s.exportsSlot slot number then (t.handOver (.exported slot)).retryStoreFull else t

/-- EXPORTED_QUERY (R184). -/
def execExportedQuery (dst src slot : Byte) (number : Half) (s : State) :
    Host.Outcome State Fault Refusal :=
  .next
    (s.receive dst src fun t => t.takeQuery dst fun u => u.answerExported src slot.toNat number).finish

/-- QUERY_UNKNOWN (R197). -/
def execQueryUnknown (dst src what : Byte) (s : State) : Host.Outcome State Fault Refusal :=
  .next
    (s.receive dst src fun t => t.takeQuery dst fun u =>
      u.pushReport src (.plain .outOfRange (.other what))).finish

/-! ## The pin and the queue -/

/-- A change of the KEEP pin, which the aftercare monitor is told of (R146, R184). -/
def State.keepChange (high : Bool) (s : State) : State :=
  if s.store.keepPin = high then s
  else (s.onStore fun t => { t with keepPin := high }).retryStoreFull

/-- KEEP_PIN_CHANGE (R184). -/
def execKeepPinChange (high : Bool) (s : State) : Host.Outcome State Fault Refusal :=
  .next (s.keepChange high).finish

/-- WRITE_JOB_COMPLETE (R180). -/
def execWriteJobComplete (s : State) : Host.Outcome State Fault Refusal :=
  .next (s.onStore Store.completeHead).finish

end Sys2Proof.Machine
end

