-- ==== Sys2Proof/Machine/Validate.lean ====
section
/-! DEFINITION. The validation of a BIND: its fields in index order, the first check that fails (R190 to R193), and the binding it makes. -/

namespace Sys2Proof.Machine

/-- What one check finds: nothing, or a field index with the reason of the failed check. -/
abbrev Finding := Option (Nat × RefusalReason)

/-- One check. -/
def check (ok : Bool) (index : Nat) (r : RefusalReason) : Finding :=
  if ok then none else some (index, r)

/-- A value in a range, ends included. -/
def within (v lo hi : Nat) : Bool := decide (lo ≤ v) && decide (v ≤ hi)

/-- The value times 100 lies from `lo` to `hi` times the base (R190). -/
def percentOf (v base lo hi : Nat) : Bool := within (v * 100) (lo * base) (hi * base)

/-- The first check that fails stops the walk (R190). -/
def firstFailure : List Finding → Finding
  | [] => none
  | none :: rest => firstFailure rest
  | some f :: _ => some f

/-! ## Label and roster (R190) -/

/-- Field 1: the count, then each character. -/
def checkLabel (b : BindIn) : List Finding :=
  check (within b.labelCount.toNat 1 12) 1 .range
    :: (b.labelChars.take b.labelCount.toNat).map fun c => check (within c.toNat 33 126) 1 .range

/-- Field 4, each number against the ones before it: RANGE, SELF, DUPLICATE. -/
def checkRoster (own : Nat) : List Byte → List Byte → List Finding
  | _, [] => []
  | seen, n :: rest =>
    check (within n.toNat 1 62) 4 .range :: check (n.toNat != own) 4 .self
      :: check (!seen.contains n) 4 .duplicate :: checkRoster own (seen ++ [n]) rest

/-! ## Fields before the plan (R190, R191) -/

/-- Fields 1 to 19. -/
def checkWork (own : Nat) (b : BindIn) : List Finding :=
  checkLabel b
  ++ [check (within b.wall.toNat 1 65535) 2 .range, check (within b.rosterCount.toNat 0 12) 4 .range]
  ++ checkRoster own [] (b.roster.take b.rosterCount.toNat)
  ++ [check (within b.tendonLength.toNat 500 8000) 5 .range,
      check (within b.pullLimit.toNat 10 600) 6 .range,
      check (within b.slack.toNat 1 50) 7 .range,
      check (decide (b.slack < b.pullLimit)) 7 .order,
      check (offTimePick b.offTimePick.toNat).isSome 8 .range,
      check (within b.holeVolume.toNat 10 2000) 9 .range,
      check (within b.fillFactor.toNat 100 200) 10 .range,
      check (within b.stagePressure.toNat 100 4000) 11 .range,
      check (within b.groutMax.toNat (b.stagePressure.toNat + 100) 6000) 12 .range,
      check (within b.refusalFlow.toNat 5 200) 13 .range,
      check (within b.refusalTime.toNat 1 30) 14 .range,
      check (decide (b.holeVolume.toNat * b.fillFactor.toNat / 10 ≤ 10 * b.volumeLimit.toNat)
        && decide (b.volumeLimit.toNat ≤ 10000)) 15 .range,
      check (within b.headerMin.toNat 100 4000) 16 .range,
      check (within b.breakthrough.toNat 50 2000) 17 .range,
      check (within b.setTime.toNat 1 24) 18 .range,
      check (within b.cureTime.toNat 24 672) 19 .range]

/-- Fields 20 to 34. -/
def checkJack (b : BindIn) : List Finding :=
  [check (within b.ramArea.toNat 50 1000) 20 .range,
   check (within b.maxJack.toNat 10000 70000) 21 .range,
   check (within b.designLoad.toNat 100 3000) 22 .range,
   check (percentOf b.alignLoad.toNat b.designLoad.toNat 5 20) 23 .range,
   check (within b.rampRate.toNat 20 500) 24 .range,
   check (within b.creepLimit.toNat 10 500) 25 .range,
   check (within b.extMin.toNat 0 50000) 26 .range,
   check (within b.extMax.toNat 0 50000) 27 .range,
   check (decide (b.extMin < b.extMax)) 27 .order,
   check (within b.lockTol.toNat 2 10) 28 .range,
   check (within b.lossTol.toNat 2 15) 29 .range,
   check (topUpPick b.topUpPick.toNat).isSome 30 .range,
   check (groutOverPick b.groutOverPick.toNat).isSome 31 .range,
   check (within b.extEnable.toNat 0 1) 32 .range,
   check (extPick b.extPick.toNat).isSome 33 .range,
   check (within b.keepHonour.toNat 0 1) 34 .range]

/-- Fields 35 to 38; 36 only for CURING, 37 only for LOCKED. -/
def checkStart (b : BindIn) : List Finding :=
  [check (startPhaseOfCode b.startPhase.toNat).isSome 35 .range,
   check (startPhaseOfCode b.startPhase.toNat != some .curing || within b.cureHours.toNat 1 672) 36 .range,
   check (startPhaseOfCode b.startPhase.toNat != some .locked
     || percentOf b.lockOffLoad.toNat b.designLoad.toNat 50 110) 37 .range,
   check (within b.stepCount.toNat 3 10) 38 .range]

/-! ## The plan (R192, R193) -/

/-- What the walk remembers of the steps before: the previous target (the alignment load before step 1), and
the last target of each kind. -/
structure PlanWalk where
  prev       : Nat
  lastLoad   : Option Nat
  proof      : Option Nat
  lastUnload : Option Nat
deriving DecidableEq, Repr

/-- The checks of a step's kind (R192). `last` says whether it is the plan's last step. -/
def checkKind (w : PlanWalk) (last : Bool) (index : Nat) (k : StepKind) : List Finding :=
  [check (match k with
      | .load => w.proof.isNone
      | .proof => w.proof.isNone
      | .unload => w.proof.isSome
      | .lockOff => w.proof.isSome && last) index .order,
   check (!last || k == .lockOff) index .order]

/-- The checks of a step's target (R192). -/
def checkTarget (b : BindIn) (w : PlanWalk) (index : Nat) (k : StepKind) (target : Nat) : List Finding :=
  let capacity := b.maxJack.toNat * b.ramArea.toNat / 10000
  match k with
  | .load =>
    [check (decide (1 ≤ target)) index .range,
     check (decide (w.lastLoad.getD b.alignLoad.toNat < target)) index .order]
  | .proof =>
    [check (percentOf target b.designLoad.toNat 100 160 && decide (target * 10 ≤ capacity * 9)) index .range,
     check (decide (w.lastLoad.all (fun l => decide (l < target)))) index .order]
  | .unload =>
    [check (decide (1 ≤ target)) index .range,
     check (match w.lastUnload with
       | some u => decide (target < u)
       | none => decide (target < w.proof.getD 0)) index .order]
  | .lockOff =>
    [check (percentOf target b.designLoad.toNat 50 110) index .range,
     check (decide (target < w.proof.getD 0)) index .order,
     check (decide (w.lastUnload.all (fun u => decide (target < u)))) index .order]

/-- The counted hold of a step in seconds (R193). -/
def countedHold (k : StepKind) (hold : Nat) : Nat :=
  match k with
  | .load => hold
  | .unload => hold
  | .proof => 3600
  | .lockOff => 60

/-- The checks of a step's hold: its range, then the lease fit (R192, R193). -/
def checkHold (b : BindIn) (w : PlanWalk) (index : Nat) (k : StepKind) (target hold : Nat) : List Finding :=
  let change := max target w.prev - min target w.prev
  let rate := b.rampRate.toNat
  [check (match k with
      | .load => within hold 30 900
      | .unload => within hold 30 900
      | .proof => true
      | .lockOff => true) index .range,
   check (decide (60 * change + rate * (countedHold k hold + 300) ≤ rate * 5400)) index .fit]

/-- The walk after a step. -/
def PlanWalk.after (w : PlanWalk) (k : StepKind) (target : Nat) : PlanWalk :=
  match k with
  | .load => { w with prev := target, lastLoad := some target }
  | .proof => { w with prev := target, proof := some target }
  | .unload => { w with prev := target, lastUnload := some target }
  | .lockOff => { w with prev := target }

/-- The steps from number `n` on (R192). -/
def checkSteps (b : BindIn) : Nat → PlanWalk → List StepIn → List Finding
  | _, _, [] => []
  | n, w, x :: rest =>
    let index := 39 + 3 * (n - 1)
    match stepKindOfCode x.kind.toNat with
    | none => [some (index, .range)]
    | some k =>
      checkKind w rest.isEmpty index k ++ checkTarget b w (index + 1) k x.target.toNat
        ++ checkHold b w (index + 2) k x.target.toNat x.hold.toNat
        ++ checkSteps b (n + 1) (w.after k x.target.toNat) rest

/-- The steps of the plan that count. -/
def planSteps (b : BindIn) : List StepIn := b.steps.take b.stepCount.toNat

/-- The whole validation for a controller with own number `own` (R190). -/
def validate (own : Nat) (b : BindIn) : Finding :=
  firstFailure
    (checkWork own b ++ checkJack b ++ checkStart b
      ++ checkSteps b 1 ⟨b.alignLoad.toNat, none, none, none⟩ (planSteps b))

/-! ## The binding a valid BIND makes -/

/-- One plan step of a valid BIND. -/
def planStepOf (x : StepIn) : PlanStep :=
  ⟨(stepKindOfCode x.kind.toNat).getD .load, x.target.toNat, x.hold.toNat⟩

/-- The binding of a valid BIND (R64, R194). -/
def bindingOf (b : BindIn) : Binding :=
  { label := b.labelChars.take b.labelCount.toNat
    wall := b.wall
    tendonLength := b.tendonLength.toNat
    pullLimit := b.pullLimit.toNat
    slack := b.slack.toNat
    offTimeUs := (offTimePick b.offTimePick.toNat).getD 0
    holeVolume := b.holeVolume.toNat
    fillFactor := b.fillFactor.toNat
    stagePressure := b.stagePressure.toNat
    groutMax := b.groutMax.toNat
    refusalFlow := b.refusalFlow.toNat
    refusalTime := b.refusalTime.toNat
    volumeLimit := b.volumeLimit.toNat
    headerMin := b.headerMin.toNat
    breakthrough := b.breakthrough.toNat
    setTime := b.setTime.toNat
    cureTime := b.cureTime.toNat
    ramArea := b.ramArea.toNat
    maxJack := b.maxJack.toNat
    designLoad := b.designLoad.toNat
    alignLoad := b.alignLoad.toNat
    rampRate := b.rampRate.toNat
    creepLimit := b.creepLimit.toNat
    extMin := b.extMin.toNat
    extMax := b.extMax.toNat
    lockTol := b.lockTol.toNat
    lossTol := b.lossTol.toNat
    topUpScans := (topUpPick b.topUpPick.toNat).getD 0
    groutScans := (groutOverPick b.groutOverPick.toNat).getD 0
    extEnable := b.extEnable == 1
    extScans := (extPick b.extPick.toNat).getD 0
    keepHonour := b.keepHonour == 1
    startPhase := (startPhaseOfCode b.startPhase.toNat).getD .setup
    cureHours := b.cureHours.toNat
    lockOffLoad := b.lockOffLoad.toNat
    plan := (planSteps b).map planStepOf }

end Sys2Proof.Machine
end

