-- ==== Sys2Proof/Machine/StartUp.lean ====
section
/-! DEFINITION. Power-on, the store scan, the start listen, and the BIND (11_binding_and_start_up.md, R64). -/

namespace Sys2Proof.Machine

/-! ## Power-on (R186) -/

/-- The image that the power-on scan makes of the memory: every OPEN slot closed (R182). -/
def Contents.closedPower (c : Contents) : Contents := { c with slots := c.slots.map closePower }

/-- Power-on: every block at its power-on values, the straps sampled, the image loaded with OPEN slots
closed, the pin read; the start listen begins at once unless a closing must be written (R182, R186). -/
def State.powerOn (straps : BitVec 6) (keepHigh holdSwitch : Bool) (s : State) : State :=
  { pending := s.pending, free := s.free, binding := none
    lif := .reset straps, roster := .reset, lease := .reset
    crew := .reset holdSwitch s.store.nv.anyOpen
    placement := .reset, grout := .reset, seq := .reset, aft := .reset, scan := .reset, trip := .reset
    store := { nv := s.store.nv, image := s.store.nv.closedPower, queue := [], keepPin := keepHigh }
    drives := .reset straps }

/-- POWER_ON (R186). -/
def execPowerOn (straps : BitVec 6) (keepHigh holdSwitch : Bool) (s : State) :
    Host.Outcome State Fault Refusal :=
  .next (s.powerOn straps keepHigh holdSwitch).finish

/-- One closing of the power-on scan is written; with no slot OPEN in memory the start listen begins (R182,
R186; log entry 19). -/
def State.storeScanEnd (s : State) : State :=
  if s.crew.stage = .storeScan then
    let t := s.onStore fun x => { x with nv := { x.nv with slots := closeFirst x.nv.slots } }
    if t.store.nv.anyOpen then t
    else t.onCrew fun c => { c with stage := .listen, listen := .start Config.listenUs }
  else s

/-- STORE_SCAN_END (R182). -/
def execStoreScanEnd (s : State) : Host.Outcome State Fault Refusal := .next s.storeScanEnd.finish

/-- The start listen ends: on line, the HOLD switch read, the first beacon built and its timer started
(R71, R188). -/
def State.listenEnd (s : State) : State :=
  if s.crew.stage = .listen ∧ s.crew.listen.on then
    ((s.expire s.crew.listen).onCrew fun c =>
      { c with stage := .online, listen := .off, hold := c.holdSwitch }).sendBeacon
  else s

/-- START_LISTEN_END (R188). -/
def execStartListenEnd (s : State) : Host.Outcome State Fault Refusal := .next s.listenEnd.finish

/-! ## BIND (R64, R189, R194) -/

/-- A roster entry as the binding creates it (R17). -/
def newEntry (n : Byte) : Entry :=
  { number := n.toNat, presence := .listening, count := 0, mismatch := none, age := 0,
    lostLatch := false, heardPhase := none, heardHeld := false, heard := none }

/-- Placement starts (R81). -/
def Placement.begin (p : Placement) : Placement :=
  { p with
    sub := some .waitGo, ropeOut := 0, limitCount := 0, cleanDist := 0, offTime := .off, slackTime := 0,
    breakTime := 0, limitEvents := 0, slackPauses := 0 }

/-- The opening append (R81, R94, R175). -/
def State.openInstallation (tendon : Option Nat) (s : State) : State :=
  s.handOver (.opening ⟨s.par.label, tendon, s.store.image.counter⟩)

/-- The block that owns the start phase enters it (R64). -/
def State.enterStart (p : Phase) (s : State) : State :=
  match p with
  | .placing => (s.onPlacement Placement.begin).openInstallation (some s.par.tendonLength)
  | .grouting => (s.onGrout Grout.enter).openInstallation none
  | .curing => s.onGrout fun g => { g with cureTimer := .start (s.par.cureHours * Config.hourUs) }
  | .locked => s.enterLocked s.par.lockOffLoad none
  | .cured => s
  | .setup => s
  | .setting => s
  | .stressing => s
  | .rejected => s
  | .detached => s

/-- A binding accepted: roster, group mask, parameters, start phase, BIND_OK, in one event (R17, R64,
R189, R194). -/
def State.acceptBind (src : Byte) (b : BindIn) (s : State) : State :=
  let entries := (b.roster.take b.rosterCount.toNat).map newEntry
  let start := (bindingOf b).startPhase
  let t := (((s.setBinding (some (bindingOf b))).onRoster fun r => { r with entries }).onLif fun l =>
    { l with groupMask := b.groupMask }).toPhase start
  (t.enterStart start).pushReport src (.bindOk s.ownNumber start entries.length)

/-- A BIND taken: refused with BOUND, refused by the validation, or accepted (R189). -/
def State.decideBind (src : Byte) (b : BindIn) (s : State) : State :=
  if s.bound || s.crew.phase != .setup then s.pushReport src (.bindRefused 0 .bound)
  else
    match validate s.ownNumber b with
    | some (i, r) => s.pushReport src (.bindRefused i r)
    | none => s.acceptBind src b

/-- BIND (R189). -/
def execBind (dst src : Byte) (b : BindIn) (s : State) : Host.Outcome State Fault Refusal :=
  .next (s.receive dst src fun t => t.takeQuery dst fun u => u.decideBind src b).finish

end Sys2Proof.Machine
end

