-- ==== Sys2Proof/Machine/Dispatch.lean ====
section
/-! DEFINITION. The meaning of every command: one arm per row of spec/opcode_table.json. -/

namespace Sys2Proof.Machine

/-- What a command does to everything but the queue. -/
def exec (i : Instr) (s : State) : Host.Outcome State Fault Refusal :=
  match i with
  | .powerOn straps keepHigh holdSwitch => Sys2Proof.Machine.execPowerOn straps keepHigh holdSwitch s
  | .startListenEnd => Sys2Proof.Machine.execStartListenEnd s
  | .go => Sys2Proof.Machine.execGo s
  | .stop => Sys2Proof.Machine.execStop s
  | .stopRelease => Sys2Proof.Machine.execStopRelease s
  | .longStop => Sys2Proof.Machine.execLongStop s
  | .holdOn => Sys2Proof.Machine.execHoldOn s
  | .holdOff => Sys2Proof.Machine.execHoldOff s
  | .keepPinChange high => Sys2Proof.Machine.execKeepPinChange high s
  | .badReception burst => Sys2Proof.Machine.execBadReception burst s
  | .beacon dst src b => Sys2Proof.Machine.execBeacon dst src b s
  | .ask dst src cls stamp count => Sys2Proof.Machine.execAsk dst src cls stamp count s
  | .reply dst src entries => Sys2Proof.Machine.execReply dst src entries s
  | .withdraw dst src stamp => Sys2Proof.Machine.execWithdraw dst src stamp s
  | .leave dst src => Sys2Proof.Machine.execLeave dst src s
  | .retire dst src number => Sys2Proof.Machine.execRetire dst src number s
  | .alert dst src cause phase value => Sys2Proof.Machine.execAlert dst src cause phase value s
  | .reportDiscard dst src => Sys2Proof.Machine.execReportDiscard dst src s
  | .bind dst src b => Sys2Proof.Machine.execBind dst src b s
  | .statusQuery dst src => Sys2Proof.Machine.execStatusQuery dst src s
  | .recordQuery dst src slot part => Sys2Proof.Machine.execRecordQuery dst src slot part s
  | .exportedQuery dst src slot number => Sys2Proof.Machine.execExportedQuery dst src slot number s
  | .queryUnknown dst src what => Sys2Proof.Machine.execQueryUnknown dst src what s
  | .quietWaitEnd => Sys2Proof.Machine.execQuietWaitEnd s
  | .collision => Sys2Proof.Machine.execCollision s
  | .backoffEnd => Sys2Proof.Machine.execBackoffEnd s
  | .transmitComplete => Sys2Proof.Machine.execTransmitComplete s
  | .jabberCutoff => Sys2Proof.Machine.execJabberCutoff s
  | .beaconTimer => Sys2Proof.Machine.execBeaconTimer s
  | .beaconAgeExpiry number => Sys2Proof.Machine.execBeaconAgeExpiry number s
  | .askTimer => Sys2Proof.Machine.execAskTimer s
  | .reaskDelayEnd => Sys2Proof.Machine.execReaskDelayEnd s
  | .holdTimerOverrun => Sys2Proof.Machine.execHoldTimerOverrun s
  | .scanPublish v => Sys2Proof.Machine.execScanPublish v s
  | .offTimeEnd => Sys2Proof.Machine.execOffTimeEnd s
  | .slackFound => Sys2Proof.Machine.execSlackFound s
  | .cleanDistanceReached => Sys2Proof.Machine.execCleanDistanceReached s
  | .placementComplete => Sys2Proof.Machine.execPlacementComplete s
  | .breakIn => Sys2Proof.Machine.execBreakIn s
  | .fillComplete => Sys2Proof.Machine.execFillComplete s
  | .volumeLimit => Sys2Proof.Machine.execVolumeLimit s
  | .refusal => Sys2Proof.Machine.execRefusal s
  | .headerSag => Sys2Proof.Machine.execHeaderSag s
  | .yieldEnd => Sys2Proof.Machine.execYieldEnd s
  | .cleanTimeReached => Sys2Proof.Machine.execCleanTimeReached s
  | .settingBreakthrough => Sys2Proof.Machine.execSettingBreakthrough s
  | .setTimerEnd => Sys2Proof.Machine.execSetTimerEnd s
  | .cureTimerEnd => Sys2Proof.Machine.execCureTimerEnd s
  | .rampTimerLimit => Sys2Proof.Machine.execRampTimerLimit s
  | .stepHoldEnd => Sys2Proof.Machine.execStepHoldEnd s
  | .alignCheck => Sys2Proof.Machine.execAlignCheck s
  | .proofReading => Sys2Proof.Machine.execProofReading s
  | .seatingEnd => Sys2Proof.Machine.execSeatingEnd s
  | .unloadTimerLimit => Sys2Proof.Machine.execUnloadTimerLimit s
  | .settleEnd => Sys2Proof.Machine.execSettleEnd s
  | .lowTimeReached => Sys2Proof.Machine.execLowTimeReached s
  | .recoveryTimeReached => Sys2Proof.Machine.execRecoveryTimeReached s
  | .topupSeatingEnd => Sys2Proof.Machine.execTopupSeatingEnd s
  | .topupSettleEnd => Sys2Proof.Machine.execTopupSettleEnd s
  | .jackOver => Sys2Proof.Machine.execJackOver s
  | .groutOver => Sys2Proof.Machine.execGroutOver s
  | .extRunaway => Sys2Proof.Machine.execExtRunaway s
  | .sensorFault ch => Sys2Proof.Machine.execSensorFault ch s
  | .writeJobComplete => Sys2Proof.Machine.execWriteJobComplete s
  | .frameNotAccepted dst src => Sys2Proof.Machine.execFrameNotAccepted dst src s
  | .storeScanEnd => Sys2Proof.Machine.execStoreScanEnd s

end Sys2Proof.Machine
end

