-- ==== Sys2Proof/Machine/Step.lean ====
section
/-! DEFINITION. One step: the command at the front of the queue, with the rest left in the queue. -/

namespace Sys2Proof.Machine

/-- Take the oldest waiting command and do it; with none waiting the controller idles (log entry 2). -/
def step (s : State) : Host.Outcome State Fault Refusal :=
  match s.pending with
  | [] => .next s
  | c :: rest => exec c { s with pending := rest }

/-- A command put in front of the queue. -/
def State.withCommand (c : Instr) (s : State) : State := { s with pending := c :: s.pending }

/-- The command that a word of the table spells, put in front of the queue; no row of the table gives bits,
so no word spells one and the state is unchanged. -/
def State.withFetchWord (s : State) (nbits w : Nat) : State :=
  match decodeTableWord nbits w with
  | none => s
  | some c => s.withCommand c

end Sys2Proof.Machine
end

