-- ==== Sys2Proof/Safety.lean ====
section
/-! DEFINITION. What every step must keep: the store's image and limits, the drives under the lease and the latches, the binding, the clock, the deferred list. -/

namespace Sys2Proof.Machine

/-! ## The record store (R173, R178, R179, R180) -/

/-- The image is the memory with the waiting jobs made, in job order (R173). -/
def Store.replays (t : Store) : Prop := t.image = t.queue.foldl applyJob t.nv

/-- A slot holds at most 24 points and 3 top-up entries (R178). -/
def SlotRecord.bounded (r : SlotRecord) : Bool :=
  decide (r.points.length ≤ Config.maxPoints) && decide (r.topUps.length ≤ Config.maxTopUps)

/-- Eight slots, each within its limits. -/
def Contents.bounded (c : Contents) : Bool :=
  c.slots.length == 8 && c.slots.all fun x => (x.map SlotRecord.bounded).getD true

/-- The memory stays within the limits as each waiting job is made. -/
def boundedRun (c : Contents) : List Job → Bool
  | [] => c.bounded
  | j :: rest => c.bounded && boundedRun (applyJob c j) rest

/-- The image follows from memory and queue, the queue holds at most four jobs, and no slot ever passes its
limits. -/
def Store.sound (t : Store) : Prop :=
  t.replays ∧ t.queue.length ≤ Config.queuePlaces ∧ boundedRun t.nv t.queue = true

/-- The store in the power-on scan: the image shows every OPEN slot closed, no job waits, and the memory is
within its limits (R182). -/
def Store.soundInScan (t : Store) : Prop :=
  t.image = t.nv.closedPower ∧ t.queue = [] ∧ t.nv.bounded = true

/-- The store as it must stand: in the power-on scan, with the phase that no block works in, as the scan
leaves it; from its end on, sound (R173, R182, R186). -/
def State.storeStands (s : State) : Prop :=
  if s.crew.stage = .storeScan then
    (s.crew.phase = .setup ∨ s.crew.phase = .detached) ∧ s.store.soundInScan
  else s.store.sound

/-! ## The deferred list (R44) -/

/-- The deferred list is empty whenever the lease is IDLE, the phase is neither GROUTING nor SETTING, and no
top-up is PENDING (R44). -/
def State.listAnswered (s : State) : Prop :=
  s.lease.state = .idle → s.freshGrout = false → s.pendingTopUp = false → s.lease.deferred = []

/-! ## One entry per neighbour (R12, R42) -/

/-- The deferred list holds at most one entry per neighbour, and so do the reply batch and a batch that is
being sent. -/
def State.onePerNeighbour (s : State) : Prop :=
  (s.lease.deferred.map Deferred.number).Nodup
    ∧ (s.lif.batch.frame.map ReplyEntry.target).Nodup
    ∧ ∀ es n, s.lif.tx = .sending (.reply es) n → (es.map ReplyEntry.target).Nodup

/-! ## The lease and the work (R37, R47, R58, R67, R120, R139, R145, R149) -/

/-- The sub-states in which a request is held for the lease: WAIT_LEASE, ABORT_WAIT and PENDING. -/
def State.mayAsk (s : State) : Bool := s.seqIn .waitLease || s.seqIn .abortWait || s.pendingTopUp

/-- The sub-states and stages that move the load, which need the lease: every other sub-state of a test,
and every stage of a top-up. -/
def State.mayHold (s : State) : Bool :=
  (s.crew.phase == .stressing && s.seq.sub.isSome && !s.seqIn .waitLease && !s.seqIn .abortWait)
    || s.toppingUp

/-- Lease and work fit: in IDLE there is a request just where one is held, and it waits; in ASKING the
request of such a sub-state is taken; in HOLDING the sub-state or stage is one that needs the lease. -/
def State.leaseFits (s : State) : Prop :=
  match s.lease.state with
  | .idle =>
    s.mayHold = false ∧ s.request.isSome = s.mayAsk
      ∧ s.request.map Request.status ≠ some .taken
  | .asking =>
    s.mayAsk = true ∧ s.request.map Request.status = some .taken ∧ s.lease.ask.isSome = true
  | .holding =>
    s.mayHold = true ∧ s.request.map Request.status = some .taken ∧ s.lease.ask.isSome = true

/-! ## The drives (R82, R95, R115, R116) -/

/-- The outputs are what the state gives. -/
abbrev State.drivesFollow (s : State) : Prop := s.drives = s.drivesNow

/-- The laws of the device that the outputs obey: the pump and the relief valve only while HOLDING, the pump
off under any latch, the grout valve only in FILL and PRESS, the winch only in PAYOUT. -/
def State.drivesSafe (s : State) : Prop :=
  (s.drives.pump = true → s.lease.state = .holding ∧ s.held = false ∧ s.crew.hold = false)
    ∧ (s.drives.relief = true → s.lease.state = .holding ∧ s.crew.hold = false)
    ∧ (s.drives.valve ≠ .closed →
        (s.groutIn .fill = true ∨ s.groutIn .press = true) ∧ s.held = false ∧ s.crew.hold = false)
    ∧ (s.drives.winch = true → s.placeIn .payout = true ∧ s.held = false ∧ s.crew.hold = false)

/-! ## What every operation keeps -/

/-- The station numbers of the roster, in order. -/
def State.numbers (s : State) : List Nat := s.roster.entries.map Entry.number

/-- What no command but POWER_ON and STORE_SCAN_END may break: the queue of waiting commands, the straps, an
accepted binding with its roster (R17, R189), a clock that does not go down (R35), a sound store. -/
structure Keeps (s t : State) : Prop where
  pending : t.pending = s.pending
  straps  : t.lif.straps = s.lif.straps
  bound   : ∀ b, s.binding = some b → t.binding = some b ∧ t.numbers = s.numbers
  clock   : s.lease.clock ≤ t.lease.clock
  store   : s.store.sound → t.store.sound

/-! ## Words of the statements -/

/-- A valid frame with this destination and source is heard and handed on: the controller is not sending,
the source is another station, the filter accepts the destination (R3, R4, R5). -/
abbrev State.hears (dst src : Byte) (s : State) : Prop :=
  s.sending = false ∧ s.own ≠ some src.toNat ∧ s.accepts dst = true

/-- A query or BIND to this destination is taken (R6, R14, R187). -/
abbrev State.takes (dst : Byte) (s : State) : Prop :=
  s.own = some dst.toNat ∧ s.crew.stage = .online ∧ s.lif.fifo.length < 4 ∧ s.listenOnly = false

/-- The lease would take a request of the block that owns it, with or without the abort flag (R37). -/
abbrev State.wouldTake (abort : Bool) (s : State) : Prop :=
  s.lease.state = .idle ∧ s.crew.hold = false ∧ (s.held = false ∨ abort = true)
    ∧ s.lease.clock ≠ 4294967295#32 ∧ s.allPresent = true ∧ (s.lease.reask.on = false ∨ abort = true)

/-- From `s` to `t` the scan and the trip monitor change only as the closing of an event changes them:
rail times, deglitch times, the EXT window (R159, R163, R165). -/
abbrev State.settles (s t : State) : Prop :=
  t.scan = { s.scan with railTimes := t.scan.railTimes }
    ∧ t.trip =
        { s.trip with
          jackTime := t.trip.jackTime, groutTime := t.trip.groutTime, extTime := t.trip.extTime
          window := t.trip.window }

/-- The deferred entries that are granted when the lease enters IDLE as the state otherwise stands (R44): none
in GROUTING and SETTING, those of class RESTORE while a top-up is PENDING, else all. -/
def State.grantedInIdle (s : State) : List Deferred :=
  if s.crew.phase = .grouting ∨ s.crew.phase = .setting then []
  else if s.crew.phase = .locked ∧ s.aft.sub = some .pending then
    s.lease.deferred.filter fun d => d.cls == .restore
  else s.lease.deferred

/-- The deferred entries that then stay in the list (R44). -/
def State.keptInIdle (s : State) : List Deferred :=
  if s.crew.phase = .grouting ∨ s.crew.phase = .setting then s.lease.deferred
  else if s.crew.phase = .locked ∧ s.aft.sub = some .pending then
    s.lease.deferred.filter fun d => !(d.cls == .restore)
  else []

/-- The reply batch with GRANT entries for deferred entries, in list order, unless listen-only (R12, R15,
R44). -/
def State.batchGranting (ds : List Deferred) (s : State) : Waiting (List ReplyEntry) :=
  if s.listenOnly then s.lif.batch
  else
    { s.lif.batch with
      frame := ds.foldl (fun es d => putReply ⟨d.number, d.stamp, .grant, .none⟩ es) s.lif.batch.frame }

/-- The lease back in IDLE, with what R44 then grants (R49, R51, R58). -/
def State.idled (s : State) : State :=
  { s with
    lease :=
      { s.lease with
        state := .idle, ask := none, required := [], askTimer := .off, hold := .off
        deferred := s.keptInIdle }
    lif := { s.lif with batch := s.batchGranting s.grantedInIdle } }

/-- The ask withdrawn: WITHDRAW offered to the ask slot, the lease back in IDLE (R51). -/
def State.withdrawn (s : State) : State :=
  { s.idled with
    lif :=
      { s.idled.lif with
        ask := if s.listenOnly then s.lif.ask else some ⟨.withdraw s.askStamp, 0⟩ } }

/-- The latches that stay set and the channels that stay named at a STOP press, with the first cause
(R168, R169). -/
def State.tripAfterPress (s : State) : Trip :=
  { s.trip with
    latches := s.trip.latches.filter fun l => !s.releases l
    named := s.trip.named.filter fun c => s.atRail c && s.inUse c
    firstCause :=
      if (s.trip.latches.filter fun l => !s.releases l) = [] then none else s.trip.firstCause }

/-- The phase machine's own part of a STOP press (R68, R73). -/
def Crew.afterPress (c : Crew) : Crew :=
  { c with storeFull := false, stopHold := ⟨true, 0, 5000000⟩ }

/-- The phase machine's own part of a STOP press, on the state that the press has left otherwise. -/
def State.pressNoted (s : State) : State := { s with crew := s.crew.afterPress }

/-- The press ends HELD while a request waits with HELD (R39, R169). -/
abbrev State.freesHeld (s : State) : Prop :=
  s.held = true ∧ s.tripAfterPress.latches = [] ∧ s.waitsWith (some .held) = true

/-- Neither the deglitch time of JACK_OVER nor a scan with this JP brings JACK_OVER due, no channel is at its
rail at that scan, and none has been (R159, R164). -/
abbrev State.calmAt (v : ScanSet) (s : State) : Prop :=
  v.rails = 0 ∧ s.scan.railTimes = [0, 0, 0, 0, 0, 0, 0, 0] ∧ v.jp ≤ (s.par.maxJack : Int)
    ∧ s.trip.jackTime = 0

/-- The state at a scan, before the blocks of the phase act on it: the event before it closed, 100 ms passed, the
set published and measured (R156, R159; ScanMeasuresAndHandsOn says what is published). -/
abbrev State.atScan (v : ScanSet) (s : State) : State := (s.finish.elapse 100000).publish v

/-- The required set with this number's mark set (R46). -/
def marked (n : Nat) (k : Mark) (ms : List Member) : List Member :=
  ms.map fun m => if m.number = n then { m with mark := k } else m

/-- A lock-off completed with the LC of the latest scan as the residual: the residual point, LOCKOFF_LOW where it
is low, the closing with PASS, the lease released, LOCKED in WATCH with the test's target and slot (R133, R134,
R143). -/
def State.lockedOff (n : Nat) (s : State) : State :=
  let residual := s.scan.lc.toNat
  let low := decide (residual * 100 < s.stepTarget * (100 - s.par.lockTol))
  let u := s.handOver (.point n
    ⟨s.seq.step, residual, s.scan.ext - s.seq.datum.getD 0, s.seq.clock / 1000000⟩)
  let w := if low then u.handOver (.lockOffLow n) else u
  { s.idled with
    store := (w.handOver (.closing n .pass (some residual))).store
    crew := { s.crew with phase := .locked }
    seq :=
      { s.seq with
        sub := none, request := none, clockOn := false, jack := .reset, holdTimer := .off,
        tripMark := false, slot := none, lockOffLow := low || s.seq.lockOffLow }
    aft :=
      { s.aft with
        sub := some .watch, stage := none, target := some s.stepTarget, slot := some n, lowTime := 0,
        recovery := 0, request := none, jack := .reset, count := 0, lossExcess := false } }

/-- A test ended with a verdict and a phase, from a held lease: the closing, the release (R131, R140). -/
def State.testEnded (n : Nat) (v : Verdict) (p : Phase) (s : State) : State :=
  { s.idled with
    store := (s.handOver (.closing n v none)).store
    crew := { s.crew with phase := p }
    seq :=
      { s.seq with
        sub := none, request := none, clockOn := false, jack := .reset, holdTimer := .off,
        tripMark := false, slot := none } }

/-- A top-up ended with its after load and result, from a held lease: the entry, the count, the release, WATCH
(R150, R152). -/
def State.topUpEnded (n after : Nat) (ok : Bool) (s : State) : State :=
  { s.idled with
    store := (s.handOver (.topUp n ⟨s.aft.before, after, ok⟩)).store
    aft :=
      { s.aft with
        sub := some .watch, stage := none, count := s.aft.count + 1, lowTime := 0, recovery := 0,
        request := none, jack := .reset } }

/-- A step of a test ended, from a held lease: the lease released, the next step in WAIT_LEASE with its ADVANCE
request, which is presented at once (R120, R124). -/
def State.stepEnded (s : State) : State :=
  State.present
    { s.idled with
      seq :=
        { s.seq with
          holdTimer := .off, jack := { s.seq.jack with ramp := .off, raise := false, lower := false }
          step := s.seq.step + 1, sub := some .waitLease, request := some ⟨.advance, false, .waiting none⟩ } }

/-- The entry after a recorded beacon with these codes, good where `fault` is none (R19, R21, R22). -/
def Entry.afterBeacon (fault : Option MismatchReason) (b : BeaconIn) (p : Phase) (l : LeaseState) (e : Entry) :
    Entry :=
  { e with
    age := 0, heardPhase := some p, heardHeld := b.flags.getLsbD 0, heard := some ⟨b.sub, l, b.load⟩
    presence :=
      match fault, e.presence with
      | some _, .retired => .retired
      | some _, _ => .mismatch
      | none, .listening => if 2 ≤ e.count then .present else .listening
      | none, .present => .present
      | none, _ => .listening
    count :=
      match fault, e.presence with
      | some _, .retired => e.count
      | some _, _ => 0
      | none, .listening => if 2 ≤ e.count then 3 else e.count + 1
      | none, .present => 3
      | none, _ => 1
    mismatch :=
      match fault, e.presence with
      | some _, .retired => e.mismatch
      | some r, _ => some r
      | none, .listening => e.mismatch
      | none, .present => e.mismatch
      | none, _ => none }

/-- The state after a recorded beacon from a roster member, before the lease acts on a change of presence: the
quiet measure, the clock, the entry (R19, R21, R22, R35). -/
def State.afterBeacon (src : Byte) (fault : Option MismatchReason) (b : BeaconIn) (p : Phase) (l : LeaseState)
    (s : State) : State :=
  { s with
    lif := { s.lif with quiet := ⟨true, 0, 384⟩ }
    lease := { s.lease with clock := if s.lease.clock < b.clock then b.clock else s.lease.clock }
    roster :=
      { s.roster with
        entries := s.roster.entries.map fun e =>
          if e.number = src.toNat then e.afterBeacon fault b p l else e } }

/-- An entry made RETIRED, with its deferred entry removed (R24, R25, R45). -/
def State.entryRetired (n : Nat) (s : State) : State :=
  { s with
    lease := { s.lease with deferred := s.lease.deferred.filter fun d => d.number != n }
    roster :=
      { s.roster with
        entries := s.roster.entries.map fun e =>
          if e.number = n ∧ e.presence ≠ .retired then
            { e with presence := .retired, count := 0, mismatch := none }
          else e } }

end Sys2Proof.Machine
end

