-- ==== Sys2Proof/Certificates/Slice0/Obligations.lean ====
section
/-! DEFINITION. The statements about the controller: what each command does, and the laws that every command keeps. -/

section

open Sys2Proof Sys2Proof.Machine

/-- For every command c and state s whose queue is c followed by rest, step s is exec c on s with the
queue rest. With an empty queue step answers the same state. This is the model's own choice (log entry
2, DESIGN CHOICE): time passes only in the commands that the table lists. -/
def Obligations.StepRunsFrontCommand : Prop :=
  (∀ (s : State) (c : Instr) (rest : List Instr), s.pending = c :: rest →
      step s = exec c { s with pending := rest })
  ∧ (∀ s : State, s.pending = [] → step s = .next s)

/-- The closing of an event keeps every block but four things. Deglitch times and the EXT window of
conditions that are no longer tested, and rail times of channels not in use, are 0. A free transmitter
waits quiet when it is on line, not listen-only and some slot holds a frame. The drives are the ones the
state gives, and a lamp pattern that changes starts at the beginning of its cycle. While HOLD is on,
passing time leaves the off-time timer and the ramp timers of tests and top-ups; with HOLD off they
advance. The unload timers advance just while the relief valve is open, which it is not under HOLD. The
step hold, seating, settle, set, cure and yield timers and the hold timer of the lease always advance.
An advance adds the time that passes, and a timer stops at its limit and waits there for its own
command: this last is the choice of the model (log entry 3, DESIGN CHOICE). -/
def Obligations.EndOfEventAndPassingTime : Prop :=
  (∀ s : State, ∃ t, s.finish = t ∧
      t.pending = s.pending ∧ t.free = s.free ∧ t.binding = s.binding ∧ t.roster = s.roster
      ∧ t.lease = s.lease ∧ t.crew = s.crew ∧ t.placement = s.placement ∧ t.grout = s.grout
      ∧ t.seq = s.seq ∧ t.aft = s.aft ∧ t.store = s.store
      ∧ t.trip =
          { s.trip with
            jackTime := if s.inUse .jp then s.trip.jackTime else 0
            groutTime := if s.crew.phase = .grouting then s.trip.groutTime else 0
            extTime := if s.seqIn .holdLoad then s.trip.extTime else 0
            window := if s.seqIn .holdLoad then s.trip.window else [] }
      ∧ t.scan =
          { s.scan with railTimes := allChannels.map fun c => if s.inUse c then s.railTime c else 0 }
      ∧ t.lif =
          { s.lif with
            tx :=
              if s.lif.tx = .free ∧ s.crew.stage = .online ∧ s.listenOnly = false ∧ s.anySlot = true then
                .waitingQuiet
              else s.lif.tx }
      ∧ t.drives =
          { winch := s.winchOn, valve := s.valveOf, pump := s.pumpOn, relief := s.reliefOpen,
            seating := s.seatingOn, lamp := s.lampPattern,
            lampUs := if s.drives.lamp = s.lampPattern then s.drives.lampUs else 0 })
  ∧ (∀ (d : Nat) (s : State),
      (s.crew.hold = true →
        (s.elapse d).placement.offTime = s.placement.offTime
        ∧ (s.elapse d).seq.jack.ramp = s.seq.jack.ramp ∧ (s.elapse d).aft.jack.ramp = s.aft.jack.ramp
        ∧ s.reliefOpen = false)
      ∧ (s.crew.hold = false →
        (s.elapse d).placement.offTime = s.placement.offTime.tick d
        ∧ (s.elapse d).seq.jack.ramp = s.seq.jack.ramp.tick d
        ∧ (s.elapse d).aft.jack.ramp = s.aft.jack.ramp.tick d)
      ∧ (s.reliefOpen = true →
        (s.elapse d).seq.jack.unload = s.seq.jack.unload.tick d
        ∧ (s.elapse d).aft.jack.unload = s.aft.jack.unload.tick d)
      ∧ (s.reliefOpen = false →
        (s.elapse d).seq.jack.unload = s.seq.jack.unload ∧ (s.elapse d).aft.jack.unload = s.aft.jack.unload)
      ∧ (s.elapse d).seq.holdTimer = s.seq.holdTimer.tick d
      ∧ (s.elapse d).seq.jack.seating = s.seq.jack.seating.tick d
      ∧ (s.elapse d).seq.jack.settle = s.seq.jack.settle.tick d
      ∧ (s.elapse d).aft.jack.seating = s.aft.jack.seating.tick d
      ∧ (s.elapse d).aft.jack.settle = s.aft.jack.settle.tick d
      ∧ (s.elapse d).grout.setTimer = s.grout.setTimer.tick d
      ∧ (s.elapse d).grout.cureTimer = s.grout.cureTimer.tick d
      ∧ (s.elapse d).grout.yieldTimer = s.grout.yieldTimer.tick d
      ∧ (s.elapse d).lease.hold = s.lease.hold.tick d
      ∧ ∀ t : Timer, t.on = true → t.tick d = { t with elapsed := min t.limit (t.elapsed + d) })

/-- From any state POWER_ON answers a state in which each block holds the values its chapter gives after
power-on: line interface with the straps sampled, empty slots, counters 0, the generator loaded; roster
empty; lease IDLE at clock 0; phase SETUP without binding, HOLD off, the switch read; placement, grout
controller, sequencer, aftercare monitor, scan and trip monitor at their values, with every timer of a
test and of a top-up stopped; every drive off, closed or idle. With no slot OPEN in memory the stage is
the start listen and its 3 s run; with one OPEN it is the store scan. The queue of waiting commands
stays. That the quiet measure runs from 0 is the choice of the model (log entry 33, DESIGN CHOICE); the
other values it chooses there are left out of this statement. -/
def Obligations.PowerOnResetsEveryBlock : Prop :=
  ∀ (straps : BitVec 6) (keep hold : Bool) (s : State), ∃ t, exec (.powerOn straps keep hold) s = .next t ∧
    t.pending = s.pending ∧ t.binding = none
    ∧ t.lif =
        { straps, groupMask := 0, batch := ⟨[], 0⟩, ask := none, alert := none, fifo := [], beacon := none,
          tx := .free
          rng := if straps = 0 ∨ straps = 63 then 40000 else 40000 + straps.zeroExtend 16
          rxErrors := 0, txDrops := 0, queryDrops := 0
          quiet := ⟨true, 0, 384⟩, backoff := ⟨false, 0, 0⟩, drive := ⟨false, 0, 0⟩ }
    ∧ t.roster = { entries := [], beaconTimer := ⟨false, 0, 0⟩ }
    ∧ t.lease =
        { state := .idle, clock := 0, ask := none, required := [], deferred := [],
          askTimer := ⟨false, 0, 0⟩, reask := ⟨false, 0, 0⟩, hold := ⟨false, 0, 0⟩, askLapses := 0 }
    ∧ t.crew =
        { phase := .setup, hold := false, holdSwitch := hold, storeFull := false, stopHold := ⟨false, 0, 0⟩
          stage := if s.store.nv.anyOpen then .storeScan else .listen
          listen := if s.store.nv.anyOpen then ⟨false, 0, 0⟩ else ⟨true, 0, 3000000⟩ }
    ∧ t.placement =
        { sub := none, ropeOut := 0, limitCount := 0, cleanDist := 0, offTime := ⟨false, 0, 0⟩,
          slackTime := 0, breakTime := 0, limitEvents := 0, slackPauses := 0 }
    ∧ t.grout =
        { sub := none, opening := 100, volume := 0, remainder := 0, refusalTime := 0, sagTime := 0,
          yieldTimer := ⟨false, 0, 0⟩, left := none, yieldCount := 0, cleanTime := 0, yieldEvents := 0,
          result := none, setTimer := ⟨false, 0, 0⟩, cureTimer := ⟨false, 0, 0⟩, watch := .unarmed,
          breakTime := 0, testsOpen := false }
    ∧ t.seq.sub = none ∧ t.seq.step = 0 ∧ t.seq.request = none ∧ t.seq.clockOn = false ∧ t.seq.clock = 0
    ∧ t.seq.datum = none ∧ t.seq.ext5 = none ∧ t.seq.ext15 = none ∧ t.seq.verdict = none
    ∧ t.seq.extended = false ∧ t.seq.lockOffLow = false ∧ t.seq.tripMark = false ∧ t.seq.abort = none
    ∧ t.seq.holdTimer = ⟨false, 0, 0⟩ ∧ t.seq.jack.ramp = ⟨false, 0, 0⟩ ∧ t.seq.jack.unload = ⟨false, 0, 0⟩
    ∧ t.seq.jack.seating = ⟨false, 0, 0⟩ ∧ t.seq.jack.settle = ⟨false, 0, 0⟩
    ∧ t.aft.sub = none ∧ t.aft.stage = none ∧ t.aft.target = none ∧ t.aft.slot = none ∧ t.aft.count = 0
    ∧ t.aft.lossExcess = false ∧ t.aft.lowTime = 0 ∧ t.aft.recovery = 0 ∧ t.aft.request = none
    ∧ t.aft.jack.ramp = ⟨false, 0, 0⟩ ∧ t.aft.jack.unload = ⟨false, 0, 0⟩
    ∧ t.aft.jack.seating = ⟨false, 0, 0⟩ ∧ t.aft.jack.settle = ⟨false, 0, 0⟩
    ∧ t.scan.jp = 0 ∧ t.scan.ext = 0 ∧ t.scan.lc = 0 ∧ t.scan.gp = 0 ∧ t.scan.gf = 0 ∧ t.scan.hp = 0
    ∧ t.scan.wp = 0 ∧ t.scan.ro = 0 ∧ t.scan.railTimes = [0, 0, 0, 0, 0, 0, 0, 0]
    ∧ t.trip =
        { latches := [], named := [], firstCause := none, jackTime := 0, groutTime := 0, extTime := 0,
          window := [] }
    ∧ t.drives.winch = false ∧ t.drives.valve = .closed ∧ t.drives.pump = false ∧ t.drives.relief = false
    ∧ t.drives.seating = false
    ∧ t.drives.lamp = if straps = 0 ∨ straps = 63 then .fastBlink else .off

/-- POWER_ON leaves the nonvolatile memory as it is, empties the append queue, reads the KEEP pin, and
loads the image with every OPEN slot CLOSED as ABORTED(POWER) and everything else unchanged. With no
slot OPEN in memory the start listen of 3 s begins at once; with one OPEN the controller is in the store
scan. In the store scan, STORE_SCAN_END closes in memory the first slot that is OPEN as ABORTED(POWER),
its content kept. Where that was the last one, the start listen of 3 s begins; where another is OPEN,
the scan goes on (one closing for each command: log entry 19, DEDUCED). With no slot OPEN it changes no
slot and the start listen begins. Outside the store scan it changes nothing (log entry 5, the choice of
the model). -/
def Obligations.PowerOnScansTheStore : Prop :=
  (∀ (straps : BitVec 6) (keep hold : Bool) (s : State), ∃ t, exec (.powerOn straps keep hold) s = .next t ∧
      t.store.nv = s.store.nv ∧ t.store.queue = [] ∧ t.store.keepPin = keep
      ∧ t.store.image.inst = s.store.nv.inst ∧ t.store.image.counter = s.store.nv.counter
      ∧ t.store.image.slots.length = s.store.nv.slots.length
      ∧ (∀ i : Nat, s.store.nv.slots[i]? = some none → t.store.image.slots[i]? = some none)
      ∧ (∀ (i : Nat) (r : SlotRecord), s.store.nv.slots[i]? = some (some r) →
          t.store.image.slots[i]? =
            some (some (if r.isOpen then { r with isOpen := false, verdict := some (.aborted .power) } else r)))
      ∧ ((∀ r, some r ∈ s.store.nv.slots → r.isOpen = false) →
          t.crew.stage = .listen ∧ t.crew.listen = ⟨true, 0, 3000000⟩)
      ∧ ((∃ r, some r ∈ s.store.nv.slots ∧ r.isOpen = true) → t.crew.stage = .storeScan ∧ t.crew.listen.on = false))
  ∧ ((∀ (s : State) (pre post : List (Option SlotRecord)) (r : SlotRecord), s.crew.stage = .storeScan →
      s.store.nv.slots = pre ++ some r :: post → r.isOpen = true →
      (∀ q, some q ∈ pre → q.isOpen = false) →
      ((∀ q, some q ∈ post → q.isOpen = false) →
        exec .storeScanEnd s = .next (State.finish
          { s with
            store :=
              { s.store with
                nv :=
                  { s.store.nv with
                    slots := pre ++ some { r with isOpen := false, verdict := some (.aborted .power) } :: post } }
            crew := { s.crew with stage := .listen, listen := ⟨true, 0, 3000000⟩ } }))
      ∧ ((∃ q, some q ∈ post ∧ q.isOpen = true) →
        exec .storeScanEnd s = .next (State.finish
          { s with
            store :=
              { s.store with
                nv :=
                  { s.store.nv with
                    slots := pre ++ some { r with isOpen := false, verdict := some (.aborted .power) } :: post } } })))
    ∧ (∀ s : State, s.crew.stage = .storeScan → (∀ q, some q ∈ s.store.nv.slots → q.isOpen = false) →
        exec .storeScanEnd s = .next (State.finish
          { s with crew := { s.crew with stage := .listen, listen := ⟨true, 0, 3000000⟩ } }))
    ∧ (∀ s : State, s.crew.stage ≠ .storeScan → exec .storeScanEnd s = .next s.finish))

/-- At the end of the start listen the controller is on line, HOLD takes the position of the switch, the
beacon timer starts with the period 2,000 ms + 4 ms x own number (0 under a strap fault), and the beacon
of that moment is placed in the beacon slot, or discarded while listen-only. A beacon carries the phase,
the code of the sub-state (0 in a phase that has none), HELD, the lease state, the class and stamp of
the current ask in ASKING and HOLDING and neither in IDLE, the clock, the present load (jack load in
STRESSING and TOPUP, LC in the rest of LOCKED, 0 below 0 and in every other phase), the wall code (0
before a binding) and the roster numbers in order. A running beacon timer that expires places the beacon
of that moment in the beacon slot, in place of one that waits, or discards it while listen-only, and
starts again. What is left of the listen or of the period passes for every timer (log entry 3), and
START_LISTEN_END in another stage and BEACON_TIMER with the timer stopped change nothing (log entry 5):
both are the choice of the model. -/
def Obligations.BeaconsAreBuiltAndSent : Prop :=
  (∀ s : State, s.crew.stage = .listen → s.crew.listen.on = true →
    exec .startListenEnd s = .next (State.finish
      { s.expire s.crew.listen with
        crew := { (s.expire s.crew.listen).crew with stage := .online, listen := .off, hold := s.crew.holdSwitch }
        roster :=
          { (s.expire s.crew.listen).roster with beaconTimer := ⟨true, 0, 2000000 + 4000 * s.ownNumber⟩ }
        lif :=
          { (s.expire s.crew.listen).lif with
            beacon := if s.listenOnly then s.lif.beacon else some ⟨s.buildBeacon, 0⟩ } }))
  ∧ (∀ s : State, s.crew.stage ≠ .listen → exec .startListenEnd s = .next s.finish)
  ∧ (∀ s : State,
      s.buildBeacon.phase = s.crew.phase ∧ s.buildBeacon.held = !s.trip.latches.isEmpty
      ∧ s.buildBeacon.lease = s.lease.state ∧ s.buildBeacon.clock = s.lease.clock
      ∧ (s.lease.state = .idle → s.buildBeacon.ask = none)
      ∧ (∀ a, s.lease.state ≠ .idle → s.lease.ask = some a → s.buildBeacon.ask = some (a.cls, a.stamp))
      ∧ s.buildBeacon.roster = s.roster.entries.map Entry.number
      ∧ (s.binding = none → s.buildBeacon.wall = 0)
      ∧ (∀ b, s.binding = some b → s.buildBeacon.wall = b.wall)
      ∧ (s.crew.phase = .stressing → s.buildBeacon.load = s.scan.jp.toNat * s.par.ramArea / 10000)
      ∧ (s.crew.phase = .locked → s.aft.sub = some .topUp →
          s.buildBeacon.load = s.scan.jp.toNat * s.par.ramArea / 10000)
      ∧ (s.crew.phase = .locked → s.aft.sub ≠ some .topUp → s.buildBeacon.load = s.scan.lc.toNat)
      ∧ (s.crew.phase ≠ .stressing → s.crew.phase ≠ .locked → s.buildBeacon.load = 0)
      ∧ (∀ x, s.crew.phase = .stressing → s.seq.sub = some x → s.buildBeacon.sub = byteOf (seqSubCode x))
      ∧ (∀ x, s.crew.phase = .locked → s.aft.sub = some x → s.buildBeacon.sub = byteOf (aftSubCode x))
      ∧ (∀ x, s.crew.phase = .placing → s.placement.sub = some x →
          s.buildBeacon.sub = byteOf (placementSubCode x))
      ∧ (∀ x, s.crew.phase = .grouting → s.grout.sub = some x → s.buildBeacon.sub = byteOf (groutSubCode x))
      ∧ (s.crew.phase ≠ .placing → s.crew.phase ≠ .grouting → s.crew.phase ≠ .stressing →
          s.crew.phase ≠ .locked → s.buildBeacon.sub = 0))
  ∧ ((∀ s : State, s.roster.beaconTimer.on = true →
      exec .beaconTimer s = .next (State.finish
        { s.expire s.roster.beaconTimer with
          lif :=
            { (s.expire s.roster.beaconTimer).lif with
              beacon := if s.listenOnly then s.lif.beacon else some ⟨s.buildBeacon, 0⟩ }
          roster :=
            { (s.expire s.roster.beaconTimer).roster with
              beaconTimer := ⟨true, 0, 2000000 + 4000 * s.ownNumber⟩ } }))
    ∧ (∀ s : State, s.roster.beaconTimer.on = false → exec .beaconTimer s = .next s.finish))

/-- State.reset has a sound record store, a deferred list that is answered, a lease that fits the work,
one entry per neighbour in the deferred list and the reply batch, and drives that follow the state and
obey their laws. (The straps and the factory store at reset are the model's choice, log entry 1.)
POWER_ON with straps 1, KEEP low and the HOLD switch off, taken in State.reset, answers State.reset. The
straps, the pin, the switch and the factory store at reset are the model's choice (log entry 1, DESIGN
CHOICE). -/
def Obligations.ResetMeetsTheInvariants : Prop :=
  (State.reset.store.sound ∧ State.reset.listAnswered ∧ State.reset.leaseFits ∧ State.reset.onePerNeighbour
      ∧ State.reset.drivesFollow ∧ State.reset.drivesSafe)
  ∧ (exec (.powerOn 1 false false) State.reset = .next State.reset)

/-- A GO in WAIT_GO or SLACK of PLACING, taken with HOLD off and no latch set, moves placement to PAYOUT
with the slack time at 0 and the winch drive on, and changes nothing else of placement: rope-out, the
consecutive-limit count and the clean distance keep their values. A GO in PAYOUT or LIMIT_OFF, and a GO
while HOLD is on or a latch is set, changes nothing. (Presses are taken once the start listen has
ended.) -/
def Obligations.GoStartsPayOut : Prop :=
  (∀ s : State, s.crew.stage = .online → s.crew.hold = false → s.held = false → s.crew.phase = .placing →
    (s.placement.sub = some .waitGo ∨ s.placement.sub = some .slack) →
    exec .go s = .next (State.finish
      { s with placement := { s.placement with sub := some .payout, slackTime := 0 } })
    ∧ (State.finish { s with placement := { s.placement with sub := some .payout, slackTime := 0 } }).drives.winch
        = true)
  ∧ (∀ s : State, s.crew.phase = .placing →
      (s.placement.sub = some .payout ∨ s.placement.sub = some .limitOff ∨ s.crew.hold = true
        ∨ s.held = true) →
      exec .go s = .next s.finish)

/-- In GROUTING with HOLD off and no latch set: a GO in WAIT_GO enters FILL with the sag time, the clean
time and the consecutive-yield count at 0, and the valve is open. A GO in SUPPLY_WEAK returns to the
left sub-state, which becomes absent, with the same three at 0; the refusal timer keeps its value. GO
changes nothing before the start listen has ended, while HOLD is on, while the controller is HELD, and
in every state other than WAIT_GO, SLACK, SUPPLY_WEAK and CURED. -/
def Obligations.GoInGroutingAndElsewhere : Prop :=
  ((∀ s : State, s.crew.stage = .online → s.crew.hold = false → s.held = false → s.crew.phase = .grouting →
      s.grout.sub = some .waitGo →
      exec .go s = .next (State.finish
        { s with grout := { s.grout with sub := some .fill, sagTime := 0, cleanTime := 0, yieldCount := 0 } })
      ∧ (State.finish
          { s with
            grout := { s.grout with sub := some .fill, sagTime := 0, cleanTime := 0, yieldCount := 0 } }).drives.valve
          = .opened)
    ∧ (∀ (s : State) (x : GroutSub), s.crew.stage = .online → s.crew.hold = false → s.held = false →
        s.crew.phase = .grouting → s.grout.sub = some .supplyWeak → s.grout.left = some x →
        exec .go s = .next (State.finish
          { s with
            grout :=
              { s.grout with
                sub := some x, left := none, sagTime := 0, cleanTime := 0, yieldCount := 0,
                yieldTimer := .off } })))
  ∧ (∀ s : State,
      (s.crew.stage ≠ .online ∨ s.crew.hold = true ∨ s.held = true
        ∨ (s.placeIn .waitGo = false ∧ s.placeIn .slack = false ∧ s.groutIn .waitGo = false
            ∧ s.groutIn .supplyWeak = false ∧ s.crew.phase ≠ .cured)) →
      exec .go s = .next s.finish)

/-- In CURED with HOLD off and no latch set, and a slot n that the store would open: GO moves the phase
to STRESSING, clears the store-full indication, opens slot n for a TEST, and starts the sequencer at
step 0 with the test clock at 0, no datum, readings, verdict or abort reason, the trip mark clear. Its
ADVANCE request is presented at once (RequestsAreCheckedInOrder), whatever the lease then makes of it.
With the lease ready to take a request and some entry PRESENT, the clock rises by 1 and an ASK of class
ADVANCE with that stamp and send count 1 goes out to every PRESENT entry: the lease is ASKING and the
sequencer is in WAIT_LEASE. With no entry PRESENT the lease is HOLDING at once, the hold timer of 90 min
runs, and the sequencer is in RAMP toward the alignment load. With no slot to open, GO sets the
store-full indication, restarts the lamp's cycle and changes nothing else. That the ramp start load, the
ramp reference and the alignment reading start at 0 is the choice of the model (log entry 39). -/
def Obligations.GoInCuredStartsATest : Prop :=
  (∀ (s : State) (n : Nat), s.crew.stage = .online → s.held = false → s.crew.phase = .cured →
    s.chooseSlot = some n → s.wouldTake false →
    ∃ t, exec .go s = .next t
        ∧ t =
            { s with
              lif := t.lif, lease := t.lease, crew := t.crew, seq := t.seq, store := t.store,
              scan := t.scan, trip := t.trip, drives := t.drives }
        ∧ t.lif = { s.lif with ask := t.lif.ask, tx := t.lif.tx }
        ∧ t.lease =
            { s.lease with
              state := t.lease.state, clock := t.lease.clock, ask := t.lease.ask,
              required := t.lease.required, askTimer := t.lease.askTimer, hold := t.lease.hold }
        ∧ s.settles t
        ∧ t.crew = { s.crew with phase := .stressing, storeFull := false }
      ∧ t.store = (s.openSlot .test n).store ∧ t.roster = s.roster ∧ t.binding = s.binding
      ∧ t.seq.step = 0 ∧ t.seq.request = some ⟨.advance, false, .taken⟩ ∧ t.seq.clockOn = true
      ∧ t.seq.clock = 0 ∧ t.seq.datum = none ∧ t.seq.ext5 = none ∧ t.seq.ext15 = none
      ∧ t.seq.verdict = none ∧ t.seq.extended = false ∧ t.seq.lockOffLow = false
      ∧ t.seq.tripMark = false ∧ t.seq.abort = none ∧ t.seq.slot = some n
      ∧ t.lease.clock = s.lease.clock + 1
      ∧ t.lease.ask = some ⟨.advance, false, s.lease.clock + 1, 1⟩
      ∧ t.lease.required = s.presentMembers
      ∧ (s.presentMembers ≠ [] →
          t.seq.sub = some .waitLease ∧ t.lease.state = .asking ∧ t.lease.askTimer = ⟨true, 0, 5000000⟩
          ∧ (s.listenOnly = false → t.lif.ask = some ⟨.ask .advance (s.lease.clock + 1) 1, 0⟩))
      ∧ (s.presentMembers = [] →
          t.seq.sub = some .ramp ∧ t.lease.state = .holding ∧ t.lease.hold = ⟨true, 0, 5400000000⟩
          ∧ t.seq.jack.rampStart = s.jackLoad ∧ t.seq.jack.rampRef = s.jackLoad
          ∧ t.seq.jack.ramp =
              ⟨true, 0,
                (120 * (max s.par.alignLoad s.jackLoad - min s.par.alignLoad s.jackLoad) / s.par.rampRate + 60)
                  * 1000000⟩))
  ∧ (∀ s : State, s.crew.stage = .online → s.crew.hold = false → s.held = false → s.crew.phase = .cured →
      s.chooseSlot = none →
      exec .go s = .next (State.finish
        { s with crew := { s.crew with storeFull := true }, drives := { s.drives with lampUs := 0 } }))
  ∧ (∀ (s : State) (n : Nat), s.crew.stage = .online → s.crew.hold = false → s.held = false →
      s.crew.phase = .cured → s.chooseSlot = some n →
      exec .go s = .next (State.finish (State.present
        { s with
          store := (s.openSlot .test n).store
          crew := { s.crew with phase := .stressing, storeFull := false }
          seq :=
            { sub := some .waitLease, step := 0, request := some ⟨.advance, false, .waiting none⟩
              clockOn := true, clock := 0, jack := .reset, holdTimer := .off, alignRead := 0, checks := 0
              datum := none, readings := 0, ext5 := none, ext15 := none, verdict := none
              extended := false, lockOffLow := false, tripMark := false, abort := none
              slot := some n } })))

/-- The checks of a presented request, in order. A lease that is not IDLE leaves it waiting without a
reason. HOLD makes it wait with PAUSED; a set latch, without the abort flag, with HELD; the clock at
4,294,967,295 makes it wait with HELD and asks for STAMP_END; a roster entry that is neither PRESENT nor
RETIRED, with NEIGHBOUR_NOT_PRESENT; a running re-ask delay, without the abort flag, with ASK_BACKOFF.
One that passes is taken: the clock rises by 1 and is the stamp of the ask, of its class, send count 1;
the PRESENT entries are the required set. With members the lease is ASKING, the ask timer of 5 s runs,
and the ASK takes the ask slot unless listen-only; without one it is HOLDING, with the hold timer of 90
min, and the requester is told: WAIT_LEASE becomes RAMP, ABORT_WAIT ABORT_UNLOAD (the relief valve
called unless JP is low: log entries 13, 46, DEDUCED), PENDING LIFT of TOPUP. The request that counts is
the sequencer's in STRESSING and the aftercare monitor's in LOCKED. Nothing else changes; what STAMP_END
does is ALatchSets. That the recovery time is 0 once TOPUP begins is the choice of the model (log entry
39). -/
def Obligations.RequestsAreCheckedInOrder : Prop :=
  (∀ s : State, s.request = none → s.present = s)
  ∧ (∀ (r : Request) (s : State), s.request = some r →
      (s.lease.state ≠ .idle → s.present = s.setStatus (.waiting none))
      ∧ (s.lease.state = .idle → s.crew.hold = true → s.present = s.setStatus (.waiting (some .paused)))
      ∧ (s.lease.state = .idle → s.crew.hold = false → s.held = true → r.abort = false →
          s.present = s.setStatus (.waiting (some .held)))
      ∧ (s.lease.state = .idle → s.crew.hold = false → (s.held = false ∨ r.abort = true) →
          s.lease.clock = 4294967295#32 →
          s.present = (s.setStatus (.waiting (some .held))).latch .stampEnd 0)
      ∧ (s.lease.state = .idle → s.crew.hold = false → (s.held = false ∨ r.abort = true) →
          s.lease.clock ≠ 4294967295#32 → s.allPresent = false →
          s.present = s.setStatus (.waiting (some .neighbourNotPresent)))
      ∧ (s.lease.state = .idle → s.crew.hold = false → s.held = false →
          s.lease.clock ≠ 4294967295#32 → s.allPresent = true → s.lease.reask.on = true → r.abort = false →
          s.present = s.setStatus (.waiting (some .askBackoff)))
      ∧ (s.wouldTake r.abort → s.presentMembers ≠ [] →
          s.present =
            State.setStatus .taken
              { s with
                lease :=
                  { s.lease with
                    state := .asking, clock := s.lease.clock + 1, required := s.presentMembers
                    ask := some ⟨r.cls, r.abort, s.lease.clock + 1, 1⟩, askTimer := ⟨true, 0, 5000000⟩ }
                lif :=
                  { s.lif with
                    ask :=
                      if s.listenOnly then s.lif.ask else some ⟨.ask r.cls (s.lease.clock + 1) 1, 0⟩ } })
      ∧ (s.wouldTake r.abort → s.presentMembers = [] →
          s.present =
            (State.setStatus .taken
              { s with
                lease :=
                  { s.lease with
                    state := .holding, clock := s.lease.clock + 1, required := []
                    ask := some ⟨r.cls, r.abort, s.lease.clock + 1, 1⟩, askTimer := .off
                    hold := ⟨true, 0, 5400000000⟩ } }).toldHolding))
  ∧ (∀ s : State,
      s.request =
        (if s.crew.phase = .stressing then s.seq.request
          else if s.crew.phase = .locked then s.aft.request else none)
      ∧ (s.allPresent = true ↔
          ∀ e ∈ s.roster.entries, e.presence = .present ∨ e.presence = .retired)
      ∧ s.presentMembers =
          (s.roster.entries.filter fun e => e.presence == .present).map fun e => ⟨e.number, .unanswered⟩)
  ∧ (∀ (x : RequestStatus) (s : State),
      (s.crew.phase = .stressing →
        s.setStatus x =
          { s with
            seq := { s.seq with request := s.seq.request.map fun r => { r with status := x } } })
      ∧ (s.crew.phase = .locked →
        s.setStatus x =
          { s with
            aft := { s.aft with request := s.aft.request.map fun r => { r with status := x } } }))
  ∧ (∀ s : State,
      (s.crew.phase = .stressing → s.seq.sub = some .waitLease →
        s.toldHolding =
          { s with
            seq :=
              { s.seq with
                sub := some .ramp
                jack :=
                { s.seq.jack with
                  rampStart := s.jackLoad, rampRef := s.jackLoad, raise := false, lower := false
                  ramp := ⟨true, 0, (120 * (max s.stepTarget s.jackLoad - min s.stepTarget s.jackLoad)
                    / s.par.rampRate + 60) * 1000000⟩ } } })
      ∧ (s.crew.phase = .stressing → s.seq.sub = some .abortWait →
        s.toldHolding =
          { s with
            seq :=
              { s.seq with
                sub := some .abortUnload, holdTimer := .off
                jack :=
                  { s.seq.jack with
                    ramp := .off, seating := .off, raise := false
                    unload := ⟨true, 0, (120 * s.jackLoad / s.par.rampRate + 60) * 1000000⟩
                    lower := !(decide (s.scan.jp < 500) && !s.named .jp) } } })
      ∧ (s.crew.phase = .locked → s.aft.sub = some .pending →
        s.toldHolding =
          { s with
            aft :=
              { s.aft with
                sub := some .topUp, stage := some .lift, before := s.scan.lcTrusted.toNat, recovery := 0
                jack :=
                  { s.aft.jack with
                    rampStart := s.jackLoad, rampRef := s.jackLoad, raise := false, lower := false
                    ramp := ⟨true, 0, (120 * (max s.scan.lcTrusted.toNat s.jackLoad
                      - min s.scan.lcTrusted.toNat s.jackLoad)
                      / s.par.rampRate + 60) * 1000000⟩ } } }))

/-- A STOP press in PLACING moves placement to WAIT_GO from PAYOUT, LIMIT_OFF or SLACK with the winch
drive off, the off-time timer stopped and the slack time at 0; rope-out, the consecutive-limit count,
the clean distance and the totals are kept, and so is the phase. In WAIT_GO placement stays as it is. A
long STOP in PLACING only ends its measure. A STOP in FILL, PRESS, YIELD or SUPPLY_WEAK ends grouting
with result STOPPED: the sub-state is dropped, the refusal and yield timers stop, the grout append with
volume and yield events is handed over, the phase is SETTING with the set timer started at the bound set
time, and the setting watch is unarmed. In WAIT_GO of GROUTING it does not. Every press clears the
latches whose release condition holds as the state stands before the press (log entry 18, DEDUCED),
clears the store-full indication and starts the measure of a long STOP. What is left of a long STOP
passes for every timer (log entry 3, the choice of the model). In both phases the lease is IDLE (the
invariant leaseFits). That the sag time is 0 and no sub-state is kept as the one left after grouting is
the choice of the model (log entry 37), and so is that a clean time of 60 s not yet taken leaves the
consecutive-yield count as it stands (log entry 47). -/
def Obligations.StopInPlacingAndGrouting : Prop :=
  (∀ s : State, s.crew.stage = .online → s.crew.phase = .placing → s.lease.state = .idle →
    (s.placement.sub = some .payout ∨ s.placement.sub = some .limitOff ∨ s.placement.sub = some .slack) →
    exec .stop s = .next (State.finish
      { s with
        placement := { s.placement with sub := some .waitGo, offTime := .off, slackTime := 0 }
        trip := s.tripAfterPress, crew := s.crew.afterPress })
    ∧ (State.finish
        { s with
          placement := { s.placement with sub := some .waitGo, offTime := .off, slackTime := 0 }
          trip := s.tripAfterPress, crew := s.crew.afterPress }).drives.winch = false)
  ∧ (∀ s : State, s.crew.stage = .online → s.crew.phase = .placing → s.lease.state = .idle →
      s.placement.sub = some .waitGo →
      exec .stop s = .next (State.finish { s with trip := s.tripAfterPress, crew := s.crew.afterPress }))
  ∧ (∀ s : State, s.crew.phase = .placing → s.crew.stopHold.on = true →
      exec .longStop s = .next (State.finish
        { s.expire s.crew.stopHold with
          crew := { (s.expire s.crew.stopHold).crew with stopHold := .off } }))
  ∧ (∀ s : State, s.crew.stage = .online → s.crew.phase = .grouting → s.lease.state = .idle →
    s.groutBegun = true →
    exec .stop s = .next (State.finish
      { s with
        grout :=
          { s.grout with
            sub := none, result := some .stopped, refusalTime := 0, sagTime := 0, yieldTimer := .off,
            left := none, testsOpen := false, watch := .unarmed, breakTime := 0
            setTimer := ⟨true, 0, s.par.setTime * 3600000000⟩ }
        store := (s.handOver (.grout ⟨.stopped, s.grout.volume, s.grout.yieldEvents⟩)).store
        trip := s.tripAfterPress
        crew := { s.crew.afterPress with phase := .setting } }))
  ∧ (∀ s : State, s.crew.stage = .online → s.crew.phase = .grouting → s.lease.state = .idle →
      s.grout.sub = some .waitGo →
      exec .stop s = .next (State.finish { s with trip := s.tripAfterPress, crew := s.crew.afterPress }))

/-- In RAMP, HOLD_LOAD or HALTED with the lease HOLDING, STOP fixes the abort reason (TRIP with the trip
mark set, STOP otherwise) and enters ABORT_UNLOAD with the unload timer of 120 x load / rate + 60 s, the
lease kept; the relief valve is called unless JP, on a trusted channel, is below 500 kPa (log entries
13, 46, DEDUCED). In SEATING, RELEASE, SETTLE, FAIL_UNLOAD and ABORT_UNLOAD, and in ABORT_WAIT with the
lease IDLE, it only releases latches. In WAIT_LEASE with the lease IDLE it ends the test at once when JP
is trusted and below 500 kPa: closing ABORTED, phase CURED; else it goes to ABORT_WAIT and presents
RESTORE with the abort flag. In WAIT_LEASE or ABORT_WAIT with the lease ASKING it withdraws the ask,
with what R44 grants, and presents RESTORE with the abort flag anew. Latches release as the state stands
before the work is stopped (log entry 18, DEDUCED); but where the press ends HELD while the request of
WAIT_LEASE waits with HELD, the order is a free value: either the request is presented first and the
STOP meets what that leaves, or the STOP acts first and the latches go then (log entry 7). (A request of
ABORT_WAIT waits with HELD only under STAMP_END, which no press clears.) What the lease makes of a
presented request is RequestsAreCheckedInOrder. That the ramp values are 0 after a test that ends so is
the choice of the model (log entry 39). -/
def Obligations.StopInStressing : Prop :=
  (∀ s : State, s.crew.stage = .online → s.crew.phase = .stressing → s.lease.state = .holding →
    s.waitsWith (some .held) = false →
    (s.seq.sub = some .ramp ∨ s.seq.sub = some .holdLoad ∨ s.seq.sub = some .halted) →
    exec .stop s = .next (State.finish
      { s with
        seq :=
          { s.seq with
            sub := some .abortUnload, abort := some (if s.seq.tripMark then .trip else .stop)
            holdTimer := .off
            jack :=
              { s.seq.jack with
                ramp := .off, seating := .off, raise := false
                unload := ⟨true, 0, (120 * s.jackLoad / s.par.rampRate + 60) * 1000000⟩
                lower := !(decide (s.scan.jp < 500) && !s.tripAfterPress.named.contains .jp) } }
        trip := s.tripAfterPress, crew := s.crew.afterPress }))
  ∧ (∀ s : State, s.crew.stage = .online → s.crew.phase = .stressing → s.lease.state = .holding →
      s.waitsWith (some .held) = false →
      (s.seq.sub = some .seating ∨ s.seq.sub = some .release ∨ s.seq.sub = some .settle
        ∨ s.seq.sub = some .failUnload ∨ s.seq.sub = some .abortUnload) →
      exec .stop s = .next (State.finish { s with trip := s.tripAfterPress, crew := s.crew.afterPress }))
  ∧ (∀ (s : State) (n : Nat), s.crew.stage = .online → s.crew.phase = .stressing → s.lease.state = .idle →
      ¬s.freesHeld → s.seq.sub = some .waitLease → s.scan.jp < 500 →
      s.tripAfterPress.named.contains .jp = false → s.seq.slot = some n →
      exec .stop s = .next (State.finish
        { s with
          seq :=
            { s.seq with
              sub := none, request := none, clockOn := false, jack := .reset, holdTimer := .off
              tripMark := false, slot := none, abort := some (if s.seq.tripMark then .trip else .stop) }
          store := (s.handOver (.closing n (.aborted (if s.seq.tripMark then .trip else .stop)) none)).store
          trip := s.tripAfterPress, crew := { s.crew.afterPress with phase := .cured } }))
  ∧ (∀ s : State, s.crew.stage = .online → s.crew.phase = .stressing → s.lease.state = .idle →
      ¬s.freesHeld → s.seq.sub = some .waitLease →
      (500 ≤ s.scan.jp ∨ s.tripAfterPress.named.contains .jp = true) →
      exec .stop s = .next (State.finish (State.pressNoted (State.present
        { s with
          trip := s.tripAfterPress
          seq :=
            { s.seq with
              sub := some .abortWait, request := some ⟨.restore, true, .waiting none⟩
              abort := some (if s.seq.tripMark then .trip else .stop) } }))))
  ∧ (∀ s : State, s.crew.stage = .online → s.crew.phase = .stressing → s.lease.state = .idle →
      ¬s.freesHeld → s.seq.sub = some .abortWait →
      exec .stop s = .next (State.finish { s with trip := s.tripAfterPress, crew := s.crew.afterPress }))
  ∧ (∀ s : State, s.crew.stage = .online → s.crew.phase = .stressing → s.lease.state = .asking →
      s.waitsWith (some .held) = false → (s.seq.sub = some .waitLease ∨ s.seq.sub = some .abortWait) →
      let w := State.withdrawn { s with trip := s.tripAfterPress }
      exec .stop s = .next (State.finish (State.pressNoted (State.present
        { w with
          seq :=
            { s.seq with
              sub := some .abortWait, request := some ⟨.restore, true, .waiting none⟩
              abort := if s.seq.sub = some .waitLease then some (if s.seq.tripMark then .trip else .stop) else s.seq.abort } }))))
  ∧ (∀ (s : State) (n : Nat), s.crew.stage = .online → s.crew.phase = .stressing → s.lease.state = .idle →
      s.freesHeld → s.seq.sub = some .waitLease → s.seq.slot = some n →
      exec .stop s =
          exec .stop (State.present { s with free := s.free + 1, trip := s.tripAfterPress })
      ∨ (s.scan.jp < 500 ∧ s.named .jp = false
          ∧ exec .stop s = .next (State.finish
              { s with
                free := s.free + 1
                seq :=
                  { s.seq with
                    sub := none, request := none, clockOn := false, jack := .reset, holdTimer := .off
                    tripMark := false, slot := none, abort := some (if s.seq.tripMark then .trip else .stop) }
                store := (s.handOver (.closing n (.aborted (if s.seq.tripMark then .trip else .stop)) none)).store
                trip := { s.trip with latches := [], named := [], firstCause := none }
                crew := { s.crew.afterPress with phase := .cured } }))
      ∨ ((500 ≤ s.scan.jp ∨ s.named .jp = true)
          ∧ let w := State.present
                { s with
                  free := s.free + 1
                  seq :=
                    { s.seq with
                      sub := some .abortWait, request := some ⟨.restore, true, .waiting none⟩
                      abort := some (if s.seq.tripMark then .trip else .stop) } }
            exec .stop s = .next (State.finish (State.pressNoted { w with trip := w.tripAfterPress }))))
  ∧ (∀ s : State, s.crew.stage = .online → s.crew.phase = .stressing → s.lease.state = .asking →
      s.waitsWith (some .held) = false → (s.seq.sub = some .waitLease ∨ s.seq.sub = some .abortWait) →
      s.crew.hold = false → s.lease.clock ≠ 4294967295#32 → s.allPresent = true → s.presentMembers ≠ [] →
      ∃ t, exec .stop s = .next t
        ∧ t =
            { s with
              lif := t.lif, lease := t.lease, crew := t.crew, seq := t.seq, scan := t.scan,
              trip := t.trip, drives := t.drives }
        ∧ t.lif = { s.lif with ask := t.lif.ask, batch := t.lif.batch, tx := t.lif.tx }
        ∧ t.lease =
            { s.lease with
              state := t.lease.state, clock := t.lease.clock, ask := t.lease.ask,
              required := t.lease.required, askTimer := t.lease.askTimer, hold := t.lease.hold,
              deferred := t.lease.deferred }
        ∧ t.seq = { s.seq with sub := t.seq.sub, request := t.seq.request, abort := t.seq.abort }
        ∧ { s with trip := s.tripAfterPress }.settles t
        ∧ t.crew = s.crew.afterPress ∧ t.seq.sub = some .abortWait
        ∧ t.lease.state = .asking ∧ t.lease.clock = s.lease.clock + 1
        ∧ t.lease.ask = some ⟨.restore, true, s.lease.clock + 1, 1⟩
        ∧ t.lease.deferred = [] ∧ t.seq.request = some ⟨.restore, true, .taken⟩
        ∧ t.trip.latches = s.tripAfterPress.latches
        ∧ (s.seq.sub = some .waitLease →
            t.seq.abort = some (if s.seq.tripMark then .trip else .stop)))

/-- In LIFT, RAMP or HALTED of a top-up with the lease HOLDING, STOP enters ABORT_UNLOAD within the held
lease, with the relief valve called; its end is tested from the next scan on (log entry 46, DEDUCED). In
SEATING, RELEASE, SETTLE and ABORT_UNLOAD, and in WATCH with the lease IDLE, it only releases latches.
In PENDING with the lease ASKING it withdraws the ask, with what R44 grants, and presents a new RESTORE
request, which is taken with a new stamp where the lease would take it. In PENDING with the lease IDLE a
request that waits with HELD stays waiting at the press and is presented once, when the press clears the
last latch; one that waits with STORE_FULL asks afresh for a slot (StorePinQueueAndRetries); in every
other case only latches are released. Latches release as the state stands before the work is stopped
(log entry 18, DEDUCED). What the lease makes of a presented request is RequestsAreCheckedInOrder. -/
def Obligations.StopInLocked : Prop :=
  (∀ s : State, s.crew.stage = .online → s.crew.phase = .locked → s.lease.state = .holding →
    s.waitsWith (some .held) = false → s.aft.sub = some .topUp →
    (s.aft.stage = some .lift ∨ s.aft.stage = some .ramp ∨ s.aft.stage = some .halted) →
    exec .stop s = .next (State.finish
      { s with
        aft :=
          { s.aft with
            stage := some .abortUnload
            jack :=
              { s.aft.jack with
                ramp := .off, seating := .off, raise := false
                unload := ⟨true, 0, (120 * s.jackLoad / s.par.rampRate + 60) * 1000000⟩
                lower := true } }
        trip := s.tripAfterPress, crew := s.crew.afterPress }))
  ∧ (∀ s : State, s.crew.stage = .online → s.crew.phase = .locked → s.waitsWith (some .held) = false →
      ((s.lease.state = .holding ∧ s.aft.sub = some .topUp
          ∧ (s.aft.stage = some .seating ∨ s.aft.stage = some .release ∨ s.aft.stage = some .settle
            ∨ s.aft.stage = some .abortUnload))
        ∨ (s.lease.state = .idle ∧ s.aft.sub = some .watch)) →
      exec .stop s = .next (State.finish { s with trip := s.tripAfterPress, crew := s.crew.afterPress }))
  ∧ (∀ s : State, s.crew.stage = .online → s.crew.phase = .locked → s.lease.state = .asking →
      s.waitsWith (some .held) = false → s.aft.sub = some .pending → s.crew.hold = false →
      s.tripAfterPress.latches = [] → s.lease.clock ≠ 4294967295#32 → s.allPresent = true →
      s.lease.reask.on = false → s.presentMembers ≠ [] →
      ∃ t, exec .stop s = .next t
        ∧ t =
            { s with
              lif := t.lif, lease := t.lease, crew := t.crew, aft := t.aft, scan := t.scan,
              trip := t.trip, drives := t.drives }
        ∧ t.lif = { s.lif with ask := t.lif.ask, batch := t.lif.batch, tx := t.lif.tx }
        ∧ t.lease =
            { s.lease with
              state := t.lease.state, clock := t.lease.clock, ask := t.lease.ask,
              required := t.lease.required, askTimer := t.lease.askTimer, hold := t.lease.hold,
              deferred := t.lease.deferred }
        ∧ t.aft = { s.aft with request := t.aft.request }
        ∧ { s with trip := s.tripAfterPress }.settles t
        ∧ t.crew = s.crew.afterPress ∧ t.aft.sub = some .pending
        ∧ t.lease.state = .asking ∧ t.lease.clock = s.lease.clock + 1
        ∧ t.lease.ask = some ⟨.restore, false, s.lease.clock + 1, 1⟩
        ∧ t.aft.request = some ⟨.restore, false, .taken⟩ ∧ t.aft.count = s.aft.count)
  ∧ (∀ s : State, s.crew.stage = .online → s.crew.phase = .locked → s.lease.state = .asking →
      s.waitsWith (some .held) = false → s.aft.sub = some .pending →
      let w := State.withdrawn { s with trip := s.tripAfterPress }
      exec .stop s = .next (State.finish (State.pressNoted (State.present
        { w with aft := { s.aft with request := some ⟨.restore, false, .waiting none⟩ } }))))
  ∧ (∀ s : State, s.crew.stage = .online → s.crew.phase = .locked → s.lease.state = .idle →
      s.aft.sub = some .pending → s.freesHeld →
      exec .stop s = .next (State.finish (State.pressNoted (State.present
        { s with trip := s.tripAfterPress }))))
  ∧ (∀ s : State, s.crew.stage = .online → s.crew.phase = .locked → s.lease.state = .idle →
      s.aft.sub = some .pending → ¬s.freesHeld → s.waitsWith (some .storeFull) = false →
      exec .stop s = .next (State.finish { s with trip := s.tripAfterPress, crew := s.crew.afterPress }))
  ∧ (∀ s : State, s.crew.stage = .online → s.crew.phase = .locked → s.lease.state = .idle →
      s.aft.sub = some .pending → s.waitsWith (some .storeFull) = true →
      exec .stop s = .next (State.finish (State.pressNoted (State.retryStoreFull
        { s with trip := s.tripAfterPress }))))

/-- In SETUP, SETTING, CURING, CURED, REJECTED and DETACHED with the lease IDLE, STOP clears the latches
whose release condition holds and the channels that may be dropped, makes the first cause absent when
none is left, clears the store-full indication and starts the measure of a long STOP; nothing else
changes. Before the start listen has ended it changes nothing. JACK_OVER releases with JP x 10 below the
max jack pressure x 9, GROUT_OVER with GP below the stage pressure, BREAK_IN with GP below the
breakthrough threshold; WINCH_JAM, RAMP_STALL, LEASE_OVERRUN, EXT_RUNAWAY and LINE_JABBER always;
DUPLICATE_ID and STAMP_END never; SENSOR_FAULT when no named channel is both at its rail and in use. -/
def Obligations.StopElsewhereOnlyReleases : Prop :=
  ((∀ s : State, s.crew.stage = .online → s.lease.state = .idle →
      (s.crew.phase = .setup ∨ s.crew.phase = .setting ∨ s.crew.phase = .curing ∨ s.crew.phase = .cured
        ∨ s.crew.phase = .rejected ∨ s.crew.phase = .detached) →
      exec .stop s = .next (State.finish { s with trip := s.tripAfterPress, crew := s.crew.afterPress }))
    ∧ (∀ s : State, s.crew.stage ≠ .online → exec .stop s = .next s.finish))
  ∧ (∀ s : State,
      (s.releases .jackOver = true ↔ s.scan.jp * 10 < (s.par.maxJack : Int) * 9)
      ∧ (s.releases .groutOver = true ↔ s.scan.gp < (s.par.stagePressure : Int))
      ∧ (s.releases .breakIn = true ↔ s.scan.gp < (s.par.breakthrough : Int))
      ∧ s.releases .winchJam = true ∧ s.releases .rampStall = true ∧ s.releases .leaseOverrun = true
      ∧ s.releases .extRunaway = true ∧ s.releases .lineJabber = true
      ∧ s.releases .duplicateId = false ∧ s.releases .stampEnd = false
      ∧ (s.releases .sensorFault = true ↔
          ∀ c, c ∈ s.trip.named → ¬(s.atRail c = true ∧ s.inUse c = true)))

/-- When the hold of STOP reaches 5 s in SETUP, CURING, CURED, LOCKED or REJECTED with the lease IDLE
and good straps, the deferred list is granted whole in list order and emptied, LEAVE takes the ask slot
(neither goes out while listen-only), the phase is DETACHED, the beacon timer stops and the waiting
beacon is discarded, the cure timer stops, aftercare stops with its request dropped, and the store-full
indication clears. In any other phase, or with the lease not IDLE, or under a strap fault, only the
measure ends. With no press being measured nothing changes. Everything else is as passing time leaves
it, and values of the blocks that no rule clears are kept (log entry 23, DEDUCED). That what is left of
the 5 s passes for every timer is log entry 3, and that nothing happens with no press being measured log
entry 5, both the choice of the model. In every state STOP_RELEASE stops the measure of the hold and
changes nothing else. That aftercare is left with no sub-state, no stage and its times and ramp values
at 0 is the choice of the model (log entry 39). -/
def Obligations.LongStopDetaches : Prop :=
  ((∀ s : State, s.crew.stopHold.on = true → s.lease.state = .idle → s.strapFault = false →
      (s.crew.phase = .setup ∨ s.crew.phase = .curing ∨ s.crew.phase = .cured ∨ s.crew.phase = .locked
        ∨ s.crew.phase = .rejected) →
      ∃ t, exec .longStop s = .next t
          ∧ t =
              { s.expire s.crew.stopHold with
                lif := t.lif, roster := t.roster, lease := t.lease, crew := t.crew, grout := t.grout,
                aft := t.aft, scan := t.scan, trip := t.trip, drives := t.drives }
          ∧ t.lif =
              { (s.expire s.crew.stopHold).lif with
                ask := t.lif.ask, batch := t.lif.batch, beacon := t.lif.beacon, tx := t.lif.tx }
          ∧ t.lease = { (s.expire s.crew.stopHold).lease with deferred := [] }
          ∧ t.roster = { (s.expire s.crew.stopHold).roster with beaconTimer := .off }
          ∧ t.grout = { (s.expire s.crew.stopHold).grout with cureTimer := .off }
          ∧ t.crew =
              { (s.expire s.crew.stopHold).crew with
                phase := t.crew.phase, storeFull := t.crew.storeFull, stopHold := t.crew.stopHold }
          ∧ t.aft =
              { (s.expire s.crew.stopHold).aft with
                sub := t.aft.sub, stage := t.aft.stage, request := t.aft.request,
                lowTime := t.aft.lowTime, recovery := t.aft.recovery, jack := t.aft.jack }
          ∧ (s.expire s.crew.stopHold).settles t
          ∧ t.crew.phase = .detached ∧ t.crew.storeFull = false
        ∧ t.crew.stopHold = .off ∧ t.lease.deferred = [] ∧ t.lease.state = .idle
        ∧ t.roster.beaconTimer = .off ∧ t.lif.beacon = none
        ∧ t.lif.ask = (if s.listenOnly then s.lif.ask else some ⟨.leave, 0⟩)
        ∧ t.lif.batch = s.batchGranting s.lease.deferred
        ∧ t.grout.cureTimer = .off ∧ t.aft.sub = none ∧ t.aft.stage = none ∧ t.aft.request = none
        ∧ t.aft.lowTime = 0 ∧ t.aft.recovery = 0 ∧ t.aft.jack = .reset
        ∧ t.binding = s.binding ∧ t.store = s.store ∧ t.trip.latches = s.trip.latches)
    ∧ (∀ s : State, s.crew.stopHold.on = true →
        (s.lease.state ≠ .idle ∨ s.strapFault = true ∨ s.crew.phase = .placing ∨ s.crew.phase = .grouting
          ∨ s.crew.phase = .setting ∨ s.crew.phase = .stressing ∨ s.crew.phase = .detached) →
        exec .longStop s = .next (State.finish
          { s.expire s.crew.stopHold with
            crew := { (s.expire s.crew.stopHold).crew with stopHold := .off } }))
    ∧ (∀ s : State, s.crew.stopHold.on = false → exec .longStop s = .next s.finish))
  ∧ (∀ s : State,
      exec .stopRelease s = .next (State.finish { s with crew := { s.crew with stopHold := .off } }))

/-- On line, HOLD on sets the HOLD state, returns the slack time in PLACING and the sag time in GROUTING
to 0, and with the lease not ASKING changes nothing else. With the lease ASKING the ask is withdrawn:
WITHDRAW in the ask slot unless listen-only, the lease IDLE with its timers stopped, what R44 then
grants (the whole deferred list; while a top-up is PENDING its RESTORE entries) in the reply batch and
out of the list, the request waiting with PAUSED. HOLD off clears the HOLD state with the same two times
at 0; a request that waits with PAUSED is presented again (RequestsAreCheckedInOrder), and taken with a
new stamp when the lease would take it. Before the start listen has ended only the position of the
switch changes. -/
def Obligations.HoldPausesAndResumes : Prop :=
  (∀ s : State, s.crew.stage = .online → s.crew.hold = false → s.lease.state ≠ .asking →
    exec .holdOn s = .next (State.finish
      { s with
        crew := { s.crew with hold := true, holdSwitch := true }
        placement :=
          { s.placement with
            slackTime := if s.crew.phase = .placing then 0 else s.placement.slackTime }
        grout := { s.grout with sagTime := if s.crew.phase = .grouting then 0 else s.grout.sagTime } }))
  ∧ (∀ (s : State) (r : Request), s.crew.stage = .online → s.crew.hold = false → s.lease.state = .asking →
      s.request = some r →
      ∃ t, exec .holdOn s = .next t
        ∧ t =
            { s with
              lif := t.lif, lease := t.lease, crew := t.crew, seq := t.seq, aft := t.aft,
              scan := t.scan, trip := t.trip, drives := t.drives }
        ∧ t.lif = { s.lif with ask := t.lif.ask, batch := t.lif.batch, tx := t.lif.tx }
        ∧ t.lease =
            { s.lease with
              state := t.lease.state, ask := t.lease.ask, required := t.lease.required,
              askTimer := t.lease.askTimer, hold := t.lease.hold, deferred := t.lease.deferred }
        ∧ t.seq = { s.seq with request := t.seq.request }
        ∧ t.aft = { s.aft with request := t.aft.request }
        ∧ s.settles t
        ∧ t.crew = { s.crew with hold := true, holdSwitch := true }
        ∧ t.lease.state = .idle ∧ t.lease.ask = none ∧ t.lease.required = []
        ∧ t.lease.askTimer = .off ∧ t.lease.askLapses = s.lease.askLapses ∧ t.lease.reask = s.lease.reask
        ∧ t.request = some { r with status := .waiting (some .paused) }
        ∧ (s.listenOnly = false → t.lif.ask = some ⟨.withdraw s.askStamp, 0⟩)
        ∧ (s.listenOnly = true → t.lif.ask = s.lif.ask) ∧ t.lease.hold = .off
        ∧ t.lease.deferred = s.keptInIdle ∧ t.lif.batch = s.batchGranting s.grantedInIdle)
  ∧ (∀ s : State, s.crew.stage = .online → s.crew.hold = true → s.waitsWith (some .paused) = false →
      exec .holdOff s = .next (State.finish
        { s with
          crew := { s.crew with hold := false, holdSwitch := false }
          placement :=
            { s.placement with
              slackTime := if s.crew.phase = .placing then 0 else s.placement.slackTime }
          grout := { s.grout with sagTime := if s.crew.phase = .grouting then 0 else s.grout.sagTime } }))
  ∧ (∀ (s : State) (r : Request), s.crew.stage = .online → s.crew.hold = true → s.request = some r →
      r.status = .waiting (some .paused) → { s with crew := { s.crew with hold := false } }.wouldTake r.abort →
      s.presentMembers ≠ [] →
      ∃ t, exec .holdOff s = .next t
        ∧ t =
            { s with
              lif := t.lif, lease := t.lease, crew := t.crew, seq := t.seq, aft := t.aft,
              scan := t.scan, trip := t.trip, drives := t.drives }
        ∧ t.lif = { s.lif with ask := t.lif.ask, tx := t.lif.tx }
        ∧ t.lease =
            { s.lease with
              state := t.lease.state, clock := t.lease.clock, ask := t.lease.ask,
              required := t.lease.required, askTimer := t.lease.askTimer }
        ∧ t.seq = { s.seq with request := t.seq.request }
        ∧ t.aft = { s.aft with request := t.aft.request }
        ∧ s.settles t
        ∧ t.crew = { s.crew with hold := false, holdSwitch := false }
        ∧ t.lease.state = .asking ∧ t.lease.clock = s.lease.clock + 1
        ∧ t.lease.ask = some ⟨r.cls, r.abort, s.lease.clock + 1, 1⟩
        ∧ t.request = some { r with status := .taken })
  ∧ (∀ s : State, s.crew.stage ≠ .online →
      exec .holdOn s = .next (State.finish { s with crew := { s.crew with holdSwitch := true } })
      ∧ exec .holdOff s = .next (State.finish { s with crew := { s.crew with holdSwitch := false } }))
  ∧ (∀ (s : State) (r : Request), s.crew.stage = .online → s.crew.hold = true → s.request = some r →
      r.status = .waiting (some .paused) →
      exec .holdOff s = .next (State.finish (State.present
        { s with crew := { s.crew with hold := false, holdSwitch := false } })))

/-- While not sending, a burst that fails a receive check restarts the quiet measure and adds 1 to
RX_ERRORS, which stays at 65,535. A valid frame of a kind or size that is not allowed is counted in the
same way when the filter accepts it from another station. A valid frame of another station that is not
addressed to the own number, to 63 or to a group in the mask only restarts the quiet measure, and so
does every REPORT and every frame that no block is handed. A valid frame of any kind whose source is the
own number is not handed on; with DUPLICATE_ID clear it latches (value: the own number), the line
interface is listen-only with every slot and the report FIFO empty; with DUPLICATE_ID set only the quiet
measure restarts. What the latch does at the blocks is ALatchSets; everything else stays. While sending,
nothing of another burst or frame is received and nothing changes, the quiet measure included: this is
DEDUCED (log entry 10). -/
def Obligations.FramesThatReachNoBlock : Prop :=
  ((∀ (burst : List Byte) (s : State), s.sending = false → rxFault burst ≠ none →
      exec (.badReception burst) s = .next (State.finish
        { s with
          lif :=
            { s.lif with
              quiet := ⟨true, 0, 384⟩
              rxErrors := if s.lif.rxErrors = 65535#16 then s.lif.rxErrors else s.lif.rxErrors + 1 } }))
    ∧ (∀ (burst : List Byte) (s : State), rxFault burst = none →
        sizeAllowed (burstKind burst) (burstPayload burst) = false → s.hears (burstDst burst) (burstSrc burst) →
        exec (.badReception burst) s = .next (State.finish
          { s with
            lif :=
              { s.lif with
                quiet := ⟨true, 0, 384⟩
                rxErrors := if s.lif.rxErrors = 65535#16 then s.lif.rxErrors else s.lif.rxErrors + 1 } }))
    ∧ (∀ (burst : List Byte) (s : State), s.sending = true → exec (.badReception burst) s = .next s.finish))
  ∧ ((∀ (c : Instr) (dst src : Byte) (s : State), c.header = some (dst, src) → s.sending = false →
      s.own ≠ some src.toNat → s.own ≠ some dst.toNat → dst.toNat ≠ 63 →
      (∀ g, dst.toNat = 64 + g → g < 16 → s.lif.groupMask.getLsbD g = false) →
      exec c s = .next (State.finish { s with lif := { s.lif with quiet := ⟨true, 0, 384⟩ } }))
    ∧ (∀ (dst src : Byte) (s : State), s.sending = false → s.own ≠ some src.toNat →
        exec (.reportDiscard dst src) s = .next (State.finish { s with lif := { s.lif with quiet := ⟨true, 0, 384⟩ } })
        ∧ exec (.frameNotAccepted dst src) s = .next (State.finish { s with lif := { s.lif with quiet := ⟨true, 0, 384⟩ } })))
  ∧ (∀ (c : Instr) (dst src : Byte) (s : State), c.header = some (dst, src) → s.sending = false →
    s.own = some src.toNat → s.latched .duplicateId = false →
    ∃ t, exec c s = .next t
        ∧ t =
            { s with
              lif := t.lif, lease := t.lease, placement := t.placement, grout := t.grout,
              seq := t.seq, aft := t.aft, scan := t.scan, trip := t.trip, drives := t.drives }
        ∧ t = (State.latch .duplicateId (src.zeroExtend 16) { s with lif := { s.lif with quiet := ⟨true, 0, 384⟩ } }).finish
        ∧ t.trip.latches = s.trip.latches ++ [.duplicateId]
      ∧ (s.trip.latches = [] →
          t.trip.firstCause = some ⟨.duplicateId, s.crew.phase, src.zeroExtend 16, none⟩)
      ∧ t.listenOnly = true ∧ t.anySlot = false ∧ t.lif.tx = .free
      ∧ t.roster = s.roster ∧ t.store = s.store ∧ t.crew = s.crew ∧ t.binding = s.binding)
  ∧ (∀ (c : Instr) (dst src : Byte) (s : State), c.header = some (dst, src) → s.sending = false →
      s.own = some src.toNat → s.latched .duplicateId = true →
      exec c s = .next (State.finish { s with lif := { s.lif with quiet := ⟨true, 0, 384⟩ } }))
  ∧ (∀ (c : Instr) (dst src : Byte) (s : State), c.header = some (dst, src) → s.sending = true →
      exec c s = .next s.finish)

/-- A BEACON with valid codes from a roster member, with the own wall code and the own number in its
list: the entry takes the beacon's phase, sub-state, HELD, lease state and load with its age at 0; the
clock is at least the beacon's clock; LISTENING counts up and becomes PRESENT at 3; PRESENT stays with
count 3; MISMATCH, LOST and RETIRED become LISTENING with count 1 and no mismatch reason; the lost latch
stays. Every other entry is unchanged. (No ask is out and no request waits for a neighbour here; those
cases are PresenceChangesReachTheLease.) -/
def Obligations.GoodBeaconFromAMember : Prop :=
  ∀ (dst src : Byte) (b : BeaconIn) (p : Phase) (l : LeaseState) (s : State),
    s.hears dst src → s.bound = true → s.member src.toNat = true → s.lease.state ≠ .asking →
    s.waitsWith (some .neighbourNotPresent) = false →
    phaseOfCode b.phase.toNat = some p → leaseOfCode b.lease.toNat = some l →
    b.sub.toNat ≤ lastSubCode p → b.cls.toNat ≤ 2 →
    b.wall = s.par.wall → (∃ x ∈ b.roster, s.own = some x.toNat) →
    exec (.beacon dst src b) s = .next (State.finish
      { s with
        lif := { s.lif with quiet := ⟨true, 0, 384⟩ }
        lease := { s.lease with clock := if s.lease.clock < b.clock then b.clock else s.lease.clock }
        roster :=
          { s.roster with
            entries := s.roster.entries.map fun e =>
              if e.number = src.toNat then
                { e with
                  age := 0, heardPhase := some p, heardHeld := b.flags.getLsbD 0, heard := some ⟨b.sub, l, b.load⟩
                  presence :=
                    match e.presence with
                    | .listening => if 2 ≤ e.count then .present else .listening
                    | .present => .present
                    | .mismatch => .listening
                    | .lost => .listening
                    | .retired => .listening
                  count :=
                    match e.presence with
                    | .listening => if 2 ≤ e.count then 3 else e.count + 1
                    | .present => 3
                    | .mismatch => 1
                    | .lost => 1
                    | .retired => 1
                  mismatch :=
                    match e.presence with
                    | .listening => e.mismatch
                    | .present => e.mismatch
                    | .mismatch => none
                    | .lost => none
                    | .retired => none }
              else e } })

/-- A BEACON with valid codes from a roster member that names another wall (WALL_DIFFERS), or the own
wall without the own number (NOT_LISTED), is recorded with its clock handed over, and the entry becomes
MISMATCH with count 0 and that reason, but a RETIRED entry stays RETIRED. A BEACON with a code outside
its table, from a station outside the roster, or before a binding changes nothing but the quiet measure.
(In the first clause no ask is out and no request waits for a neighbour; those cases are
PresenceChangesReachTheLease.) -/
def Obligations.OtherBeacons : Prop :=
  (∀ (dst src : Byte) (b : BeaconIn) (p : Phase) (l : LeaseState) (s : State),
    s.hears dst src → s.bound = true → s.member src.toNat = true → s.lease.state ≠ .asking →
    s.waitsWith (some .neighbourNotPresent) = false →
    phaseOfCode b.phase.toNat = some p → leaseOfCode b.lease.toNat = some l →
    b.sub.toNat ≤ lastSubCode p → b.cls.toNat ≤ 2 →
    (b.wall ≠ s.par.wall ∨ ∀ x ∈ b.roster, s.own ≠ some x.toNat) →
    exec (.beacon dst src b) s = .next (State.finish
      { s with
        lif := { s.lif with quiet := ⟨true, 0, 384⟩ }
        lease := { s.lease with clock := if s.lease.clock < b.clock then b.clock else s.lease.clock }
        roster :=
          { s.roster with
            entries := s.roster.entries.map fun e =>
              if e.number = src.toNat then
                { e with
                  age := 0, heardPhase := some p, heardHeld := b.flags.getLsbD 0, heard := some ⟨b.sub, l, b.load⟩
                  presence := if e.presence = .retired then .retired else .mismatch
                  count := if e.presence = .retired then e.count else 0
                  mismatch :=
                    if e.presence = .retired then e.mismatch
                    else if b.wall ≠ s.par.wall then some .wallDiffers
                    else some .notListed }
              else e } }))
  ∧ (∀ (dst src : Byte) (b : BeaconIn) (s : State), s.hears dst src →
      (s.bound = false ∨ s.member src.toNat = false ∨ phaseOfCode b.phase.toNat = none
        ∨ leaseOfCode b.lease.toNat = none ∨ 2 < b.cls.toNat
        ∨ ∃ p, phaseOfCode b.phase.toNat = some p ∧ lastSubCode p < b.sub.toNat) →
      exec (.beacon dst src b) s = .next (State.finish { s with lif := { s.lif with quiet := ⟨true, 0, 384⟩ } }))

/-- A BEACON with valid codes from a roster member, heard in any lease state, is recorded as
GoodBeaconFromAMember and OtherBeacons say. Where it changes the presence of its entry: in ASKING, an
entry of the required set that becomes MISMATCH makes the lease withdraw, WITHDRAW in the ask slot, IDLE
with what R44 grants, and the request waits with NEIGHBOUR_NOT_PRESENT; a request that waits with
NEIGHBOUR_NOT_PRESENT is presented again; else only the entry, the clock and the quiet measure change.
Where the presence stays, so does everything else. A LEAVE of an entry that is not RETIRED, a RETIRE of
a LOST one and a beacon age that reaches 8 s likewise present again a request that waits with
NEIGHBOUR_NOT_PRESENT, after the entry and its deferred entry have changed. With no such request, a
RETIRE of a LOST entry in the required set takes it out of the set: the lease stays ASKING while a
member that is left has not granted, else it is HOLDING (hold timer 90 min) and tells the requester;
outside the set a RETIRE changes the entry and the deferred list alone. That what is left of the 8 s
passes for every timer is the choice of the model (log entry 3). What the lease makes of a presented
request, and the requester of HOLDING, is RequestsAreCheckedInOrder. -/
def Obligations.PresenceChangesReachTheLease : Prop :=
  (∀ (dst src : Byte) (b : BeaconIn) (p : Phase) (l : LeaseState) (e : Entry) (r : Request) (s : State),
    s.hears dst src → s.bound = true → s.entry src.toNat = some e →
    phaseOfCode b.phase.toNat = some p → leaseOfCode b.lease.toNat = some l →
    b.sub.toNat ≤ lastSubCode p → b.cls.toNat ≤ 2 →
    let fault :=
      if b.wall ≠ s.par.wall then some MismatchReason.wallDiffers
      else if b.roster.any (fun x => s.own == some x.toNat) then none
      else some .notListed
    let u := s.afterBeacon src fault b p l
    let now := (e.afterBeacon fault b p l).presence
    ((now = e.presence
        ∨ (s.waitsWith (some .neighbourNotPresent) = false
            ∧ ¬(s.lease.state = .asking ∧ now = .mismatch ∧ ∃ m ∈ s.lease.required, m.number = src.toNat))) →
      exec (.beacon dst src b) s = .next (State.finish u))
    ∧ (now ≠ e.presence → s.waitsWith (some .neighbourNotPresent) = false → s.lease.state = .asking →
        now = .mismatch → (∃ m ∈ s.lease.required, m.number = src.toNat) →
        exec (.beacon dst src b) s = .next (State.finish
          (State.setStatus (.waiting (some .neighbourNotPresent)) u.withdrawn)))
    ∧ (now ≠ e.presence → s.request = some r → r.status = .waiting (some .neighbourNotPresent) →
        s.lease.state = .idle →
        exec (.beacon dst src b) s = .next (State.finish u.present)))
  ∧ (∀ (dst src : Byte) (e : Entry) (s : State), s.hears dst src → s.lease.state = .idle →
      s.waitsWith (some .neighbourNotPresent) = true → s.entry src.toNat = some e → e.presence ≠ .retired →
      exec (.leave dst src) s = .next (State.finish (State.present
        (State.entryRetired src.toNat { s with lif := { s.lif with quiet := ⟨true, 0, 384⟩ } }))))
  ∧ (∀ (dst src n : Byte) (e : Entry) (s : State), s.hears dst src → s.entry n.toNat = some e →
      e.presence = .lost → (∀ x ∈ s.roster.entries, x.number = n.toNat → x = e) →
      let u := State.entryRetired n.toNat { s with lif := { s.lif with quiet := ⟨true, 0, 384⟩ } }
      (s.lease.state = .idle → s.waitsWith (some .neighbourNotPresent) = true →
        exec (.retire dst src n) s = .next (State.finish u.present))
      ∧ (s.waitsWith (some .neighbourNotPresent) = false →
          ¬(s.lease.state = .asking ∧ ∃ m ∈ s.lease.required, m.number = n.toNat) →
          exec (.retire dst src n) s = .next (State.finish u))
      ∧ (s.lease.state = .asking → s.waitsWith (some .neighbourNotPresent) = false →
          (∃ m ∈ s.lease.required, m.number = n.toNat) →
          let left := s.lease.required.filter fun m => m.number != n.toNat
          let w : State := { u with lease := { u.lease with required := left } }
          ((∃ m ∈ left, m.mark ≠ .granted) → exec (.retire dst src n) s = .next (State.finish w))
          ∧ ((∀ m ∈ left, m.mark = .granted) →
              exec (.retire dst src n) s = .next (State.finish (State.toldHolding
                { w with
                  lease :=
                    { w.lease with state := .holding, askTimer := .off, hold := ⟨true, 0, 5400000000⟩ } })))))
  ∧ (∀ (n : Byte) (e : Entry) (s : State), s.entry n.toNat = some e →
      (e.presence = .listening ∨ e.presence = .present ∨ e.presence = .mismatch) →
      (∀ x ∈ s.roster.entries, x.number = n.toNat → x = e) →
      s.lease.state = .idle → s.waitsWith (some .neighbourNotPresent) = true →
      let u := s.elapse (8000000 - e.age)
      exec (.beaconAgeExpiry n) s = .next (State.finish (State.present
        { u with
          roster :=
            { u.roster with
              entries := u.roster.entries.map fun x =>
                if x.number = n.toNat then
                  { x with presence := .lost, count := 0, mismatch := none, lostLatch := true }
                else x } })))

/-- An ASK of a valid class from a roster member, heard by a bound controller that is not DETACHED,
raises the clock to its stamp and is answered: DEFER FRESH_GROUT in GROUTING and SETTING; else DEFER
RESTORE_PENDING for ADVANCE while a top-up is PENDING; else DEFER HOLDING in HOLDING; else DEFER AHEAD
in ASKING when the own ask outranks it; else GRANT. The answer goes into the reply batch unless
listen-only. A DEFER puts the entry into the deferred list. A GRANT outside ASKING removes the sender
from the deferred list. A GRANT in ASKING also marks the sender unanswered in the required set, places
the own ASK again with its stamp and send count unless listen-only, and restarts the ask timer. An entry
for a neighbour that the batch, the deferred list or the required set already holds takes its place
there; any other goes to the end. An ASK of another class, from a stranger, before a binding or in
DETACHED only raises the clock. A WITHDRAW raises the clock to its stamp. From a roster member it
removes that member's deferred entry when the entry has that stamp; from any other station it leaves the
list. -/
def Obligations.AsksAndWithdrawsOfNeighbours : Prop :=
  ((∀ (dst src cls count : Byte) (stamp : Stamp) (c : AskClass) (s : State),
      s.hears dst src → s.bound = true → s.member src.toNat = true →
      s.crew.phase ≠ .detached → classOfCode cls.toNat = some c →
      let lease := { s.lease with clock := if s.lease.clock < stamp then stamp else s.lease.clock }
      let batch (v : ReplyVerdict) (r : ReplyReason) : Waiting (List ReplyEntry) :=
        if s.listenOnly then s.lif.batch
        else { s.lif.batch with frame := putReply ⟨src.toNat, stamp, v, r⟩ s.lif.batch.frame }
      (∀ reason : ReplyReason,
        (if s.crew.phase = .grouting ∨ s.crew.phase = .setting then some .freshGrout
          else if s.crew.phase = .locked ∧ s.aft.sub = some .pending ∧ c = .advance then some .restorePending
          else if s.lease.state = .holding then some .holding
          else if s.lease.state = .asking ∧ s.ownOutranks src.toNat c stamp = true then some .ahead
          else none) = some reason →
        exec (.ask dst src cls stamp count) s = .next (State.finish
          { s with
            lif := { s.lif with quiet := ⟨true, 0, 384⟩, batch := batch .defer reason }
            lease := { lease with deferred := putDeferred ⟨src.toNat, c, stamp⟩ s.lease.deferred } }))
      ∧ (¬(s.crew.phase = .grouting ∨ s.crew.phase = .setting) →
          ¬(s.crew.phase = .locked ∧ s.aft.sub = some .pending ∧ c = .advance) →
          s.lease.state = .idle →
          exec (.ask dst src cls stamp count) s = .next (State.finish
            { s with
              lif := { s.lif with quiet := ⟨true, 0, 384⟩, batch := batch .grant .none }
              lease :=
                { lease with deferred := s.lease.deferred.filter fun d => d.number != src.toNat } }))
      ∧ (∀ a, ¬(s.crew.phase = .grouting ∨ s.crew.phase = .setting) →
          ¬(s.crew.phase = .locked ∧ s.aft.sub = some .pending ∧ c = .advance) →
          s.lease.state = .asking → s.lease.ask = some a →
          outranks a.cls a.stamp s.ownNumber c stamp src.toNat = false →
          exec (.ask dst src cls stamp count) s = .next (State.finish
            { s with
              lif :=
                { s.lif with
                  quiet := ⟨true, 0, 384⟩, batch := batch .grant .none
                  ask := if s.listenOnly then s.lif.ask else some ⟨.ask a.cls a.stamp a.count, 0⟩ }
              lease :=
                { lease with
                  deferred := s.lease.deferred.filter fun d => d.number != src.toNat
                  required := markUnanswered src.toNat s.lease.required
                  askTimer := ⟨true, 0, 5000000⟩ } })))
    ∧ (∀ (dst src cls count : Byte) (stamp : Stamp) (s : State), s.hears dst src →
        (s.bound = false ∨ s.member src.toNat = false ∨ s.crew.phase = .detached
          ∨ classOfCode cls.toNat = none) →
        exec (.ask dst src cls stamp count) s = .next (State.finish
          { s with
            lif := { s.lif with quiet := ⟨true, 0, 384⟩ }
            lease := { s.lease with clock := if s.lease.clock < stamp then stamp else s.lease.clock } })))
  ∧ (∀ (dst src : Byte) (stamp : Stamp) (s : State), s.hears dst src →
      exec (.withdraw dst src stamp) s = .next (State.finish
        { s with
          lif := { s.lif with quiet := ⟨true, 0, 384⟩ }
          lease :=
            { s.lease with
              clock := if s.lease.clock < stamp then stamp else s.lease.clock
              deferred :=
                if s.member src.toNat then
                  s.lease.deferred.filter fun d => !(d.number == src.toNat && d.stamp == stamp)
                else s.lease.deferred } }))
  ∧ (∀ (e : ReplyEntry) (es : List ReplyEntry),
      ((∃ x ∈ es, x.target = e.target) →
        putReply e es = es.map fun x => if x.target = e.target then e else x)
      ∧ ((∀ x ∈ es, x.target ≠ e.target) → putReply e es = es ++ [e]))
  ∧ (∀ (d : Deferred) (ds : List Deferred),
      ((∃ x ∈ ds, x.number = d.number) →
        putDeferred d ds = ds.map fun x => if x.number = d.number then d else x)
      ∧ ((∀ x ∈ ds, x.number ≠ d.number) → putDeferred d ds = ds ++ [d]))
  ∧ (∀ (n : Nat) (ms : List Member),
      ((∃ m ∈ ms, m.number = n) →
        markUnanswered n ms = ms.map fun m => if m.number = n then { m with mark := .unanswered } else m)
      ∧ ((∀ m ∈ ms, m.number ≠ n) → markUnanswered n ms = ms ++ [⟨n, .unanswered⟩]))

/-- Of two asks the one of class RESTORE outranks the one of class ADVANCE; within a class the lower
stamp outranks; at equal class and stamp the lower station number does. Asks of two different stations
are always decided, one way only. The controller ranks its own current ask, under its own number,
against a received ask under the frame's source. In HOLDING rank decides nothing: the answer is DEFER
HOLDING to every ask that no earlier row defers. -/
def Obligations.AsksAreRanked : Prop :=
  (∀ (st1 st2 : Stamp) (n1 n2 : Nat),
    outranks .restore st1 n1 .advance st2 n2 = true ∧ outranks .advance st1 n1 .restore st2 n2 = false)
  ∧ (∀ (c : AskClass) (st1 st2 : Stamp) (n1 n2 : Nat), st1 < st2 →
      outranks c st1 n1 c st2 n2 = true ∧ outranks c st2 n2 c st1 n1 = false)
  ∧ (∀ (c : AskClass) (st : Stamp) (n1 n2 : Nat), n1 < n2 →
      outranks c st n1 c st n2 = true ∧ outranks c st n2 c st n1 = false)
  ∧ (∀ (c1 c2 : AskClass) (st1 st2 : Stamp) (n1 n2 : Nat), n1 ≠ n2 →
      outranks c1 st1 n1 c2 st2 n2 = !outranks c2 st2 n2 c1 st1 n1)
  ∧ (∀ (s : State) (a : CurrentAsk) (src : Nat) (c : AskClass) (stamp : Stamp), s.lease.ask = some a →
      s.ownOutranks src c stamp = outranks a.cls a.stamp s.ownNumber c stamp src)
  ∧ (∀ (s : State) (src : Nat) (c : AskClass) (stamp : Stamp), s.lease.state = .holding →
      s.freshGrout = false → s.pendingTopUp = false →
      s.answerTo src c stamp = some .holding)

/-- In ASKING, an entry for this controller with the current stamp from a required member counts. GRANT
marks the sender granted; when every member is then granted the ask timer stops, the lease is HOLDING
with its ask kept, the hold timer of 90 min runs, and the requester is told: WAIT_LEASE becomes RAMP,
ABORT_WAIT becomes ABORT_UNLOAD, PENDING becomes TOPUP in LIFT (RequestsAreCheckedInOrder says how; log
entry 46, DEDUCED). DEFER marks the sender deferred. An entry of another verdict, for another station,
stamp or sender, or outside ASKING only raises the clock. A REPLY of several entries raises the clock
from all of them and then reads them one by one, in order, each as it would act alone on what the
entries before it have left. A REPLY changes nothing else but the quiet measure. That the recovery time
is 0 once TOPUP begins is the choice of the model (log entry 39). -/
def Obligations.RepliesToTheCurrentAsk : Prop :=
  (∀ (dst src : Byte) (e : ReplyIn) (a : CurrentAsk) (s : State), s.hears dst src → s.lease.state = .asking →
    s.lease.ask = some a → s.own = some e.target.toNat → e.stamp = a.stamp →
    (∃ m ∈ s.lease.required, m.number = src.toNat) →
    let clock := if s.lease.clock < e.stamp then e.stamp else s.lease.clock
    let marked (k : Mark) : List Member :=
      s.lease.required.map fun m => if m.number = src.toNat then { m with mark := k } else m
    (e.verdict = 2 →
      exec (.reply dst src [e]) s = .next (State.finish
        { s with
          lif := { s.lif with quiet := ⟨true, 0, 384⟩ }
          lease := { s.lease with clock, required := marked .deferred } }))
    ∧ (e.verdict = 1 → (∃ m ∈ s.lease.required, m.number ≠ src.toNat ∧ m.mark ≠ .granted) →
        exec (.reply dst src [e]) s = .next (State.finish
          { s with
            lif := { s.lif with quiet := ⟨true, 0, 384⟩ }
            lease := { s.lease with clock, required := marked .granted } }))
    ∧ (e.verdict = 1 → (∀ m ∈ s.lease.required, m.number ≠ src.toNat → m.mark = .granted) →
        ∃ t, exec (.reply dst src [e]) s = .next t
        ∧ t =
            { s with
              lif := t.lif, lease := t.lease, seq := t.seq, aft := t.aft, scan := t.scan,
              trip := t.trip, drives := t.drives }
        ∧ t.lif = { s.lif with quiet := ⟨true, 0, 384⟩, tx := t.lif.tx }
        ∧ t.seq = { s.seq with sub := t.seq.sub, jack := t.seq.jack, holdTimer := t.seq.holdTimer }
        ∧ t.aft =
            { s.aft with
              sub := t.aft.sub, stage := t.aft.stage, before := t.aft.before,
              recovery := t.aft.recovery, jack := t.aft.jack }
        ∧ s.settles t
        ∧ t.lease =
              { s.lease with
                clock, required := marked .granted, state := .holding, askTimer := .off
                hold := ⟨true, 0, 5400000000⟩ }
          ∧ t.crew = s.crew ∧ t.store = s.store ∧ t.roster = s.roster
          ∧ (s.crew.phase = .stressing → s.seq.sub = some .waitLease →
              t.seq.sub = some .ramp ∧ t.seq.jack.rampStart = s.jackLoad
              ∧ t.seq.jack.rampRef = s.jackLoad ∧ t.seq.jack.ramp.on = true
              ∧ t.seq.jack.ramp.elapsed = 0)
          ∧ (s.crew.phase = .stressing → s.seq.sub = some .abortWait →
              t.seq.sub = some .abortUnload
              ∧ t.seq.jack.unload = ⟨true, 0, (120 * s.jackLoad / s.par.rampRate + 60) * 1000000⟩)
          ∧ (s.crew.phase = .locked → s.aft.sub = some .pending →
              t.aft.sub = some .topUp ∧ t.aft.stage = some .lift
              ∧ t.aft.before = s.scan.lcTrusted.toNat ∧ t.aft.jack.rampStart = s.jackLoad)))
  ∧ (∀ (dst src : Byte) (e : ReplyIn) (s : State), s.hears dst src →
      (s.lease.state ≠ .asking ∨ s.own ≠ some e.target.toNat ∨ e.stamp ≠ s.askStamp
        ∨ (∀ m ∈ s.lease.required, m.number ≠ src.toNat)
        ∨ (e.verdict.toNat ≠ 1 ∧ e.verdict.toNat ≠ 2)) →
      exec (.reply dst src [e]) s = .next (State.finish
        { s with
          lif := { s.lif with quiet := ⟨true, 0, 384⟩ }
          lease := { s.lease with clock := if s.lease.clock < e.stamp then e.stamp else s.lease.clock } }))
  ∧ (∀ (dst src : Byte) (es : List ReplyIn) (s : State), s.hears dst src →
      exec (.reply dst src es) s = .next (State.finish
        (es.foldl (State.hearReplyEntry src.toNat)
          { s with
            lif := { s.lif with quiet := ⟨true, 0, 384⟩ }
            lease :=
              { s.lease with
                clock := es.foldl (fun c e => if c < e.stamp then e.stamp else c) s.lease.clock } })))
  ∧ (∀ (n : Nat) (e : ReplyIn) (s : State),
      ((s.lease.state ≠ .asking ∨ s.own ≠ some e.target.toNat ∨ e.stamp ≠ s.askStamp
          ∨ (∀ m ∈ s.lease.required, m.number ≠ n) ∨ (e.verdict.toNat ≠ 1 ∧ e.verdict.toNat ≠ 2)) →
        s.hearReplyEntry n e = s)
      ∧ (s.lease.state = .asking → s.own = some e.target.toNat → e.stamp = s.askStamp →
          (∃ m ∈ s.lease.required, m.number = n) →
          (e.verdict = 2 →
            s.hearReplyEntry n e =
              { s with lease := { s.lease with required := marked n .deferred s.lease.required } })
          ∧ (e.verdict = 1 → (∃ m ∈ s.lease.required, m.number ≠ n ∧ m.mark ≠ .granted) →
              s.hearReplyEntry n e =
                { s with lease := { s.lease with required := marked n .granted s.lease.required } })
          ∧ (e.verdict = 1 → (∀ m ∈ s.lease.required, m.number ≠ n → m.mark = .granted) →
              s.hearReplyEntry n e =
                State.toldHolding
                  { s with
                    lease :=
                      { s.lease with
                        required := marked n .granted s.lease.required, state := .holding
                        askTimer := .off, hold := ⟨true, 0, 5400000000⟩ } })))

/-- A LEAVE from a roster member makes its entry RETIRED from every other presence, with the consistency
count 0 and no mismatch reason, the lost latch and the heard fields kept; it leaves every other entry. A
LEAVE from a station outside the roster, or from an entry that is RETIRED, changes nothing but the quiet
measure. A RETIRE naming a roster member whose entry is LOST makes the entry RETIRED, with the
consistency count 0 and no mismatch reason, the lost latch and the heard fields kept, whoever sent it. A
RETIRE that names no roster member, or an entry in another presence, changes nothing but the quiet
measure; so does one that names the own number, which no roster holds. Blocks other than line interface,
roster, lease and requester change only as the closing of the event changes them. What the lease does
with the change is PresenceLossWithdrawsTheAsk and PresenceChangesReachTheLease. -/
def Obligations.LeaveAndRetireSettleEntries : Prop :=
  (∀ (dst src : Byte) (s : State), s.hears dst src →
    ∃ t, exec (.leave dst src) s = .next t
        ∧ t =
            { s with
              lif := t.lif, roster := t.roster, lease := t.lease, seq := t.seq, aft := t.aft,
              scan := t.scan, trip := t.trip, drives := t.drives }
        ∧ t.roster.beaconTimer = s.roster.beaconTimer
      ∧ t.roster.entries = s.roster.entries.map fun e =>
          if e.number = src.toNat ∧ e.presence ≠ .retired then
            { e with presence := .retired, count := 0, mismatch := none }
          else e)
  ∧ (∀ (dst src : Byte) (s : State), s.hears dst src →
      (∀ x ∈ s.roster.entries, x.number = src.toNat → x.presence = .retired) →
      exec (.leave dst src) s = .next (State.finish { s with lif := { s.lif with quiet := ⟨true, 0, 384⟩ } }))
  ∧ (∀ (dst src n : Byte) (e : Entry) (s : State), s.hears dst src → s.entry n.toNat = some e →
    e.presence = .lost →
    (∀ x ∈ s.roster.entries, x.number = n.toNat → x = e) →
    ∃ t, exec (.retire dst src n) s = .next t
        ∧ t =
            { s with
              lif := t.lif, roster := t.roster, lease := t.lease, seq := t.seq, aft := t.aft,
              scan := t.scan, trip := t.trip, drives := t.drives }
        ∧ t.roster.beaconTimer = s.roster.beaconTimer
      ∧ t.roster.entries = s.roster.entries.map fun x =>
          if x.number = n.toNat then { x with presence := .retired, count := 0, mismatch := none } else x)
  ∧ (∀ (dst src n : Byte) (s : State), s.hears dst src →
      (∀ x ∈ s.roster.entries, x.number = n.toNat → x.presence ≠ .lost) →
      exec (.retire dst src n) s = .next (State.finish { s with lif := { s.lif with quiet := ⟨true, 0, 384⟩ } }))
  ∧ (∀ (dst src n : Byte) (s : State), s.hears dst src → s.own = some n.toNat → s.member n.toNat = false →
      exec (.retire dst src n) s = .next (State.finish { s with lif := { s.lif with quiet := ⟨true, 0, 384⟩ } }))

/-- When the beacon age of an entry in LISTENING, PRESENT or MISMATCH reaches 8 s, what was left of the
8 s has passed, and the entry is LOST with count 0, no mismatch reason and the lost latch set; the heard
fields stay. In ASKING, for a member of the required set, the lease then withdraws: WITHDRAW in the ask
slot unless listen-only, IDLE with no ask and no required set, both timers off, what R44 grants in the
reply batch and out of the deferred list, and the request waits with NEIGHBOUR_NOT_PRESENT. In HOLDING,
in IDLE and for an entry outside the required set only the entry changes. In LOST and RETIRED, and for a
number that is no entry, nothing happens. A LEAVE makes its entry RETIRED and removes its deferred
entry; in ASKING a required member leaves the required set, and when all that are left have granted the
lease is HOLDING, with the hold timer of 90 min, and tells the requester (RequestsAreCheckedInOrder);
else the lease keeps its state. That what is left of the 8 s passes for every timer (log entry 3), and
that an expiry named for another number or presence is without effect (log entry 5), is the choice of
the model. (Here no request waits with NEIGHBOUR_NOT_PRESENT; that case is
PresenceChangesReachTheLease.) -/
def Obligations.PresenceLossWithdrawsTheAsk : Prop :=
  ((∀ (n : Byte) (e : Entry) (s : State), s.entry n.toNat = some e →
      (e.presence = .listening ∨ e.presence = .present ∨ e.presence = .mismatch) →
      (∀ x ∈ s.roster.entries, x.number = n.toNat → x = e) →
      s.waitsWith (some .neighbourNotPresent) = false →
      let u : State :=
        { s.elapse (8000000 - e.age) with
          roster :=
            { (s.elapse (8000000 - e.age)).roster with
              entries := (s.elapse (8000000 - e.age)).roster.entries.map fun x =>
                if x.number = n.toNat then
                  { x with presence := .lost, count := 0, mismatch := none, lostLatch := true }
                else x } }
      (s.lease.state = .asking → (∃ m ∈ s.lease.required, m.number = n.toNat) →
          exec (.beaconAgeExpiry n) s = .next (State.finish
            (State.setStatus (.waiting (some .neighbourNotPresent)) u.withdrawn)))
      ∧ (s.lease.state ≠ .asking ∨ (∀ m ∈ s.lease.required, m.number ≠ n.toNat) →
          exec (.beaconAgeExpiry n) s = .next (State.finish u)))
    ∧ (∀ (n : Byte) (e : Entry) (r : Request) (s : State), s.lease.state = .asking → s.request = some r →
        s.waitsWith (some .neighbourNotPresent) = false → s.entry n.toNat = some e →
        (e.presence = .listening ∨ e.presence = .present ∨ e.presence = .mismatch) →
        (∀ x ∈ s.roster.entries, x.number = n.toNat → x = e) →
        (∃ m ∈ s.lease.required, m.number = n.toNat) →
        ∃ t, exec (.beaconAgeExpiry n) s = .next t
          ∧ t =
              { s.elapse (8000000 - e.age) with
                lif := t.lif, roster := t.roster, lease := t.lease, seq := t.seq, aft := t.aft,
                scan := t.scan, trip := t.trip, drives := t.drives }
          ∧ t.roster =
              { (s.elapse (8000000 - e.age)).roster with
                entries := (s.elapse (8000000 - e.age)).roster.entries.map fun x =>
                  if x.number = n.toNat then
                    { x with presence := .lost, count := 0, mismatch := none, lostLatch := true }
                  else x }
          ∧ t.lif =
              { (s.elapse (8000000 - e.age)).lif with
                ask := if s.listenOnly then s.lif.ask else some ⟨.withdraw s.askStamp, 0⟩
                batch := s.batchGranting s.grantedInIdle, tx := t.lif.tx }
          ∧ t.lease =
              { (s.elapse (8000000 - e.age)).lease with
                state := .idle, ask := none, required := [], askTimer := .off, hold := .off
                deferred := s.keptInIdle }
          ∧ t.lease.clock = s.lease.clock
          ∧ t.seq = { (s.elapse (8000000 - e.age)).seq with request := t.seq.request }
          ∧ t.aft = { (s.elapse (8000000 - e.age)).aft with request := t.aft.request }
          ∧ t.request = some { r with status := .waiting (some .neighbourNotPresent) }
          ∧ (s.elapse (8000000 - e.age)).settles t))
  ∧ (∀ (dst src : Byte) (e : Entry) (s : State), s.hears dst src →
      s.waitsWith (some .neighbourNotPresent) = false → s.entry src.toNat = some e → e.presence ≠ .retired →
      let u := State.entryRetired src.toNat { s with lif := { s.lif with quiet := ⟨true, 0, 384⟩ } }
      let left := s.lease.required.filter fun m => m.number != src.toNat
      let w : State := { u with lease := { u.lease with required := left } }
      (s.lease.state = .asking → (∃ m ∈ s.lease.required, m.number = src.toNat) →
          (∃ m ∈ left, m.mark ≠ .granted) → exec (.leave dst src) s = .next (State.finish w))
      ∧ (s.lease.state = .asking → (∃ m ∈ s.lease.required, m.number = src.toNat) →
          (∀ m ∈ left, m.mark = .granted) →
          exec (.leave dst src) s = .next (State.finish (State.toldHolding
            { w with
              lease :=
                { w.lease with state := .holding, askTimer := .off, hold := ⟨true, 0, 5400000000⟩ } })))
      ∧ (s.lease.state ≠ .asking ∨ (∀ m ∈ s.lease.required, m.number ≠ src.toNat) →
          exec (.leave dst src) s = .next (State.finish u)))
  ∧ (∀ (n : Byte) (s : State), (∀ e, s.entry n.toNat = some e → e.presence = .lost ∨ e.presence = .retired) →
      exec (.beaconAgeExpiry n) s = .next s.finish)

/-- An ALERT with valid codes from a roster member sets the heard phase of its entry and, for a trip
cause, the heard HELD flag; it touches neither the age nor the presence nor the clock. With cause
BREAKTHROUGH and grouting begun, grouting ends with COMMUNICATED: the append with volume and yield
events, the phase SETTING, the set timer started. An ALERT with an unknown code, from a stranger or
before a binding changes nothing but the quiet measure. That the sag time is 0 and no sub-state is kept
as the one left after grouting is the choice of the model (log entry 37), and so is that a clean time of
60 s not yet taken leaves the consecutive-yield count as it stands (log entry 47). -/
def Obligations.AlertsFromMembers : Prop :=
  (∀ (dst src cause phase : Byte) (value : Half) (c : AlertCause) (p : Phase) (s : State),
    s.hears dst src → s.bound = true → s.member src.toNat = true →
    causeOfCode cause.toNat = some c → phaseOfCode phase.toNat = some p →
    let roster :=
      { s.roster with
        entries := s.roster.entries.map fun e =>
          if e.number = src.toNat then
            { e with
              heardPhase := some p
              heardHeld := e.heardHeld || !(c == .breakthrough || c == .lossExcess) }
          else e }
    ((c ≠ .breakthrough ∨ s.groutBegun = false) →
      exec (.alert dst src cause phase value) s = .next (State.finish
        { s with lif := { s.lif with quiet := ⟨true, 0, 384⟩ }, roster }))
    ∧ (c = .breakthrough → s.groutBegun = true →
        exec (.alert dst src cause phase value) s = .next (State.finish
          { s with
            lif := { s.lif with quiet := ⟨true, 0, 384⟩ }
            roster
            grout :=
              { s.grout with
                sub := none, result := some .communicated, refusalTime := 0, sagTime := 0,
                yieldTimer := .off, left := none, testsOpen := false, watch := .unarmed, breakTime := 0
                setTimer := ⟨true, 0, s.par.setTime * 3600000000⟩ }
            store := (s.handOver (.grout ⟨.communicated, s.grout.volume, s.grout.yieldEvents⟩)).store
            crew := { s.crew with phase := .setting } })))
  ∧ (∀ (dst src cause phase : Byte) (value : Half) (s : State), s.hears dst src →
      (s.bound = false ∨ s.member src.toNat = false ∨ causeOfCode cause.toNat = none
        ∨ phaseOfCode phase.toNat = none) →
      exec (.alert dst src cause phase value) s = .next (State.finish { s with lif := { s.lif with quiet := ⟨true, 0, 384⟩ } }))

/-- A BIND that is taken after a binding was accepted, or in a phase other than SETUP, is answered
BIND_REFUSED with field 0 and BOUND. In SETUP without a binding, one whose validation finds a failing
field is answered BIND_REFUSED with that field and reason. Nothing else changes. A QUERY or BIND
addressed to the own number while the FIFO holds four reports, while listen-only or before the start
listen has ended has no effect but 1 on QUERY_DROPS, which stays at 65,535. One accepted through 63 or a
group destination is discarded without counting. -/
def Obligations.BindRefusedAndQueriesNotTaken : Prop :=
  ((∀ (dst src : Byte) (b : BindIn) (s : State), s.hears dst src → s.takes dst →
      (s.bound = true ∨ s.crew.phase ≠ .setup) →
      exec (.bind dst src b) s = .next (State.finish
        { s with
          lif :=
            { s.lif with
              quiet := ⟨true, 0, 384⟩, fifo := s.lif.fifo ++ [⟨src, .bindRefused 0 .bound, 0⟩] } }))
    ∧ (∀ (dst src : Byte) (b : BindIn) (i : Nat) (r : RefusalReason) (s : State), s.hears dst src →
        s.takes dst → s.bound = false → s.crew.phase = .setup → validate s.ownNumber b = some (i, r) →
        exec (.bind dst src b) s = .next (State.finish
          { s with
            lif :=
              { s.lif with
                quiet := ⟨true, 0, 384⟩, fifo := s.lif.fifo ++ [⟨src, .bindRefused i r, 0⟩] } })))
  ∧ (∀ (c : Instr) (dst src : Byte) (s : State),
      ((∃ b, c = .bind dst src b) ∨ c = .statusQuery dst src ∨ (∃ x p, c = .recordQuery dst src x p)
        ∨ (∃ x n, c = .exportedQuery dst src x n) ∨ ∃ w, c = .queryUnknown dst src w) →
      s.hears dst src →
      (s.own = some dst.toNat →
        (4 ≤ s.lif.fifo.length ∨ s.listenOnly = true ∨ s.crew.stage ≠ .online) →
        exec c s = .next (State.finish
          { s with
            lif :=
              { s.lif with
                quiet := ⟨true, 0, 384⟩
                queryDrops :=
                  if s.lif.queryDrops = 65535#16 then s.lif.queryDrops else s.lif.queryDrops + 1 } }))
      ∧ (s.own ≠ some dst.toNat → exec c s = .next (State.finish { s with lif := { s.lif with quiet := ⟨true, 0, 384⟩ } })))

/-- In SETUP without a binding, a valid BIND that is taken makes one LISTENING entry per roster number
in order, sets the group mask and the parameters with the plan, moves the phase to the start phase and
places BIND_OK with the own number, the start phase and the number of entries. PLACING begins in WAIT_GO
with rope-out, counts, times and totals 0 and the off-time stopped, and hands the opening with the
tendon length; GROUTING begins in WAIT_GO with the opening at 100 %, volume, timers, counts and totals
0, and hands the opening without one; CURING starts the cure timer with the bound hours; LOCKED begins
in WATCH with the bound lock-off load, no slot, no request, times and count 0 and the loss-excess flag
clear (its ramp values 0: log entry 39, the choice of the model); CURED starts nothing. The blocks of
other phases and everything else stay. -/
def Obligations.BindTakesEffect : Prop :=
  ∀ (dst src : Byte) (b : BindIn) (s : State), s.hears dst src → s.takes dst → s.bound = false →
    s.crew.phase = .setup → validate s.ownNumber b = none →
    ∃ t, exec (.bind dst src b) s = .next t
        ∧ t =
            { s with
              binding := t.binding, roster := t.roster, lif := t.lif, crew := t.crew,
              placement := t.placement, grout := t.grout, aft := t.aft, store := t.store,
              scan := t.scan, trip := t.trip, drives := t.drives }
        ∧ t.lif =
            { s.lif with
              quiet := ⟨true, 0, 384⟩, groupMask := t.lif.groupMask, fifo := t.lif.fifo,
              tx := t.lif.tx }
        ∧ s.settles t
        ∧ (b.startPhase ≠ 1 → t.placement = s.placement)
        ∧ (b.startPhase ≠ 2 → b.startPhase ≠ 4 → t.grout = s.grout)
        ∧ (b.startPhase ≠ 7 → t.aft = s.aft)
        ∧ t.binding = some (bindingOf b)
      ∧ t.roster.entries =
          (b.roster.take b.rosterCount.toNat).map (fun n =>
            { number := n.toNat, presence := .listening, count := 0, mismatch := none, age := 0,
              lostLatch := false, heardPhase := none, heardHeld := false, heard := none : Entry })
      ∧ t.roster.beaconTimer = s.roster.beaconTimer ∧ t.lif.groupMask = b.groupMask
      ∧ t.lease = s.lease ∧ t.trip.latches = s.trip.latches
      ∧ t.lif.fifo =
          s.lif.fifo
            ++ [⟨src, .bindOk s.ownNumber (bindingOf b).startPhase
                  (b.roster.take b.rosterCount.toNat).length, 0⟩]
      ∧ t.crew = { s.crew with phase := (bindingOf b).startPhase }
      ∧ (b.startPhase = 1 →
          t.crew.phase = .placing
          ∧ t.placement =
              { sub := some .waitGo, ropeOut := 0, limitCount := 0, cleanDist := 0, offTime := .off,
                slackTime := 0, breakTime := 0, limitEvents := 0, slackPauses := 0 }
          ∧ t.store =
              (s.handOver (.opening
                ⟨b.labelChars.take b.labelCount.toNat, some b.tendonLength.toNat,
                  s.store.image.counter⟩)).store)
      ∧ (b.startPhase = 2 →
          t.crew.phase = .grouting
          ∧ t.grout =
              { s.grout with
                sub := some .waitGo, opening := 100, volume := 0, remainder := 0, refusalTime := 0, sagTime := 0,
                yieldTimer := .off, left := none, yieldCount := 0, cleanTime := 0, yieldEvents := 0,
                result := none, testsOpen := false }
          ∧ t.store =
              (s.handOver (.opening
                ⟨b.labelChars.take b.labelCount.toNat, none, s.store.image.counter⟩)).store)
      ∧ (b.startPhase = 4 →
          t.crew.phase = .curing ∧ t.store = s.store
          ∧ t.grout = { s.grout with cureTimer := ⟨true, 0, b.cureHours.toNat * 3600000000⟩ })
      ∧ (b.startPhase = 5 → t.crew.phase = .cured ∧ t.store = s.store)
      ∧ (b.startPhase = 7 →
          t.crew.phase = .locked ∧ t.store = s.store
          ∧ t.aft =
              { s.aft with
                sub := some .watch, stage := none, target := some b.lockOffLoad.toNat, slot := none
                lowTime := 0, recovery := 0, request := none, jack := .reset, count := 0, lossExcess := false })

/-- When the validation finds nothing, the label has 1 to 12 printable characters, the wall code is not
0, the roster has at most 12 numbers from 1 to 62, none of them the own number and none twice, every
parameter of fields 5 to 34 is in its range and order, every pick is in its list, the start phase is one
of the five, the remaining cure hours are in range for CURING and the lock-off load for LOCKED, and the
plan has 3 to 10 steps: LOAD steps, one PROOF step, UNLOAD steps and one LOCKOFF step, in that order;
LOAD targets rising from the alignment load to below the PROOF target; the PROOF target from 100 to 160
% of the design load and at most 90 % of what the jack can bring; UNLOAD targets falling from it, the
LOCKOFF target, from 50 to 110 % of the design load, below them; holds of LOAD and UNLOAD from 30 to 900
s; and each step fits the hold limit of the lease: 60 x its load change + ramp rate x (counted hold +
300) is at most ramp rate x 5,400. In every BIND the finding is the first check that fails in this walk,
with its field index and its reason: fields 1 to 38 in index order, the label and the roster element by
element, RANGE before SELF before DUPLICATE and before ORDER, the fields 36 and 37 only for their start
phases, then for each step its kind, its target and its hold, each RANGE before ORDER or FIT; with no
check that fails it is none. -/
def Obligations.AcceptedBindIsInRange : Prop :=
  (∀ (own : Nat) (b : BindIn), b.ok = true → validate own b = none →
    1 ≤ b.labelCount.toNat ∧ b.labelCount.toNat ≤ 12
    ∧ (∀ c ∈ b.labelChars.take b.labelCount.toNat, 33 ≤ c.toNat ∧ c.toNat ≤ 126)
    ∧ b.wall ≠ 0 ∧ b.rosterCount.toNat ≤ 12
    ∧ (∀ n ∈ b.roster.take b.rosterCount.toNat, 1 ≤ n.toNat ∧ n.toNat ≤ 62 ∧ n.toNat ≠ own)
    ∧ (b.roster.take b.rosterCount.toNat).Nodup
    ∧ 500 ≤ b.tendonLength.toNat ∧ b.tendonLength.toNat ≤ 8000
    ∧ 10 ≤ b.pullLimit.toNat ∧ b.pullLimit.toNat ≤ 600
    ∧ 1 ≤ b.slack.toNat ∧ b.slack.toNat ≤ 50 ∧ b.slack.toNat < b.pullLimit.toNat
    ∧ b.offTimePick.toNat ≤ 3 ∧ 10 ≤ b.holeVolume.toNat ∧ b.holeVolume.toNat ≤ 2000
    ∧ 100 ≤ b.fillFactor.toNat ∧ b.fillFactor.toNat ≤ 200
    ∧ 100 ≤ b.stagePressure.toNat ∧ b.stagePressure.toNat ≤ 4000
    ∧ b.stagePressure.toNat + 100 ≤ b.groutMax.toNat ∧ b.groutMax.toNat ≤ 6000
    ∧ 5 ≤ b.refusalFlow.toNat ∧ b.refusalFlow.toNat ≤ 200
    ∧ 1 ≤ b.refusalTime.toNat ∧ b.refusalTime.toNat ≤ 30
    ∧ b.holeVolume.toNat * b.fillFactor.toNat / 10 ≤ 10 * b.volumeLimit.toNat ∧ b.volumeLimit.toNat ≤ 10000
    ∧ 100 ≤ b.headerMin.toNat ∧ b.headerMin.toNat ≤ 4000
    ∧ 50 ≤ b.breakthrough.toNat ∧ b.breakthrough.toNat ≤ 2000
    ∧ 1 ≤ b.setTime.toNat ∧ b.setTime.toNat ≤ 24 ∧ 24 ≤ b.cureTime.toNat ∧ b.cureTime.toNat ≤ 672
    ∧ 50 ≤ b.ramArea.toNat ∧ b.ramArea.toNat ≤ 1000
    ∧ 100 ≤ b.designLoad.toNat ∧ b.designLoad.toNat ≤ 3000
    ∧ 5 * b.designLoad.toNat ≤ b.alignLoad.toNat * 100
    ∧ b.alignLoad.toNat * 100 ≤ 20 * b.designLoad.toNat
    ∧ 20 ≤ b.rampRate.toNat ∧ b.rampRate.toNat ≤ 500
    ∧ 10 ≤ b.creepLimit.toNat ∧ b.creepLimit.toNat ≤ 500
    ∧ b.extMin.toNat < b.extMax.toNat ∧ b.extMax.toNat ≤ 50000
    ∧ 2 ≤ b.lockTol.toNat ∧ b.lockTol.toNat ≤ 10 ∧ 2 ≤ b.lossTol.toNat ∧ b.lossTol.toNat ≤ 15
    ∧ b.topUpPick.toNat ≤ 3 ∧ b.groutOverPick.toNat ≤ 2 ∧ b.extEnable.toNat ≤ 1
    ∧ b.extPick.toNat ≤ 2 ∧ b.keepHonour.toNat ≤ 1
    ∧ 10000 ≤ b.maxJack.toNat ∧ b.maxJack.toNat ≤ 70000
    ∧ (b.startPhase = 1 ∨ b.startPhase = 2 ∨ b.startPhase = 4 ∨ b.startPhase = 5 ∨ b.startPhase = 7)
    ∧ 3 ≤ b.stepCount.toNat ∧ b.stepCount.toNat ≤ 10
    ∧ (b.startPhase = 4 → 1 ≤ b.cureHours.toNat ∧ b.cureHours.toNat ≤ 672)
    ∧ (b.startPhase = 7 →
        50 * b.designLoad.toNat ≤ b.lockOffLoad.toNat * 100
        ∧ b.lockOffLoad.toNat * 100 ≤ 110 * b.designLoad.toNat)
    ∧ ∃ (loads unloads : List StepIn) (proof last : StepIn),
        b.steps.take b.stepCount.toNat = loads ++ [proof] ++ unloads ++ [last]
        ∧ (∀ x ∈ loads, x.kind = 1 ∧ 30 ≤ x.hold.toNat ∧ x.hold.toNat ≤ 900)
        ∧ proof.kind = 2
        ∧ (∀ x ∈ unloads, x.kind = 3 ∧ 1 ≤ x.target.toNat ∧ 30 ≤ x.hold.toNat ∧ x.hold.toNat ≤ 900)
        ∧ last.kind = 4
        ∧ (b.alignLoad.toNat :: loads.map fun x => x.target.toNat).Pairwise (· < ·)
        ∧ (∀ x ∈ loads, x.target.toNat < proof.target.toNat)
        ∧ 100 * b.designLoad.toNat ≤ proof.target.toNat * 100
        ∧ proof.target.toNat * 100 ≤ 160 * b.designLoad.toNat
        ∧ proof.target.toNat * 10 ≤ b.maxJack.toNat * b.ramArea.toNat / 10000 * 9
        ∧ ((proof :: unloads ++ [last]).map fun x => x.target.toNat).Pairwise (· > ·)
        ∧ 50 * b.designLoad.toNat ≤ last.target.toNat * 100
        ∧ last.target.toNat * 100 ≤ 110 * b.designLoad.toNat
        ∧ ∀ (i : Nat) (x : StepIn), (b.steps.take b.stepCount.toNat)[i]? = some x →
            let before :=
              if i = 0 then b.alignLoad.toNat else ((b.steps[i - 1]?).map fun y => y.target.toNat).getD 0
            let change := max x.target.toNat before - min x.target.toNat before
            let counted := if x.kind = 2 then 3600 else if x.kind = 4 then 60 else x.hold.toNat
            60 * change + b.rampRate.toNat * (counted + 300) ≤ b.rampRate.toNat * 5400)
  ∧ (∀ (own : Nat) (b : BindIn), b.ok = true →
      let ranged (v lo hi i : Nat) : Bool × Nat × RefusalReason := (decide (lo ≤ v ∧ v ≤ hi), i, .range)
      let percent (v lo hi i : Nat) : Bool × Nat × RefusalReason :=
        ranged (v * 100) (lo * b.designLoad.toNat) (hi * b.designLoad.toNat) i
      let chars := b.labelChars.take b.labelCount.toNat
      let roster := b.roster.take b.rosterCount.toNat
      let steps := b.steps.take b.stepCount.toNat
      let label := ranged b.labelCount.toNat 1 12 1 :: chars.map fun c => ranged c.toNat 33 126 1
      let number (i : Nat) (n : Byte) : List (Bool × Nat × RefusalReason) :=
        [ranged n.toNat 1 62 4, (decide (n.toNat ≠ own), 4, .self), (decide (n ∉ roster.take i), 4, .duplicate)]
      let work :=
        [ranged b.tendonLength.toNat 500 8000 5, ranged b.pullLimit.toNat 10 600 6, ranged b.slack.toNat 1 50 7,
          (decide (b.slack.toNat < b.pullLimit.toNat), 7, .order), ranged b.offTimePick.toNat 0 3 8,
          ranged b.holeVolume.toNat 10 2000 9, ranged b.fillFactor.toNat 100 200 10,
          ranged b.stagePressure.toNat 100 4000 11, ranged b.groutMax.toNat (b.stagePressure.toNat + 100) 6000 12,
          ranged b.refusalFlow.toNat 5 200 13, ranged b.refusalTime.toNat 1 30 14,
          ranged (10 * b.volumeLimit.toNat) (b.holeVolume.toNat * b.fillFactor.toNat / 10) 100000 15,
          ranged b.headerMin.toNat 100 4000 16, ranged b.breakthrough.toNat 50 2000 17,
          ranged b.setTime.toNat 1 24 18, ranged b.cureTime.toNat 24 672 19]
      let jack :=
        [ranged b.ramArea.toNat 50 1000 20, ranged b.maxJack.toNat 10000 70000 21,
          ranged b.designLoad.toNat 100 3000 22, percent b.alignLoad.toNat 5 20 23,
          ranged b.rampRate.toNat 20 500 24, ranged b.creepLimit.toNat 10 500 25,
          ranged b.extMin.toNat 0 50000 26, ranged b.extMax.toNat 0 50000 27,
          (decide (b.extMin.toNat < b.extMax.toNat), 27, .order), ranged b.lockTol.toNat 2 10 28,
          ranged b.lossTol.toNat 2 15 29, ranged b.topUpPick.toNat 0 3 30, ranged b.groutOverPick.toNat 0 2 31,
          ranged b.extEnable.toNat 0 1 32, ranged b.extPick.toNat 0 2 33, ranged b.keepHonour.toNat 0 1 34]
      let start :=
        [(decide (b.startPhase ∈ [1, 2, 4, 5, 7]), 35, RefusalReason.range),
          (decide (b.startPhase = 4 → 1 ≤ b.cureHours.toNat ∧ b.cureHours.toNat ≤ 672), 36, .range),
          (b.startPhase != 7 || (percent b.lockOffLoad.toNat 50 110 37).1, 37, .range),
          ranged b.stepCount.toNat 3 10 38]
      let step (i : Nat) (x : StepIn) : List (Bool × Nat × RefusalReason) :=
        let before := steps.take i
        let last (kind : Byte) : Option Nat :=
          ((before.filter fun y => y.kind == kind).getLast?).map fun y => y.target.toNat
        let previous := ((before.getLast?).map fun y => y.target.toNat).getD b.alignLoad.toNat
        let target := x.target.toNat
        let change := max target previous - min target previous
        let counted := if x.kind = 2 then 3600 else if x.kind = 4 then 60 else x.hold.toNat
        [(decide (x.kind ∈ [1, 2, 3, 4]), 39 + 3 * i, .range),
          (decide (((x.kind = 1 ∨ x.kind = 2) ↔ last 2 = none) ∧ (x.kind = 4 ↔ i + 1 = steps.length)),
            39 + 3 * i, .order),
          (decide (((x.kind = 1 ∨ x.kind = 3) → 1 ≤ target)
              ∧ (x.kind = 2 → 10 * target ≤ 9 * (b.maxJack.toNat * b.ramArea.toNat / 10000)))
              && (x.kind != 2 || (percent target 100 160 0).1) && (x.kind != 4 || (percent target 50 110 0).1),
            40 + 3 * i, .range),
          (decide ((x.kind = 1 → (last 1).getD b.alignLoad.toNat < target)
              ∧ (x.kind = 2 → ∀ l ∈ last 1, l < target)
              ∧ (x.kind = 3 → target < (last 3).getD ((last 2).getD 0))
              ∧ (x.kind = 4 → target < (last 2).getD 0 ∧ ∀ u ∈ last 3, target < u)),
            40 + 3 * i, .order),
          (decide ((x.kind = 1 ∨ x.kind = 3) → 30 ≤ x.hold.toNat ∧ x.hold.toNat ≤ 900), 41 + 3 * i, .range),
          (decide (60 * change + b.rampRate.toNat * (counted + 300) ≤ b.rampRate.toNat * 5400), 41 + 3 * i, .fit)]
      let checks :=
        label ++ [ranged b.wall.toNat 1 65535 2, ranged b.rosterCount.toNat 0 12 4]
          ++ (roster.mapIdx number).flatten ++ work ++ jack ++ start ++ (steps.mapIdx step).flatten
      validate own b = (checks.find? fun c => !c.1).map fun c => c.2)

/-- A query that is taken puts one report for its source at the tail of the FIFO. STATUS gives the
status of that moment (ReportsShowTheState) and clears every lost latch. RECORD is answered OUT_OF_RANGE
for a slot above 8 or a part other than 0 of slot 0, with the installation record for slot 0, and with
the part of the image for parts 0 to 3 of slots 1 to 8 (ReportsShowTheState). A part above 3 of slots 1
to 8 is answered OK with a content that the spec does not state: a free value (log entry 32, DESIGN
CHOICE), for every value of which this holds. An unknown query is answered OUT_OF_RANGE. EXPORTED is
answered OUT_OF_RANGE for slot 0 and above 8, NOT_CLOSED, NUMBER_MISMATCH, OK without effect when
already exported, BUSY with jobs waiting, and OK with the flag set by one write job; the aftercare
monitor is told of that, and a top-up that waits with STORE_FULL asks afresh (StorePinQueueAndRetries).
Nothing else changes but the quiet measure. -/
def Obligations.QueriesAreAnsweredAsTheStateStands : Prop :=
  (∀ (dst src : Byte) (s : State), s.hears dst src → s.takes dst →
    exec (.statusQuery dst src) s = .next (State.finish
      { s with
        lif :=
          { s.lif with
            quiet := ⟨true, 0, 384⟩, fifo := s.lif.fifo ++ [⟨src, .status s.statusReport, 0⟩] }
        roster :=
          { s.roster with entries := s.roster.entries.map fun e => { e with lostLatch := false } } }))
  ∧ (∀ (dst src slot part : Byte) (s : State), s.hears dst src → s.takes dst →
      (8 < slot.toNat ∨ part.toNat ≤ 3 ∨ slot.toNat = 0) →
      exec (.recordQuery dst src slot part) s = .next (State.finish
        { s with
          lif :=
            { s.lif with
              quiet := ⟨true, 0, 384⟩
              fifo :=
                s.lif.fifo
                  ++ [⟨src,
                        if 8 < slot.toNat ∨ (slot.toNat = 0 ∧ part.toNat ≠ 0) then
                          .plain .outOfRange .record
                        else if slot.toNat = 0 then .installation s.store.image.inst
                        else partOf slot.toNat part.toNat (s.store.image.slot slot.toNat), 0⟩] } }))
  ∧ (∀ (dst src slot part : Byte) (s : State), s.hears dst src → s.takes dst →
      1 ≤ slot.toNat → slot.toNat ≤ 8 → 3 < part.toNat →
      exec (.recordQuery dst src slot part) s = .next (State.finish
        { s with
          free := s.free + 1
          lif :=
            { s.lif with
              quiet := ⟨true, 0, 384⟩
              fifo := s.lif.fifo ++ [⟨src, .unstated (Config.unstatedPart s.free), 0⟩] } }))
  ∧ (∀ (dst src what : Byte) (s : State), s.hears dst src → s.takes dst →
      exec (.queryUnknown dst src what) s = .next (State.finish
        { s with
          lif :=
            { s.lif with
              quiet := ⟨true, 0, 384⟩, fifo := s.lif.fifo ++ [⟨src, .plain .outOfRange (.other what), 0⟩] } }))
  ∧ (∀ (dst src slot : Byte) (number : Half) (a : Report) (s : State), s.hears dst src → s.takes dst →
      ((a = .plain .outOfRange .exported ∧ (slot.toNat = 0 ∨ 8 < slot.toNat))
        ∨ (1 ≤ slot.toNat ∧ slot.toNat ≤ 8
            ∧ ((a = .plain .notClosed .exported
                  ∧ ∀ r, s.store.image.slot slot.toNat = some r → r.isOpen = true)
                ∨ ∃ r, s.store.image.slot slot.toNat = some r ∧ r.isOpen = false
                    ∧ ((a = .plain .numberMismatch .exported ∧ r.number ≠ number)
                        ∨ (a = .exportedOk slot.toNat number ∧ r.number = number ∧ r.exported = true)
                        ∨ (a = .plain .busy .exported ∧ r.number = number ∧ r.exported = false
                            ∧ s.store.queue ≠ []))))) →
      exec (.exportedQuery dst src slot number) s = .next (State.finish
        { s with lif := { s.lif with quiet := ⟨true, 0, 384⟩, fifo := s.lif.fifo ++ [⟨src, a, 0⟩] } }))
  ∧ (∀ (dst src slot : Byte) (r : SlotRecord) (s : State), s.hears dst src → s.takes dst →
      1 ≤ slot.toNat → slot.toNat ≤ 8 → s.store.image.slot slot.toNat = some r → r.isOpen = false →
      r.exported = false → s.store.queue = [] →
      (s.pendingTopUp = false ∨ s.waitsWith (some .storeFull) = false) →
      exec (.exportedQuery dst src slot r.number) s = .next (State.finish
        { s with
          lif :=
            { s.lif with
              quiet := ⟨true, 0, 384⟩, fifo := s.lif.fifo ++ [⟨src, .exportedOk slot.toNat r.number, 0⟩] }
          store :=
            { s.store with
              image := s.store.image.editSlot slot.toNat fun x => { x with exported := true }
              queue := [.exported slot.toNat] } }))
  ∧ (∀ (dst src slot : Byte) (r : SlotRecord) (s : State), s.hears dst src → s.takes dst →
      1 ≤ slot.toNat → slot.toNat ≤ 8 → s.store.image.slot slot.toNat = some r → r.isOpen = false →
      r.exported = false → s.store.queue = [] →
      exec (.exportedQuery dst src slot r.number) s = .next (State.finish (State.retryStoreFull
        { s with
          lif :=
            { s.lif with
              quiet := ⟨true, 0, 384⟩, fifo := s.lif.fifo ++ [⟨src, .exportedOk slot.toNat r.number, 0⟩] }
          store :=
            { s.store with
              image := s.store.image.editSlot slot.toNat fun x => { x with exported := true }
              queue := [.exported slot.toNat] } })))

/-- A STATUS report carries the fields of Frame Formats as they stand: own number, 0 under a strap
fault; bound, HOLD, loss-excess flag; wall code and label of the binding, 0 and empty before one; group
mask and counters; phase, sub-state code (0 for none), top-up stage code (0 for none); the hold reason
of the waiting request, if any; step index (0 outside STRESSING) and top-up count; lease state, class
and stamp of the current ask, clock, number of deferred entries, ASK_LAPSES; latches, named channels,
first cause; the eight values; the store summary; the roster in order. The store summary counts FREE,
OPEN and CLOSED slots of the image and the CLOSED slots not exported that hold PASS, a FAIL verdict or
kind TOPUP_ONLY; it gives the test number counter, number and test number of the OPEN slot, the KEEP
pin, whether an opening would find a slot, and the jobs waiting. Of a test slot part 0 is the header (of
a FREE slot only its state), parts 1 and 2 points 1 to 12 and 13 to 24, part 3 the top-up entries; empty
where the slot holds none. What a binding-less or DETACHED controller shows in fields that the spec
leaves open is log entries 20 and 21. -/
def Obligations.ReportsShowTheState : Prop :=
  (∀ s : State, s.statusReport =
      { own := s.own.getD 0, bound := s.binding.isSome, hold := s.crew.hold, lossExcess := s.aft.lossExcess
        wall := if s.binding.isSome then s.par.wall else 0
        label := if s.binding.isSome then s.par.label else []
        groupMask := s.lif.groupMask, rxErrors := s.lif.rxErrors, txDrops := s.lif.txDrops
        queryDrops := s.lif.queryDrops, phase := s.crew.phase, sub := s.buildBeacon.sub
        stage :=
          match s.crew.phase, s.aft.sub, s.aft.stage with
          | .locked, some .topUp, some x => BitVec.ofNat 8 (stageCode x)
          | _, _, _ => 0
        holdReason :=
          match s.request.map Request.status with
          | some (.waiting h) => h
          | _ => none
        stepIndex := if s.crew.phase = .stressing then s.seq.step else 0
        topUpCount := s.aft.count, lease := s.lease.state
        ask := s.lease.ask.map fun a => (a.cls, a.stamp)
        clock := s.lease.clock, deferred := s.lease.deferred.length, askLapses := s.lease.askLapses
        latches := s.trip.latches, named := s.trip.named, firstCause := s.trip.firstCause
        jp := s.scan.jp, ext := s.scan.ext, lc := s.scan.lc, gp := s.scan.gp, gf := s.scan.gf
        hp := s.scan.hp, wp := s.scan.wp, ro := s.scan.ro, store := s.storeSummary
        roster := s.roster.entries })
  ∧ (∀ s : State,
      s.storeSummary.free = s.store.image.slots.countP (fun x => x == none)
      ∧ s.storeSummary.opened = s.store.image.slots.countP (fun x => x.any SlotRecord.isOpen)
      ∧ s.storeSummary.closed = s.store.image.slots.countP (fun x => x.any fun r => !r.isOpen)
      ∧ s.storeSummary.unexported =
          s.store.image.slots.countP (fun x => x.any fun r =>
            !r.isOpen && !r.exported
              && (r.kind == .topUpOnly || r.verdict == some .pass
                || r.verdict == some (.fail .failExtension) || r.verdict == some (.fail .failCreep)))
      ∧ s.storeSummary.counter = s.store.image.counter ∧ s.storeSummary.keepPin = s.store.keepPin
      ∧ s.storeSummary.wouldOpen = s.chooseSlot.isSome
      ∧ s.storeSummary.jobsWaiting = s.store.queue.length
      ∧ ((∀ r, some r ∈ s.store.image.slots → r.isOpen = false) → s.storeSummary.openSlot = none))
  ∧ (∀ (s : State) (pre post : List (Option SlotRecord)) (r : SlotRecord),
      s.store.image.slots = pre ++ some r :: post → r.isOpen = true →
      (∀ q, some q ∈ pre → q.isOpen = false) →
      s.storeSummary.openSlot = some (pre.length + 1, r.number))
  ∧ (∀ (slot : Nat) (r : SlotRecord),
      partOf slot 0 none = .freeSlot slot ∧ partOf slot 1 none = .points slot []
      ∧ partOf slot 2 none = .points slot [] ∧ partOf slot 3 none = .topUps slot []
      ∧ partOf slot 0 (some r) = .slotHead slot r
      ∧ partOf slot 1 (some r) = .points slot (r.points.take 12)
      ∧ partOf slot 2 (some r) = .points slot ((r.points.drop 12).take 12)
      ∧ partOf slot 3 (some r) = .topUps slot r.topUps)

/-- A transmitter that waits quiet takes, at the end of the wait, the reply batch if it holds an entry,
else the ask slot, else the alert slot, else the head of the report FIFO, which keeps its place, else
the beacon slot, with that frame's attempt count; the frame leaves its slot and the jabber measure of 8
ms starts. With every slot empty it is free. The end of a backoff makes the transmitter wait quiet with
its measure from 0. A frame sent without collision frees the transmitter, and a report leaves the head
of the FIFO. A jabber cut-off discards the frame, adds 1 to TX_DROPS and latches LINE_JABBER with the
value 0, after which the line interface is listen-only with every slot empty. What the latch does at the
blocks is ALatchSets. That what is left of a wait, a backoff or the drive measure passes for every timer
is log entry 3, and that QUIET_WAIT_END does nothing to a transmitter that does not wait quiet log entry
5, both the choice of the model. -/
def Obligations.TransmitterTakesAndEndsFrames : Prop :=
  (∀ s : State, s.lif.tx = .waitingQuiet →
    let l := (s.expire s.lif.quiet).lif
    let sent (l' : Lif) (f : OutFrame) (n : Nat) : Host.Outcome State Fault Refusal :=
      .next (State.finish
        { s.expire s.lif.quiet with lif := { l' with tx := .sending f n, drive := ⟨true, 0, 8000⟩ } })
    (s.lif.batch.frame ≠ [] →
      exec .quietWaitEnd s = sent { l with batch := ⟨[], 0⟩ } (.reply s.lif.batch.frame) s.lif.batch.attempts)
    ∧ (∀ f, s.lif.batch.frame = [] → s.lif.ask = some f →
        exec .quietWaitEnd s = sent { l with ask := none } (.ask f.frame) f.attempts)
    ∧ (∀ f, s.lif.batch.frame = [] → s.lif.ask = none → s.lif.alert = some f →
        exec .quietWaitEnd s = sent { l with alert := none } (.alert f.frame) f.attempts)
    ∧ (∀ r rest, s.lif.batch.frame = [] → s.lif.ask = none → s.lif.alert = none → s.lif.fifo = r :: rest →
        exec .quietWaitEnd s = sent l (.report r.dst r.report) r.attempts)
    ∧ (∀ f, s.lif.batch.frame = [] → s.lif.ask = none → s.lif.alert = none → s.lif.fifo = [] →
        s.lif.beacon = some f →
        exec .quietWaitEnd s = sent { l with beacon := none } (.beacon f.frame) f.attempts)
    ∧ (s.lif.batch.frame = [] → s.lif.ask = none → s.lif.alert = none → s.lif.fifo = [] →
        s.lif.beacon = none →
        exec .quietWaitEnd s = .next (State.finish { s.expire s.lif.quiet with lif := { l with tx := .free } })))
  ∧ (∀ s : State, s.lif.tx ≠ .waitingQuiet → exec .quietWaitEnd s = .next s.finish)
  ∧ (∀ (k : Nat) (s : State), s.lif.tx = .backingOff k →
    exec .backoffEnd s = .next (State.finish
      { s.expire s.lif.backoff with
        lif :=
          { (s.expire s.lif.backoff).lif with
            tx := .waitingQuiet, backoff := .off, quiet := ⟨true, 0, 384⟩ } }))
  ∧ (∀ (f : OutFrame) (n : Nat) (s : State), s.lif.tx = .sending f n → (∀ dst r, f ≠ .report dst r) →
      exec .transmitComplete s = .next (State.finish
        { s with lif := { s.lif with tx := .free, drive := .off, quiet := ⟨true, 0, 384⟩ } }))
  ∧ (∀ (dst : Byte) (r : Report) (n : Nat) (s : State), s.lif.tx = .sending (.report dst r) n →
      exec .transmitComplete s = .next (State.finish
        { s with
          lif :=
            { s.lif with
              tx := .free, drive := .off, quiet := ⟨true, 0, 384⟩, fifo := s.lif.fifo.tail } }))
  ∧ (∀ (f : OutFrame) (n : Nat) (s : State), s.lif.tx = .sending f n → s.latched .lineJabber = false →
      ∃ t, exec .jabberCutoff s = .next t
        ∧ t =
            State.finish (State.latch .lineJabber 0
              { s.expire s.lif.drive with
                lif :=
                  { (s.expire s.lif.drive).lif with
                    tx := .free, drive := .off, quiet := ⟨true, 0, 384⟩
                    fifo :=
                      match f with
                      | .report _ _ => s.lif.fifo.tail
                      | _ => s.lif.fifo
                    txDrops := if s.lif.txDrops = 65535#16 then s.lif.txDrops else s.lif.txDrops + 1 } })
        ∧ t =
            { s.expire s.lif.drive with
              lif := t.lif, lease := t.lease, placement := t.placement, grout := t.grout,
              seq := t.seq, aft := t.aft, scan := t.scan, trip := t.trip, drives := t.drives }
        ∧ t.trip.latches = s.trip.latches ++ [.lineJabber]
        ∧ t.lif.txDrops = (if s.lif.txDrops = 65535#16 then s.lif.txDrops else s.lif.txDrops + 1)
        ∧ t.listenOnly = true ∧ t.anySlot = false ∧ t.lif.tx = .free)

/-- At a collision before the twelfth attempt, the generator takes one draw, k is the register modulo 2
to the smaller of the attempt count and 6, and the transmitter backs off for k slots of 256 µs, or waits
quiet at once for k = 0. A reply batch is combined with the new batch and carries its own attempt count:
its neighbours come first, in order, then the new ones, and for a neighbour of both the new entry
stands; an ask, an alert or a beacon goes back to its slot when it is empty and is discarded without
counting when it is filled; a report stays at the head with its count; a beacon of a DETACHED controller
is discarded. At a collision that is the frame's twelfth attempt, TX_DROPS rises by 1 and stays at
65,535, the frame goes back to no slot, a report leaves the head of the FIFO, and the drawn backoff of 0
to 63 slots runs. In a controller that is listen-only nothing goes back, the slots are empty and the
transmitter is free. Everything else stays. That the frame is back in its slot from the collision on is
DEDUCED (log entry 11), and so is the keeping of a batch that has begun by the twelfth collision (log
entry 12, unsafe). A COLLISION while the controller is not sending changes nothing (log entry 5, the
choice of the model). -/
def Obligations.CollisionReturnsTheFrame : Prop :=
  (∀ (f : OutFrame) (n : Nat) (s : State), s.lif.tx = .sending f n → n + 1 < 12 → s.listenOnly = false →
      let rng := (List.range 16).foldl (fun x _ => rngStep x) s.lif.rng
      let k := rng.toNat % 2 ^ min (n + 1) 6
      ∃ t, exec .collision s = .next t
          ∧ t = { s with lif := t.lif, scan := t.scan, trip := t.trip, drives := t.drives }
          ∧ t.lif =
              { s.lif with
                rng := t.lif.rng, tx := t.lif.tx, backoff := t.lif.backoff, quiet := t.lif.quiet,
                batch := t.lif.batch, ask := t.lif.ask, alert := t.lif.alert, fifo := t.lif.fifo,
                beacon := t.lif.beacon, drive := .off }
          ∧ s.settles t
          ∧ t.lif.rng = rng ∧ t.lif.txDrops = s.lif.txDrops
        ∧ t.lif.tx = (if k = 0 then .waitingQuiet else .backingOff k)
        ∧ (k ≠ 0 → t.lif.backoff = ⟨true, 0, k * 256⟩)
        ∧ t.lif.quiet = ⟨true, 0, 384⟩
        ∧ t.lif.batch =
            (match f with
              | .reply es => ⟨combineBatch es s.lif.batch.frame, n + 1⟩
              | _ => s.lif.batch)
        ∧ t.lif.ask =
            (match f with
              | .ask a => if s.lif.ask = none then some ⟨a, n + 1⟩ else s.lif.ask
              | _ => s.lif.ask)
        ∧ t.lif.alert =
            (match f with
              | .alert a => if s.lif.alert = none then some ⟨a, n + 1⟩ else s.lif.alert
              | _ => s.lif.alert)
        ∧ t.lif.beacon =
            (match f with
              | .beacon b =>
                if s.crew.phase ≠ .detached ∧ s.lif.beacon = none then some ⟨b, n + 1⟩ else s.lif.beacon
              | _ => s.lif.beacon)
        ∧ (∀ dst r x rest, f = .report dst r → s.lif.fifo = x :: rest →
            t.lif.fifo = { x with attempts := n + 1 } :: rest)
        ∧ ((∀ dst r, f ≠ .report dst r) → t.lif.fifo = s.lif.fifo)
        ∧ t.lease = s.lease ∧ t.roster = s.roster ∧ t.trip.latches = s.trip.latches)
  ∧ ((∀ (f : OutFrame) (s : State), s.lif.tx = .sending f 11 → s.listenOnly = false →
      let rng := (List.range 16).foldl (fun x _ => rngStep x) s.lif.rng
      let k := rng.toNat % 64
      ∃ t, exec .collision s = .next t
          ∧ t = { s with lif := t.lif, scan := t.scan, trip := t.trip, drives := t.drives }
          ∧ t.lif =
              { s.lif with
                rng := t.lif.rng, tx := t.lif.tx, backoff := t.lif.backoff, quiet := t.lif.quiet,
                fifo := t.lif.fifo, txDrops := t.lif.txDrops, drive := .off }
          ∧ s.settles t
          ∧ t.lif.rng = rng
        ∧ t.lif.txDrops = (if s.lif.txDrops = 65535#16 then s.lif.txDrops else s.lif.txDrops + 1)
        ∧ t.lif.tx = (if k = 0 then .waitingQuiet else .backingOff k)
        ∧ t.lif.batch = s.lif.batch ∧ t.lif.ask = s.lif.ask ∧ t.lif.alert = s.lif.alert
        ∧ t.lif.beacon = s.lif.beacon
        ∧ (∀ dst r, f = .report dst r → t.lif.fifo = s.lif.fifo.tail)
        ∧ ((∀ dst r, f ≠ .report dst r) → t.lif.fifo = s.lif.fifo))
    ∧ (∀ s : State, s.sending = false → exec .collision s = .next s.finish))
  ∧ (∀ (f : OutFrame) (n : Nat) (s : State), s.lif.tx = .sending f n → s.listenOnly = true →
      exec .collision s = .next (State.finish
        { s with
          lif :=
            { s.lif with
              rng := (List.range 16).foldl (fun x _ => rngStep x) s.lif.rng
              tx := .free, backoff := .off, drive := .off, quiet := ⟨true, 0, 384⟩
              batch := ⟨[], 0⟩, ask := none, alert := none, fifo := [], beacon := none
              txDrops :=
                if n + 1 < 12 ∨ s.lif.txDrops = 65535#16 then s.lif.txDrops else s.lif.txDrops + 1 } }))
  ∧ (∀ returned new : List ReplyEntry,
      (combineBatch returned new).map ReplyEntry.target =
          returned.map ReplyEntry.target
            ++ (new.map ReplyEntry.target).filter (fun n => !(returned.map ReplyEntry.target).contains n)
      ∧ ∀ x ∈ combineBatch returned new,
          ((∃ y ∈ new, y.target = x.target) → x ∈ new) ∧ ((∀ y ∈ new, y.target ≠ x.target) → x ∈ returned))

/-- At power-on the register is 40,000 plus the own number, or 40,000 under a strap fault. A step shifts
it one place toward the most significant end and brings in the exclusive-or of positions 16, 14, 13 and
11. A draw is 16 steps, taken at a collision, and k is the register modulo 2^m. No command but COLLISION
and POWER_ON changes it. Different registers stay different through a draw, and a register that is not 0
does not become 0. -/
def Obligations.BackoffGenerator : Prop :=
  (∀ (straps : BitVec 6) (keep hold : Bool) (s : State), ∃ t, exec (.powerOn straps keep hold) s = .next t ∧
    t.lif.rng.toNat =
      if 1 ≤ straps.toNat ∧ straps.toNat ≤ 62 then 40000 + straps.toNat else 40000)
  ∧ (∀ r : Half,
      (∀ i, i < 15 → (rngStep r).getLsbD (i + 1) = r.getLsbD i)
      ∧ (rngStep r).getLsbD 0 =
          (((r.getLsbD 15 ^^ r.getLsbD 13) ^^ r.getLsbD 12) ^^ r.getLsbD 10))
  ∧ (∀ (f : OutFrame) (n : Nat) (s : State), s.lif.tx = .sending f n →
      ∃ t, exec .collision s = .next t ∧ t.lif.rng = rngDraw s.lif.rng
        ∧ (s.listenOnly = false →
            t.lif.tx =
              if (rngDraw s.lif.rng).toNat % 2 ^ min (n + 1) 6 = 0 then .waitingQuiet
              else .backingOff ((rngDraw s.lif.rng).toNat % 2 ^ min (n + 1) 6)))
  ∧ (∀ r : Half, rngDraw r = (List.range 16).foldl (fun x _ => rngStep x) r)
  ∧ (∀ (c : Instr) (s t : State), c ≠ .collision → (∀ a b d, c ≠ .powerOn a b d) → exec c s = .next t →
      t.lif.rng = s.lif.rng)
  ∧ (∀ r1 r2 : Half, r1 ≠ r2 → rngDraw r1 ≠ rngDraw r2)
  ∧ (∀ r : Half, r ≠ 0 → rngStep r ≠ 0)

/-- For every destination from 1 to 79, source from 1 to 62, kind and payload of at most 200 bytes, the
bytes of the frame (sync, delimiter, header, payload, check) fail no receive check, and the destination,
the source, the kind and the payload read from them are those that were sent. A change of any one byte
of the payload is found by the check; that the check register shifts toward its most significant end is
DEDUCED (log entry 22, unsafe). What the controller sends is such a frame: from its own number, to 63
or, for a REPORT, to the station that asked, with the kind code and the payload of Frame Formats (ASK,
WITHDRAW, LEAVE, ALERT, REPLY and BEACON byte by byte; unnamed flag bits are 0, log entry 34; the
present load of a BEACON is sent as its low 16 bits, DEDUCED, log entry 26). With 1 to 12 reply entries,
a roster of at most 12, at most 12 points and 3 top-up entries in a record part, every frame the
controller builds has an allowed size, at most 200 bytes, and passes every receive check at another
station. -/
def Obligations.SentFramesPassTheReceiveChecks : Prop :=
  (∀ (dst src kind : Byte) (payload : List Byte), 1 ≤ dst.toNat → dst.toNat ≤ 79 → 1 ≤ src.toNat →
    src.toNat ≤ 62 → payload.length ≤ 200 →
    rxFault (frameBytes dst src kind payload) = none
    ∧ burstDst (frameBytes dst src kind payload) = dst
    ∧ burstSrc (frameBytes dst src kind payload) = src
    ∧ burstKind (frameBytes dst src kind payload) = kind
    ∧ burstPayload (frameBytes dst src kind payload) = payload)
  ∧ (∀ (dst src kind x y : Byte) (pre post : List Byte), x ≠ y → (pre ++ x :: post).length ≤ 200 →
      crc (frameBody dst src kind (pre ++ x :: post)) ≠ crc (frameBody dst src kind (pre ++ y :: post)))
  ∧ (∀ (f : OutFrame) (n : Nat) (s : State), s.lif.tx = .sending f n →
      s.wireNow =
        match f with
        | .reply _ => frameBytes 63 (byteOf s.ownNumber) 3 f.payload
        | .ask (.ask c st k) => frameBytes 63 (byteOf s.ownNumber) 2 ([byteOf (classCode c)] ++ be32 st ++ [byteOf k])
        | .ask (.withdraw st) => frameBytes 63 (byteOf s.ownNumber) 4 (be32 st)
        | .ask .leave => frameBytes 63 (byteOf s.ownNumber) 5 []
        | .alert a =>
          frameBytes 63 (byteOf s.ownNumber) 7
            ([byteOf (causeCode a.cause), byteOf (phaseCode a.phase)] ++ be16 a.value)
        | .report dst _ => frameBytes dst (byteOf s.ownNumber) 10 f.payload
        | .beacon _ => frameBytes 63 (byteOf s.ownNumber) 1 f.payload)
  ∧ (∀ (f : OutFrame) (n own : Nat) (s : State), s.lif.tx = .sending f n → s.own = some own →
      (∀ es, f = .reply es → 1 ≤ es.length ∧ es.length ≤ 12) →
      (∀ b, f = .beacon b → b.roster.length ≤ 12) →
      (∀ dst r, f = .report dst r → 1 ≤ dst.toNat ∧ dst.toNat ≤ 62) →
      (∀ dst slot ps, f = .report dst (.points slot ps) → ps.length ≤ 12) →
      (∀ dst slot es, f = .report dst (.topUps slot es) → es.length ≤ 3) →
      (∀ dst r, f = .report dst (.status r) → r.roster.length ≤ 12) →
      f.payload.length ≤ 200 ∧ sizeAllowed f.kind f.payload = true ∧ rxFault s.wireNow = none
      ∧ burstSrc s.wireNow = byteOf own ∧ burstKind s.wireNow = f.kind ∧ burstPayload s.wireNow = f.payload)
  ∧ (∀ (es : List ReplyEntry) (b : Beacon),
      (OutFrame.reply es).payload =
          byteOf es.length
            :: es.flatMap (fun e =>
              byteOf e.target :: be32 e.stamp
                ++ [byteOf (replyVerdictCode e.verdict), byteOf (replyReasonCode e.reason)])
      ∧ (OutFrame.beacon b).payload =
          [byteOf (phaseCode b.phase), b.sub, if b.held then 1 else 0, byteOf (leaseCode b.lease),
            byteOf ((b.ask.map fun a => classCode a.1).getD 0)]
          ++ be32 ((b.ask.map Prod.snd).getD 0) ++ be32 b.clock ++ be16 (BitVec.ofNat 16 b.load)
          ++ be16 b.wall ++ [byteOf b.roster.length] ++ b.roster.map byteOf)

/-- When the ask timer expires in ASKING: with a member unanswered and the send count below 4, the count
rises by 1 and the ASK goes out with the same stamp; with no member unanswered the ASK goes out as it
was; the timer starts again in both (a listen-only controller places no frame in any of this). With a
member unanswered at send count 4 the ask lapses: WITHDRAW in the ask slot, the lease IDLE, ASK_LAPSES
up by 1, the re-ask delay of 20 s running, and what R44 grants in the reply batch and out of the
deferred list; a request without the abort flag waits with ASK_BACKOFF, one with it is presented again
at once. When the re-ask delay ends it stops; a request that waits with ASK_BACKOFF is presented, and
taken with a new stamp when the lease would take it; with no such request nothing else happens. When the
hold timer reaches 90 min it stops at its limit, LEASE_OVERRUN latches with the value 90, and the lease
keeps its state and its ask. That what is left of the timer passes for every timer is the choice of the
model (log entry 3). What the lease makes of a presented request is RequestsAreCheckedInOrder. -/
def Obligations.LeaseTimersRunOut : Prop :=
  (∀ (a : CurrentAsk) (s : State), s.lease.askTimer.on = true → s.lease.state = .asking →
    s.lease.ask = some a → (∃ m ∈ s.lease.required, m.mark = .unanswered) →
    a.count < 4 →
    exec .askTimer s = .next (State.finish
      { s.expire s.lease.askTimer with
        lif :=
          { (s.expire s.lease.askTimer).lif with
            ask :=
              if s.listenOnly then s.lif.ask else some ⟨.ask a.cls a.stamp (a.count + 1), 0⟩ }
        lease :=
          { (s.expire s.lease.askTimer).lease with
            ask := some { a with count := a.count + 1 }, askTimer := ⟨true, 0, 5000000⟩ } }))
  ∧ (∀ (a : CurrentAsk) (s : State), s.lease.askTimer.on = true → s.lease.state = .asking →
      s.lease.ask = some a → (∀ m ∈ s.lease.required, m.mark ≠ .unanswered) →
      exec .askTimer s = .next (State.finish
        { s.expire s.lease.askTimer with
          lif :=
            { (s.expire s.lease.askTimer).lif with
              ask := if s.listenOnly then s.lif.ask else some ⟨.ask a.cls a.stamp a.count, 0⟩ }
          lease := { (s.expire s.lease.askTimer).lease with askTimer := ⟨true, 0, 5000000⟩ } }))
  ∧ (∀ (a : CurrentAsk) (r : Request) (s : State), s.lease.askTimer.on = true → s.lease.state = .asking →
      s.lease.ask = some a → (∃ m ∈ s.lease.required, m.mark = .unanswered) → a.count = 4 →
      a.abort = false → s.request = some r →
      ∃ t, exec .askTimer s = .next t
        ∧ t =
            { s.expire s.lease.askTimer with
              lif := t.lif, lease := t.lease, seq := t.seq, aft := t.aft, scan := t.scan,
              trip := t.trip, drives := t.drives }
        ∧ t.lif =
            { (s.expire s.lease.askTimer).lif with
              ask := t.lif.ask, batch := t.lif.batch, tx := t.lif.tx }
        ∧ t.lease =
            { (s.expire s.lease.askTimer).lease with
              state := t.lease.state, ask := t.lease.ask, required := t.lease.required,
              askTimer := t.lease.askTimer, hold := t.lease.hold, askLapses := t.lease.askLapses,
              reask := t.lease.reask, deferred := t.lease.deferred }
        ∧ t.seq = { (s.expire s.lease.askTimer).seq with request := t.seq.request }
        ∧ t.aft = { (s.expire s.lease.askTimer).aft with request := t.aft.request }
        ∧ (s.expire s.lease.askTimer).settles t
        ∧ t.lease.state = .idle ∧ t.lease.ask = none ∧ t.lease.required = []
        ∧ t.lease.askTimer = .off ∧ t.lease.clock = s.lease.clock
        ∧ t.lease.askLapses =
            (if s.lease.askLapses = 65535#16 then s.lease.askLapses else s.lease.askLapses + 1)
        ∧ t.lease.reask = ⟨true, 0, 20000000⟩
        ∧ t.request = some { r with status := .waiting (some .askBackoff) }
        ∧ t.lif.ask = (if s.listenOnly then s.lif.ask else some ⟨.withdraw a.stamp, 0⟩)
        ∧ t.lease.deferred = s.keptInIdle ∧ t.lif.batch = s.batchGranting s.grantedInIdle)
  ∧ (∀ (a : CurrentAsk) (s : State), s.lease.askTimer.on = true → s.lease.state = .asking →
      s.lease.ask = some a → (∃ m ∈ s.lease.required, m.mark = .unanswered) → a.count = 4 →
      a.abort = true →
      let w := (s.expire s.lease.askTimer).withdrawn
      exec .askTimer s = .next (State.finish (State.present (State.setStatus (.waiting none)
        { w with
          lease :=
            { w.lease with
              reask := ⟨true, 0, 20000000⟩
              askLapses :=
                if s.lease.askLapses = 65535#16 then s.lease.askLapses else s.lease.askLapses + 1 } }))))

  ∧ (∀ s : State, s.lease.reask.on = true → s.waitsWith (some .askBackoff) = false →
    exec .reaskDelayEnd s = .next (State.finish
      { s.expire s.lease.reask with
        lease := { (s.expire s.lease.reask).lease with reask := .off } }))
  ∧ (∀ (r : Request) (s : State), s.lease.reask.on = true → s.request = some r →
      r.status = .waiting (some .askBackoff) →
      { s with lease := { s.lease with reask := .off } }.wouldTake r.abort → s.presentMembers ≠ [] →
      ∃ t, exec .reaskDelayEnd s = .next t
        ∧ t =
            { s.expire s.lease.reask with
              lif := t.lif, lease := t.lease, seq := t.seq, aft := t.aft, scan := t.scan,
              trip := t.trip, drives := t.drives }
        ∧ t.lif = { (s.expire s.lease.reask).lif with ask := t.lif.ask, tx := t.lif.tx }
        ∧ t.lease =
            { (s.expire s.lease.reask).lease with
              state := t.lease.state, clock := t.lease.clock, ask := t.lease.ask,
              required := t.lease.required, askTimer := t.lease.askTimer, reask := t.lease.reask }
        ∧ t.seq = { (s.expire s.lease.reask).seq with request := t.seq.request }
        ∧ t.aft = { (s.expire s.lease.reask).aft with request := t.aft.request }
        ∧ (s.expire s.lease.reask).settles t
        ∧ t.lease.state = .asking ∧ t.lease.reask = .off
        ∧ t.lease.clock = s.lease.clock + 1
        ∧ t.lease.ask = some ⟨r.cls, r.abort, s.lease.clock + 1, 1⟩
        ∧ t.request = some { r with status := .taken })
  ∧ (∀ s : State, s.lease.hold.on = true → s.lease.state = .holding → s.latched .leaseOverrun = false →
      ∃ t, exec .holdTimerOverrun s = .next t
        ∧ t =
            { s.expire s.lease.hold with
              lif := t.lif, lease := t.lease, placement := t.placement, grout := t.grout,
              seq := t.seq, aft := t.aft, scan := t.scan, trip := t.trip, drives := t.drives }
        ∧ t.lif = { (s.expire s.lease.hold).lif with alert := t.lif.alert, tx := t.lif.tx }
        ∧ t.lease = { (s.expire s.lease.hold).lease with hold := t.lease.hold }
        ∧ t.trip.latches = s.trip.latches ++ [.leaseOverrun]
        ∧ t.lease.state = .holding ∧ t.lease.ask = s.lease.ask ∧ t.lease.required = s.lease.required
        ∧ t.lease.hold = ⟨false, s.lease.hold.limit, s.lease.hold.limit⟩
        ∧ (s.trip.latches = [] →
            t.trip.firstCause = some ⟨.leaseOverrun, s.crew.phase, 90, none⟩)
        ∧ (s.listenOnly = false → t.lif.alert = some ⟨⟨.leaseOverrun, s.crew.phase, 90⟩, 0⟩)
        ∧ t.drives.pump = false)
  ∧ (∀ (r : Request) (s : State), s.lease.reask.on = true → s.request = some r →
      r.status = .waiting (some .askBackoff) →
      exec .reaskDelayEnd s = .next (State.finish (State.present
        { s.expire s.lease.reask with
          lease := { (s.expire s.lease.reask).lease with reask := .off } })))

/-- A request for a latch that is clear sets it; one for a latch that is set changes nothing. Setting it
adds it to the set and, for SENSOR_FAULT, the channel to the named ones; records the first cause when no
latch was set; returns the deglitch time of its own condition to 0; and places the ALERT (cause,
published phase, value) unless listen-only. LINE_JABBER and DUPLICATE_ID instead make the line interface
listen-only with every slot and the report FIFO empty and a transmitter that is not sending free. Then
the blocks hear it. An ask without the abort flag is withdrawn: WITHDRAW in the ask slot unless
listen-only, IDLE with no ask and no required set, ask and hold timers off, what R44 grants in the reply
batch and out of the deferred list, and the request waits with HELD; any other lease stays. In PLACING,
PAYOUT and LIMIT_OFF become WAIT_GO, off-time stopped, slack time 0. In GROUTING the sag time is 0. In
STRESSING the trip mark is set, and RAMP and HOLD_LOAD become HALTED, hold and ramp timers stopped,
nothing called for; in TOPUP, LIFT and RAMP likewise. Everything else of every block stays. -/
def Obligations.ALatchSets : Prop :=
  (∀ (l : Latch) (v : Half) (ch : Option Channel) (s : State),
      let mutes : Prop := l = .lineJabber ∨ l = .duplicateId
      let u : State :=
        { s with
          trip :=
            { s.trip with
              latches := if l ∈ s.trip.latches then s.trip.latches else s.trip.latches ++ [l]
              named :=
                match ch with
                | none => s.trip.named
                | some c => if c ∈ s.trip.named then s.trip.named else s.trip.named ++ [c]
              firstCause :=
                if s.trip.latches = [] then some ⟨l.cause, s.crew.phase, v, ch⟩ else s.trip.firstCause
              jackTime := if l = .jackOver then 0 else s.trip.jackTime
              groutTime := if l = .groutOver then 0 else s.trip.groutTime
              extTime := if l = .extRunaway then 0 else s.trip.extTime }
          lif :=
            if l = .lineJabber ∨ l = .duplicateId then
              { s.lif with
                batch := ⟨[], 0⟩, ask := none, alert := none, fifo := [], beacon := none, backoff := .off
                tx :=
                  match s.lif.tx with
                  | .sending f n => .sending f n
                  | _ => .free }
            else if s.listenOnly then s.lif
            else { s.lif with alert := some ⟨⟨l.cause, s.crew.phase, v⟩, 0⟩ } }
      let w : State :=
        if s.lease.state = .asking ∧ s.askAbort = false then
          State.setStatus (.waiting (some .held)) u.withdrawn
        else u
      s.setLatch l v ch =
          { w with
            placement :=
              if s.crew.phase = .placing ∧ (s.placement.sub = some .payout ∨ s.placement.sub = some .limitOff) then
                { s.placement with sub := some .waitGo, offTime := .off, slackTime := 0 }
              else s.placement
            grout := if s.crew.phase = .grouting then { s.grout with sagTime := 0 } else s.grout
            seq :=
              if s.crew.phase = .stressing then
                if s.seq.sub = some .ramp ∨ s.seq.sub = some .holdLoad then
                  { w.seq with
                    tripMark := true, sub := some .halted, holdTimer := .off
                    jack := { w.seq.jack with ramp := .off, raise := false, lower := false } }
                else { w.seq with tripMark := true }
              else w.seq
            aft :=
              if s.crew.phase = .locked ∧ s.aft.sub = some .topUp
                  ∧ (s.aft.stage = some .lift ∨ s.aft.stage = some .ramp) then
                { w.aft with
                  stage := some .halted
                  jack := { w.aft.jack with ramp := .off, raise := false, lower := false } }
              else w.aft }
        ∧ (s.lease.state = .asking → s.askAbort = false →
            (s.setLatch l v ch).lease =
              { s.lease with
                state := .idle, ask := none, required := [], askTimer := .off, hold := .off
                deferred := s.keptInIdle }
            ∧ (s.setLatch l v ch).request =
                s.request.map (fun r => { r with status := .waiting (some .held) })
            ∧ (s.listenOnly = false → ¬mutes →
                (s.setLatch l v ch).lif.ask = some ⟨.withdraw s.askStamp, 0⟩
                ∧ (s.setLatch l v ch).lif.batch = s.batchGranting s.grantedInIdle))
        ∧ (s.lease.state ≠ .asking ∨ s.askAbort = true → (s.setLatch l v ch).lease = s.lease)
        ∧ (mutes → (s.setLatch l v ch).listenOnly = true ∧ (s.setLatch l v ch).anySlot = false))
  ∧ (∀ (l : Latch) (v : Half) (s : State),
      (s.latched l = false → s.latch l v = s.setLatch l v none) ∧ (s.latched l = true → s.latch l v = s))

/-- JACK_OVER with JP in use and one scan above the max jack pressure latches with JP in units of 10
kPa; GROUT_OVER in GROUTING at its deglitch time latches with GP; EXT_RUNAWAY in HOLD_LOAD at its
deglitch time latches with the rise over the window; BREAK_IN in PLACING at 1 s, which is ten scans (log
entry 15), latches with GP. SENSOR_FAULT names a channel in use whose rail time has reached 1 s, with
the channel number as value. A value is sent as its low 16 bits (log entry 25). A command whose
condition is not due changes nothing (log entry 5), and a latch that a scan brings due is taken by its
own command or by the next scan (log entry 4): both the choice of the model. The times are measured as
ScanMeasuresAndHandsOn says. What a latch does at the blocks is ALatchSets. -/
def Obligations.ScanBringsTripsDue : Prop :=
  (∀ s : State, s.inUse .jp = true → s.latched .jackOver = false → 1 ≤ s.trip.jackTime →
    exec .jackOver s = .next (s.latch .jackOver (BitVec.ofNat 16 (s.scan.jp.toNat / 10))).finish)
  ∧ (∀ s : State, s.crew.phase = .grouting → s.latched .groutOver = false → 1 ≤ s.trip.groutTime →
      s.par.groutScans ≤ s.trip.groutTime →
      exec .groutOver s = .next (s.latch .groutOver (BitVec.ofInt 16 s.scan.gp)).finish)
  ∧ (∀ (s : State) (last first : Int) (rest : List Int), s.crew.phase = .stressing →
      s.seq.sub = some .holdLoad → s.latched .extRunaway = false → 1 ≤ s.trip.extTime →
      s.par.extScans ≤ s.trip.extTime → s.trip.window = last :: rest → s.trip.window[60]? = some first →
      exec .extRunaway s = .next (s.latch .extRunaway (BitVec.ofInt 16 (last - first))).finish)
  ∧ (∀ s : State, s.crew.phase = .placing → s.latched .breakIn = false → 10 ≤ s.placement.breakTime →
      exec .breakIn s = .next (s.latch .breakIn (BitVec.ofInt 16 s.scan.gp)).finish)
  ∧ (∀ (c : Channel) (s : State), s.inUse c = true → s.named c = false → 10 ≤ s.railTime c →
      ∃ t, exec (.sensorFault c) s = .next t
        ∧ t =
            State.finish (State.setLatch .sensorFault (BitVec.ofNat 16 (channelCode c)) (some c)
              { s with scan := { s.scan with railTimes := s.scan.railTimes.set (channelCode c) 0 } })
        ∧ t =
            { s with
              lif := t.lif, lease := t.lease, placement := t.placement, grout := t.grout,
              seq := t.seq, aft := t.aft, scan := t.scan, trip := t.trip, drives := t.drives }
        ∧ t.trip.named = s.trip.named ++ [c]
        ∧ t.trip.latches =
            (if s.latched .sensorFault then s.trip.latches else s.trip.latches ++ [.sensorFault])
        ∧ t.trip.firstCause =
            (if s.trip.latches = [] then
                some ⟨.sensorFault, s.crew.phase, BitVec.ofNat 16 (channelCode c), some c⟩
              else s.trip.firstCause)
        ∧ (s.listenOnly = false →
            t.lif.alert =
              some ⟨⟨.sensorFault, s.crew.phase, BitVec.ofNat 16 (channelCode c)⟩, 0⟩)
        ∧ t.crew = s.crew ∧ t.roster = s.roster ∧ t.store = s.store)
  ∧ (∀ s : State,
      (s.inUse .jp = false ∨ s.latched .jackOver = true ∨ s.trip.jackTime = 0 →
        exec .jackOver s = .next s.finish)
      ∧ (s.crew.phase ≠ .grouting ∨ s.latched .groutOver = true ∨ s.trip.groutTime < s.par.groutScans →
        exec .groutOver s = .next s.finish)
      ∧ (s.seqIn .holdLoad = false ∨ s.latched .extRunaway = true ∨ s.trip.extTime < s.par.extScans →
        exec .extRunaway s = .next s.finish)
      ∧ (s.crew.phase ≠ .placing ∨ s.latched .breakIn = true ∨ s.placement.breakTime < 10 →
        exec .breakIn s = .next s.finish)
      ∧ (∀ c, s.inUse c = false ∨ s.named c = true ∨ s.railTime c < 10 →
        exec (.sensorFault c) s = .next s.finish))

/-- In every state SCAN_PUBLISH completes; the seven analogue values are the ones converted, RO rises by
the pulses modulo 65,536, or stays when its loop is at its rail (the pulses of that interval are not
counted: log entry 43, the choice of the model), and the rail marks are those of the scan. In SETUP,
CURING, CURED, REJECTED and DETACHED 100 ms pass, the values are published, LC is kept as the latest
trusted one unless SENSOR_FAULT names it, no latch sets, the store and the binding stay, and lease,
roster, crew inputs and operating blocks are as time leaves them. A scan that passes the end of a timer
(the cure timer in CURING) leaves the timer at its limit for its own command: the choice of the model
(log entry 3). The binding and the waiting commands stay in every state. -/
def Obligations.ScanPublishesItsValues : Prop :=
  (∀ (v : ScanSet) (s : State), ∃ t, exec (.scanPublish v) s = .next t
        ∧ t =
            { s with
              free := t.free, lif := t.lif, lease := t.lease, crew := t.crew,
              placement := t.placement, grout := t.grout, seq := t.seq, aft := t.aft,
              store := t.store, roster := t.roster, scan := t.scan, trip := t.trip,
              drives := t.drives }
        ∧ t.scan.jp = v.jp ∧ t.scan.ext = v.ext ∧ t.scan.lc = v.lc ∧ t.scan.gp = v.gp ∧ t.scan.gf = v.gf
    ∧ t.scan.hp = v.hp ∧ t.scan.wp = v.wp ∧ t.scan.rails = v.rails
    ∧ t.scan.ro = (if v.rails.getLsbD 7 then s.scan.ro else s.scan.ro + v.pulses))
  ∧ (∀ (v : ScanSet) (s : State),
      (s.crew.phase = .setup ∨ s.crew.phase = .curing ∨ s.crew.phase = .cured ∨ s.crew.phase = .rejected
        ∨ s.crew.phase = .detached) →
      ∃ t, exec (.scanPublish v) s = .next t
        ∧ t = { s.elapse 100000 with lif := t.lif, scan := t.scan, trip := t.trip, drives := t.drives }
        ∧ t.lif = { (s.elapse 100000).lif with tx := t.lif.tx }
        ∧ t.lease = (s.elapse 100000).lease ∧ t.roster = (s.elapse 100000).roster
        ∧ t.crew = (s.elapse 100000).crew ∧ t.placement = (s.elapse 100000).placement
        ∧ t.grout = (s.elapse 100000).grout ∧ t.seq = (s.elapse 100000).seq ∧ t.aft = (s.elapse 100000).aft
        ∧ t.store = s.store ∧ t.binding = s.binding ∧ t.trip.latches = s.trip.latches
        ∧ t.trip.named = s.trip.named ∧ t.trip.firstCause = s.trip.firstCause
        ∧ t.scan.lcTrusted = (if s.named .lc then s.scan.lcTrusted else v.lc))

/-- SCAN_PUBLISH first takes what earlier scans brought due and no command has taken yet, then lets 100
ms pass, publishes and measures the set, and hands it to the block of the phase. Taken first, each as
its own command would take it: channels by number, JACK_OVER, GROUT_OVER, EXT_RUNAWAY, BREAK_IN, clean
distance, placement, slack, volume limit or refusal, fill, sag, clean time, the setting alert, low and
recovery time, a settle to be read (log entry 4); with nothing due, nothing. Published: the values, the
rail marks, RO with the pulses unless at its rail (log entry 43), and as trusted LC the LC of a scan
that SENSOR_FAULT does not name it at and does not come due for it (log entry 17). Measured, for a
channel in use, not named and at its rail: its rail time, up to 1 s; else 0. JACK_OVER, GROUT_OVER and
EXT_RUNAWAY, where in use, not named, not latched and beyond the threshold: their deglitch time, up to
its end; else 0 (the scan that brings a naming due still counts: log entry 41). In HOLD_LOAD with the
enable set, the window takes EXT, latest first, 61 values at most; else it is empty. Where the scan
brings no latch due the block alone acts; else latch first or block first is a free value (log entry 8).
A scan counts as 0.1 s (log entry 15); ScanInPlacing to ScanInLocked say what each block does; another
phase has none. Values are sent as 16 bits (log entry 25). 4, 8 and 43 are DESIGN CHOICE, 15, 17, 25 and
41 DEDUCED. -/
def Obligations.ScanMeasuresAndHandsOn : Prop :=
  (∀ (v : ScanSet) (s : State),
    let rail (c : Channel) : Nat :=
      if s.inUse c = true ∧ v.rails.getLsbD (channelCode c) = true ∧ s.named c = false then
        min 10 (s.railTime c + 1)
      else 0
    let window := if s.par.extEnable = true ∧ s.seqIn .holdLoad = true then (v.ext :: s.trip.window).take 61 else []
    let rise : Int := (window[60]?.map fun first => v.ext - first).getD 0
    s.publish v =
      { s with
        scan :=
          { jp := v.jp, ext := v.ext, lc := v.lc, gp := v.gp, gf := v.gf, hp := v.hp, wp := v.wp
            ro := if v.rails.getLsbD 7 then s.scan.ro else s.scan.ro + v.pulses, rails := v.rails
            railTimes := [rail .jp, rail .ext, rail .lc, rail .gp, rail .gf, rail .hp, rail .wp, rail .ro]
            lcTrusted := if s.named .lc = false ∧ rail .lc < 10 then v.lc else s.scan.lcTrusted }
        trip :=
          { s.trip with
            window
            jackTime :=
              if s.inUse .jp = true ∧ s.named .jp = false ∧ s.latched .jackOver = false
                  ∧ (s.par.maxJack : Int) < v.jp then
                min 1 (s.trip.jackTime + 1)
              else 0
            groutTime :=
              if s.crew.phase = .grouting ∧ s.named .gp = false ∧ s.latched .groutOver = false
                  ∧ (s.par.groutMax : Int) < v.gp then
                min s.par.groutScans (s.trip.groutTime + 1)
              else 0
            extTime :=
              if s.named .ext = false ∧ s.latched .extRunaway = false ∧ (20 : Int) < rise then
                min s.par.extScans (s.trip.extTime + 1)
              else 0 } })
  ∧ (∀ (v : ScanSet) (s : State),
      let p := (s.takeOverdue.finish.elapse 100000).publish v
      let pulses := (p.scan.ro - s.scan.ro).toNat
      (p.latchDue = false → exec (.scanPublish v) s = .next (State.finish (p.consume pulses)))
      ∧ (p.latchDue = true →
          exec (.scanPublish v) s =
              .next (State.finish (State.consume pulses (State.takeLatches { p with free := p.free + 1 })))
          ∨ exec (.scanPublish v) s =
              .next (State.finish (State.consume pulses { p with free := p.free + 1 }))))
  ∧ (∀ s : State, s.latchDue = false → s.takeLatches = s)
  ∧ (∀ s : State, s.latchDue = false → s.breakInDue = false →
      (s.crew.phase = .placing → s.placement.cleanDist < 200 ∧ s.placement.slackTime < 20) →
      s.placementDue = false → s.volumeDue = false → s.refusalDue = false → s.fillDue = false →
      (s.crew.phase = .grouting → s.grout.sagTime < 20 ∧ s.grout.cleanTime < 600) →
      (s.crew.phase = .setting → s.grout.breakTime < 10) → s.lowDue = false → s.recoveryDue = false →
      s.seq.jack.readDue = false → s.aft.jack.readDue = false → s.takeOverdue = s)
  ∧ (∀ (pulses : Nat) (s : State),
      (s.crew.phase = .setup ∨ s.crew.phase = .curing ∨ s.crew.phase = .cured ∨ s.crew.phase = .rejected
        ∨ s.crew.phase = .detached) →
      s.consume pulses = s)
  ∧ (∀ s : State,
      let sensor (t : State) (c : Channel) : State :=
        if t.inUse c = true ∧ t.named c = false ∧ 10 ≤ t.railTime c then
          State.setLatch .sensorFault (BitVec.ofNat 16 (channelCode c)) (some c)
            { t with scan := { t.scan with railTimes := t.scan.railTimes.set (channelCode c) 0 } }
        else t
      let a := [Channel.jp, .ext, .lc, .gp, .gf, .hp, .wp, .ro].foldl sensor s
      let b :=
        if a.inUse .jp = true ∧ a.latched .jackOver = false ∧ 1 ≤ a.trip.jackTime then
          a.latch .jackOver (BitVec.ofNat 16 (a.scan.jp.toNat / 10))
        else a
      let c :=
        if b.crew.phase = .grouting ∧ b.latched .groutOver = false ∧ 1 ≤ b.trip.groutTime
            ∧ b.par.groutScans ≤ b.trip.groutTime then
          b.latch .groutOver (BitVec.ofInt 16 b.scan.gp)
        else b
      s.takeLatches =
        if c.crew.phase = .stressing ∧ c.seq.sub = some .holdLoad ∧ c.latched .extRunaway = false
            ∧ 1 ≤ c.trip.extTime ∧ c.par.extScans ≤ c.trip.extTime then
          c.latch .extRunaway
            (BitVec.ofInt 16 ((c.trip.window[60]?.map fun first => c.trip.window.headD 0 - first).getD 0))
        else c)
  ∧ (∀ s : State,
      let a := s.takeLatches.breakInEvent.cleanDistanceEvent.placementEvent.slackEvent
      let b := a.refusalEvent.fillEvent.sagEvent.cleanTimeEvent.settingEvent
      s.takeOverdue = b.lowEvent.recoveryEvent.settleReadEvent.topUpReadEvent)
  ∧ (∀ s : State,
      exec .breakIn s = .next (State.finish s.breakInEvent)
      ∧ exec .cleanDistanceReached s = .next (State.finish s.cleanDistanceEvent)
      ∧ exec .placementComplete s = .next (State.finish s.placementEvent)
      ∧ exec .slackFound s = .next (State.finish s.slackEvent)
      ∧ exec .refusal s = .next (State.finish s.refusalEvent)
      ∧ (s.volumeDue = true → s.refusalEvent = s.volumeEvent)
      ∧ exec .volumeLimit s = .next (State.finish s.volumeEvent)
      ∧ exec .fillComplete s = .next (State.finish s.fillEvent)
      ∧ exec .headerSag s = .next (State.finish s.sagEvent)
      ∧ exec .cleanTimeReached s = .next (State.finish s.cleanTimeEvent)
      ∧ exec .settingBreakthrough s = .next (State.finish s.settingEvent)
      ∧ exec .lowTimeReached s = .next (State.finish s.lowEvent)
      ∧ exec .recoveryTimeReached s = .next (State.finish s.recoveryEvent)
      ∧ (s.seq.jack.readDue = true → exec .settleEnd s = .next (State.finish s.settleReadEvent))
      ∧ (s.seq.jack.readDue = false → s.settleReadEvent = s)
      ∧ (s.aft.jack.readDue = true → exec .topupSettleEnd s = .next (State.finish s.topUpReadEvent))
      ∧ (s.aft.jack.readDue = false → s.topUpReadEvent = s))

/-- In PLACING with no channel at its rail and nothing but the clean distance overdue, a scan adds the
pulses to rope-out, up to 65,535, and in PAYOUT to the clean distance, up to 200; GP above the threshold
adds 0.1 s to the breakthrough time. A clean distance that stood at 200 has set the consecutive-limit
count to 0. In PAYOUT with HOLD off and no latch, where the scan brings neither the breakthrough nor the
completion due: WP above the pull limit is a limit event, which makes the sub-state LIMIT_OFF with the
picked off-time and the consecutive count one up (from 0 when the clean distance has reached 200: log
entry 16), and the fifth in a row latches WINCH_JAM with the rope-out, its low 16 bits, as value
(ALatchSets) and returns to WAIT_GO with the count 0; A scan under a SENSOR_FAULT naming GP returns the
breakthrough time to 0 and latches no BREAK_IN (log entry 45, DEDUCED). WP below the slack threshold
adds 0.1 s to the slack time and any other WP returns it to 0. Every other block is as time leaves it,
but for what WINCH_JAM does to the alert slot, the trip record and a lease that is ASKING; what is
published and measured is ScanMeasuresAndHandsOn. The choices of the model in this: a scan is 0.1 s of
slack and breakthrough time (log entry 15, DEDUCED, unsafe), what falls due is left for its own command
or the next scan (log entry 4), and the pulses belong to the sub-state that stands at the scan (log
entry 35). -/
def Obligations.ScanInPlacing : Prop :=
  (∀ (v : ScanSet) (s : State), s.crew.phase = .placing → v.rails = 0 →
    s.scan.railTimes = [0, 0, 0, 0, 0, 0, 0, 0] → s.trip.named = [] →
    s.placement.breakTime < 10 → s.placement.ropeOut < s.par.tendonLength →
    s.placement.slackTime < 20 →
    let rope := min 65535 (s.placement.ropeOut + v.pulses.toNat)
    let clean :=
      if s.placement.sub = some .payout then min 200 (s.placement.cleanDist + v.pulses.toNat)
      else s.placement.cleanDist
    let count := if 200 ≤ s.placement.cleanDist then 0 else s.placement.limitCount
    let broken := if (s.par.breakthrough : Int) < v.gp then s.placement.breakTime + 1 else 0
    let testing :=
      s.placement.sub = some .payout ∧ s.crew.hold = false ∧ s.held = false ∧ rope < s.par.tendonLength
        ∧ (broken < 10 ∨ s.latched .breakIn = true)
    let p := State.atScan v { s with placement := { s.placement with limitCount := count } }
    let u : State :=
      { p with placement := { p.placement with ropeOut := rope, cleanDist := clean, breakTime := broken } }
    let n := (if 200 ≤ clean then 0 else count) + 1
    let limited : Placement :=
      { u.placement with
        cleanDist := 0, slackTime := 0
        limitEvents :=
          if s.placement.limitEvents = 65535#16 then s.placement.limitEvents else s.placement.limitEvents + 1 }
    (¬testing → exec (.scanPublish v) s = .next (State.finish u))
    ∧ (testing → v.wp ≤ (s.par.pullLimit : Int) →
        exec (.scanPublish v) s = .next (State.finish
          { u with
            placement :=
              { u.placement with
                slackTime := if v.wp < (s.par.slack : Int) then s.placement.slackTime + 1 else 0 } }))
    ∧ (testing → (s.par.pullLimit : Int) < v.wp → n < 5 →
        exec (.scanPublish v) s = .next (State.finish
          { u with
            placement :=
              { limited with
                sub := some .limitOff, limitCount := n, offTime := ⟨true, 0, s.par.offTimeUs⟩ } }))
    ∧ (testing → (s.par.pullLimit : Int) < v.wp → 5 ≤ n →
        exec (.scanPublish v) s = .next (State.finish (State.latch .winchJam (BitVec.ofNat 16 rope)
          { u with placement := { limited with sub := some .waitGo, limitCount := 0 } })))
    ∧ ∃ t, exec (.scanPublish v) s = .next t
        ∧ t =
            { s.elapse 100000 with
              lif := t.lif, lease := t.lease, placement := t.placement, scan := t.scan,
              trip := t.trip, drives := t.drives }
        ∧ (s.lease.state ≠ .asking →
            t.lease = (s.elapse 100000).lease
            ∧ t.lif = { (s.elapse 100000).lif with alert := t.lif.alert, tx := t.lif.tx })
        ∧ t.placement.ropeOut = rope ∧ t.placement.breakTime = broken ∧ t.trip.named = s.trip.named
        ∧ ((testing → (s.par.pullLimit : Int) < v.wp → n < 5) →
            t.lif = { (s.elapse 100000).lif with tx := t.lif.tx }
            ∧ t.lease = (s.elapse 100000).lease ∧ t.trip.latches = s.trip.latches
            ∧ t.trip.firstCause = s.trip.firstCause)
        ∧ (testing → (s.par.pullLimit : Int) < v.wp → t.drives.winch = false)
        ∧ (testing → (s.par.pullLimit : Int) < v.wp → 5 ≤ n →
            (s.latched .winchJam = false → t.trip.latches = s.trip.latches ++ [.winchJam]
              ∧ (s.listenOnly = false →
                  t.lif.alert = some ⟨⟨.winchJam, .placing, BitVec.ofNat 16 rope⟩, 0⟩))
            ∧ (s.trip.latches = [] →
                t.trip.firstCause = some ⟨.winchJam, .placing, BitVec.ofNat 16 rope, none⟩)))
  ∧ (∀ (v : ScanSet) (s : State), s.crew.phase = .placing → s.named .gp = true → s.breakInDue = false →
      s.placementDue = false →
      ∃ t, exec (.scanPublish v) s = .next t
        ∧ t.crew.phase = .placing ∧ t.placement.breakTime = 0 ∧ t.latched .breakIn = s.latched .breakIn)

/-- In GROUTING with no channel at its rail, GP at or below its maximum and none of the volume, refusal,
fill and sag conditions overdue: in every sub-state but WAIT_GO the flow is added to the remainder
(nothing below 0), and each 600 of it is 0.1 L of volume. In PRESS with the valve modulated (HOLD off,
no latch) the opening goes 5 points up below the stage pressure, down above it, within 0 to 100, and a
flow below the refusal flow adds 0.1 s to the refusal timer, any other sets it to 0. With the valve open
and where the scan brings neither the volume limit nor refusal due, a header pressure below its minimum
adds 0.1 s to the sag time and sets the clean time to 0; any other sets the sag time to 0 and adds 0.1 s
to the clean time, up to 60 s (log entry 15, DEDUCED). Under HOLD or HELD the valve is closed: only the
flow counts. A channel that SENSOR_FAULT names is not used: no flow, no adjustment, no header measure. A
clean time that stood at 60 s in FILL or PRESS has set the consecutive-yield count to 0. Nothing else
changes but what ScanMeasuresAndHandsOn says. The choices of the model: what falls due is left for its
own command (log entries 4, 29), what passes a timer's end waits there (log entry 3), the adjustment
comes before the tests of the same scan (log entry 36). -/
def Obligations.ScanInGrouting : Prop :=
  ∀ (v : ScanSet) (s : State), s.crew.phase = .grouting → v.rails = 0 →
    s.scan.railTimes = [0, 0, 0, 0, 0, 0, 0, 0] → v.gp ≤ (s.par.groutMax : Int) → s.trip.groutTime = 0 →
    s.volumeDue = false → s.refusalDue = false → s.fillDue = false → s.grout.sagTime < 20 →
    let filling := s.grout.sub = some .fill ∨ s.grout.sub = some .press
    let counting := filling ∨ s.grout.sub = some .yielding ∨ s.grout.sub = some .supplyWeak
    let opened := filling ∧ s.crew.hold = false ∧ s.held = false
    let moving := s.grout.sub = some .press ∧ s.crew.hold = false ∧ s.held = false
    let sum := s.grout.remainder + v.gf.toNat
    let volume :=
      if counting ∧ s.named .gf = false then min 1000000 (s.grout.volume + sum / 600) else s.grout.volume
    let refusal :=
      if moving then (if v.gf < (s.par.refusalFlow : Int) then s.grout.refusalTime + 1 else 0)
      else s.grout.refusalTime
    let ends :=
      filling ∧ 10 * s.par.volumeLimit ≤ volume
        ∨ s.grout.sub = some .press ∧ 600 * s.par.refusalTime ≤ refusal
    let looking := opened ∧ ¬ends ∧ s.named .hp = false
    let p := s.atScan v
    exec (.scanPublish v) s = .next (State.finish
      { p with
        grout :=
          { p.grout with
            volume, refusalTime := refusal
            remainder := if counting ∧ s.named .gf = false then sum % 600 else s.grout.remainder
            testsOpen := decide filling
            yieldCount := if filling ∧ 600 ≤ s.grout.cleanTime then 0 else s.grout.yieldCount
            opening :=
              if moving ∧ s.named .gp = false then
                (if v.gp < (s.par.stagePressure : Int) then min 100 (s.grout.opening + 5)
                  else if (s.par.stagePressure : Int) < v.gp then s.grout.opening - 5
                  else s.grout.opening)
              else s.grout.opening
            sagTime :=
              if looking then (if v.hp < (s.par.headerMin : Int) then s.grout.sagTime + 1 else 0)
              else s.grout.sagTime
            cleanTime :=
              if looking then
                (if v.hp < (s.par.headerMin : Int) then 0 else min 600 (s.grout.cleanTime + 1))
              else s.grout.cleanTime } })

/-- In RAMP of a test with no latch due: a jack load within the load tolerance of the target ends the
ramp. LOCKOFF then appends its first point and enters SEATING with the seating timer started; any other
step enters HOLD_LOAD with the step hold timer started at 600 s for ALIGN, 3,600 s for PROOF and the
step's hold time otherwise, and ALIGN stores EXT as its alignment reading. Otherwise the reference moves
with the ramp timer toward the target, and the pump is called below it on a raising ramp, the relief
valve above it on a lowering one; that the reference follows fractions of a second is DEDUCED (log entry
24, unsafe), and that a ramp whose target is its start load calls for nothing is log entry 28. In RAMP
every other block is as time leaves it. In HOLD_LOAD the pump is called when the load is below the
target by more than the tolerance, until it reaches the target. In WAIT_LEASE, ABORT_WAIT, SEATING and
HALTED a scan does nothing to the test. What is published and measured, the EXT window of HOLD_LOAD
included, is ScanMeasuresAndHandsOn. -/
def Obligations.ScanInARamp : Prop :=
  (∀ (v : ScanSet) (s : State), s.crew.phase = .stressing → s.seq.sub = some .ramp → v.rails = 0 →
    s.scan.railTimes = [0, 0, 0, 0, 0, 0, 0, 0] → v.jp ≤ (s.par.maxJack : Int) → s.trip.jackTime = 0 →
    let load := v.jp.toNat * s.par.ramArea / 10000
    let near := load ≤ s.stepTarget + max (s.par.designLoad / 100) 2
      ∧ s.stepTarget ≤ load + max (s.par.designLoad / 100) 2
    let gain := s.par.rampRate * (s.elapse 100000).seq.jack.ramp.elapsed / 60000000
    let ref :=
      if s.seq.jack.rampStart ≤ s.stepTarget then min s.stepTarget (s.seq.jack.rampStart + gain)
      else max s.stepTarget (s.seq.jack.rampStart - gain)
    ∃ t, exec (.scanPublish v) s = .next t
        ∧ t =
            { s.elapse 100000 with
              lif := t.lif, seq := t.seq, store := t.store, scan := t.scan, trip := t.trip,
              drives := t.drives }
        ∧ t.lif = { (s.elapse 100000).lif with tx := t.lif.tx }
        ∧ t.crew = (s.elapse 100000).crew
      ∧ t.lease = (s.elapse 100000).lease ∧ t.trip.latches = s.trip.latches
      ∧ (near → s.stepIs .lockOff = true →
          t.seq =
              { (s.elapse 100000).seq with
                sub := some .seating
                jack :=
                  { (s.elapse 100000).seq.jack with
                    ramp := .off, raise := false, lower := false, seating := ⟨true, 0, 5000000⟩ } }
          ∧ (∀ n, s.seq.slot = some n →
              t.store =
                (s.handOver (.point n
                  ⟨s.seq.step, load, v.ext - s.seq.datum.getD 0,
                    (s.elapse 100000).seq.clock / 1000000⟩)).store))
      ∧ (near → s.stepIs .lockOff = false →
          t.seq =
              { (s.elapse 100000).seq with
                sub := some .holdLoad, holdTimer := ⟨true, 0, t.seq.holdTimer.limit⟩, checks := 0, readings := 0
                alignRead := if s.seq.step = 0 then v.ext else s.seq.alignRead
                jack := { (s.elapse 100000).seq.jack with ramp := .off, raise := false, lower := false } }
          ∧ (s.seq.step = 0 → t.seq.holdTimer.limit = 600000000)
          ∧ (s.stepIs .proof = true → t.seq.holdTimer.limit = 3600000000)
          ∧ (∀ p, s.planStep = some p → p.kind ≠ .proof → t.seq.holdTimer.limit = p.hold * 1000000)
          ∧ t.store = s.store)
      ∧ (¬near →
          t.store = s.store
          ∧ t.seq =
              { (s.elapse 100000).seq with
                jack :=
                  { (s.elapse 100000).seq.jack with
                    rampRef := ref
                    raise := decide (s.seq.jack.rampStart < s.stepTarget) && decide (load < ref)
                    lower := decide (s.stepTarget < s.seq.jack.rampStart) && decide (ref < load) } }))
  ∧ (∀ (v : ScanSet) (s : State), s.crew.phase = .stressing → s.seq.sub = some .holdLoad → s.calmAt v →
      s.trip.extTime + 1 < s.par.extScans →
      let load := v.jp.toNat * s.par.ramArea / 10000
      let p := s.atScan v
      exec (.scanPublish v) s = .next (State.finish
        { p with
          seq :=
            { p.seq with
              jack :=
                { p.seq.jack with
                  raise :=
                    if load + max (s.par.designLoad / 100) 2 < s.stepTarget then true
                    else if s.stepTarget ≤ load then false
                    else s.seq.jack.raise } } }))
  ∧ (∀ (v : ScanSet) (s : State), s.crew.phase = .stressing → s.calmAt v →
      (s.seq.sub = some .waitLease ∨ s.seq.sub = some .abortWait ∨ s.seq.sub = some .seating
        ∨ s.seq.sub = some .halted) →
      exec (.scanPublish v) s = .next (State.finish (s.atScan v)))

/-- In RELEASE, FAIL_UNLOAD and ABORT_UNLOAD of a test with no latch due: a scan with JP at 500 kPa or
above, or with JP named by SENSOR_FAULT, calls the relief valve. One with JP below 500 kPa and JP not
named ends the unload: RELEASE becomes SETTLE with its timer of 60 s running; FAIL_UNLOAD closes the
slot with the pending verdict, releases the lease with what R44 grants, and the phase is REJECTED;
ABORT_UNLOAD closes it as ABORTED with its reason, and the phase is CURED; in both no sub-state, request
or jack work is left and the test clock stops. In SETTLE a scan before the end of the settle timer
changes nothing; the first at or after it that is not taken under a SENSOR_FAULT naming LC is the one
whose LC is the residual. Where the end of the timer has been taken by its command, that scan completes
the lock-off: residual point, LOCKOFF_LOW where it is low, closing with PASS, lease released, LOCKED in
WATCH. Where it has not, the scan is only marked as the one to be read, and SETTLE_END reads it (log
entry 14; log entry 4). A scan under a SENSOR_FAULT naming LC does neither. What is published and
measured is ScanMeasuresAndHandsOn. That the ramp values are 0 after the test is the choice of the model
(log entry 39). -/
def Obligations.ScanInAnUnload : Prop :=
  ∀ (v : ScanSet) (s : State), s.crew.phase = .stressing → s.calmAt v →
    let p := s.atScan v
    ((s.seq.sub = some .release ∨ s.seq.sub = some .failUnload ∨ s.seq.sub = some .abortUnload) →
        (500 ≤ v.jp ∨ s.named .jp = true) →
        exec (.scanPublish v) s = .next (State.finish
          { p with seq := { p.seq with jack := { p.seq.jack with lower := true } } }))
    ∧ (s.seq.sub = some .release → v.jp < 500 → s.named .jp = false →
        exec (.scanPublish v) s = .next (State.finish
          { p with
            seq :=
              { p.seq with
                sub := some .settle
                jack :=
                  { p.seq.jack with
                    unload := .off, lower := false, settle := ⟨true, 0, 60000000⟩, settled := false
                    readDue := false } } }))
    ∧ (∀ (n : Nat) (x : FailVerdict), s.seq.sub = some .failUnload → v.jp < 500 → s.named .jp = false →
        s.seq.slot = some n → s.seq.verdict = some x → s.lease.state = .holding →
        s.request.map Request.status = some .taken →
        exec (.scanPublish v) s = .next (State.finish (p.testEnded n (.fail x) .rejected)))
    ∧ (∀ (n : Nat) (x : AbortReason), s.seq.sub = some .abortUnload → v.jp < 500 → s.named .jp = false →
        s.seq.slot = some n → s.seq.abort = some x → s.lease.state = .holding →
        s.request.map Request.status = some .taken →
        exec (.scanPublish v) s = .next (State.finish (p.testEnded n (.aborted x) .cured)))
    ∧ (s.seq.sub = some .settle → s.seq.jack.readDue = false →
        (s.named .lc = true
          ∨ s.seq.jack.settled = false
              ∧ (s.seq.jack.settle.on = false ∨ s.seq.jack.settle.elapsed + 100000 < s.seq.jack.settle.limit)) →
        exec (.scanPublish v) s = .next (State.finish p))
    ∧ (s.seq.sub = some .settle → s.seq.jack.readDue = false → s.named .lc = false →
        s.seq.jack.settled = false → s.seq.jack.settle.on = true →
        s.seq.jack.settle.limit ≤ s.seq.jack.settle.elapsed + 100000 →
        exec (.scanPublish v) s = .next (State.finish
          { p with seq := { p.seq with jack := { p.seq.jack with readDue := true } } }))
    ∧ (∀ n : Nat, s.seq.sub = some .settle → s.seq.jack.readDue = false → s.named .lc = false →
        s.seq.jack.settled = true → s.seq.slot = some n → s.lease.state = .holding →
        s.request.map Request.status = some .taken →
        exec (.scanPublish v) s = .next (State.finish (p.lockedOff n)))

/-- In LOCKED with no latch due. WATCH: with the loss-excess flag set nothing; else a residual below the
target by more than the loss tolerance, on an LC that is not named, adds 0.1 s to the low time up to its
deglitch time; any other scan sets it to 0. PENDING: a residual not low on such an LC adds 0.1 s to the
recovery time, any other sets it to 0. (A due time is taken by its own command or before the next scan:
log entry 4.) TOPUP: LIFT ends within the load tolerance of the before load, RAMP of the lock-off
target; LIFT then begins the ramp toward the target, RAMP the seating stroke of 5 s; before that, the
reference moves with the ramp timer (log entry 24) and LIFT calls the pump below it, RAMP the pump on a
raising and the relief valve on a lowering ramp. RELEASE and ABORT_UNLOAD call the relief valve at JP of
500 kPa or more or a named JP; below, RELEASE becomes SETTLE of 60 s, and ABORT_UNLOAD ends the top-up
with the latest trusted LC, 0 below 0 (log entry 40, DEDUCED), as after load and result ABORTED. SETTLE
reads LC as a test does (ScanInAnUnload): before the end nothing; after it, under no SENSOR_FAULT naming
LC, the entry OK, or the mark for TOPUP_SETTLE_END (log entry 14). The end of a top-up raises the count
and releases the lease, ramp values and recovery time 0 (log entry 39). SEATING and HALTED do nothing.
-/
def Obligations.ScanInLocked : Prop :=
  (∀ (v : ScanSet) (s : State), s.crew.phase = .locked → v.rails = 0 →
    s.scan.railTimes = [0, 0, 0, 0, 0, 0, 0, 0] →
    let low := s.named .lc = false ∧ v.lc * 100 < ((s.lockTarget * (100 - s.par.lossTol) : Nat) : Int)
    let high := s.named .lc = false ∧ ((s.lockTarget * (100 - s.par.lossTol) : Nat) : Int) ≤ v.lc * 100
    let p := s.atScan v
    (s.aft.sub = some .watch → s.aft.lossExcess = true → exec (.scanPublish v) s = .next (State.finish p))
    ∧ (s.aft.sub = some .watch → s.aft.lossExcess = false → s.aft.lowTime < s.par.topUpScans →
        exec (.scanPublish v) s = .next (State.finish
          { p with aft := { p.aft with lowTime := if low then s.aft.lowTime + 1 else 0 } }))
    ∧ (s.aft.sub = some .pending → s.aft.recovery < s.par.topUpScans →
        exec (.scanPublish v) s = .next (State.finish
          { p with aft := { p.aft with recovery := if high then s.aft.recovery + 1 else 0 } })))
  ∧ (∀ (v : ScanSet) (s : State), s.crew.phase = .locked → s.aft.sub = some .topUp → s.calmAt v →
    let load := v.jp.toNat * s.par.ramArea / 10000
    let tol := max (s.par.designLoad / 100) 2
    let goal := if s.aft.stage = some .lift then s.aft.before else s.lockTarget
    let near := load ≤ goal + tol ∧ goal ≤ load + tol
    let gain := s.par.rampRate * (s.elapse 100000).aft.jack.ramp.elapsed / 60000000
    let ref :=
      if s.aft.jack.rampStart ≤ goal then min goal (s.aft.jack.rampStart + gain)
      else max goal (s.aft.jack.rampStart - gain)
    let p := s.atScan v
    (s.aft.stage = some .lift → near →
        exec (.scanPublish v) s = .next (State.finish
          { p with
            aft :=
              { p.aft with
                stage := some .ramp
                jack :=
                  { p.aft.jack with
                    rampStart := load, rampRef := load, raise := false, lower := false
                    ramp := ⟨true, 0, (120 * (max s.lockTarget load - min s.lockTarget load)
                      / s.par.rampRate + 60) * 1000000⟩ } } }))
    ∧ (s.aft.stage = some .lift → ¬near →
        exec (.scanPublish v) s = .next (State.finish
          { p with
            aft :=
              { p.aft with
                jack := { p.aft.jack with rampRef := ref, raise := decide (load < ref), lower := false } } }))
    ∧ (s.aft.stage = some .ramp → near →
        exec (.scanPublish v) s = .next (State.finish
          { p with
            aft :=
              { p.aft with
                stage := some .seating
                jack :=
                  { p.aft.jack with
                    ramp := .off, raise := false, lower := false, seating := ⟨true, 0, 5000000⟩ } } }))
    ∧ (s.aft.stage = some .ramp → ¬near →
        exec (.scanPublish v) s = .next (State.finish
          { p with
            aft :=
              { p.aft with
                jack :=
                  { p.aft.jack with
                    rampRef := ref
                    raise := decide (s.aft.jack.rampStart < goal) && decide (load < ref)
                    lower := decide (goal < s.aft.jack.rampStart) && decide (ref < load) } } }))
    ∧ ((s.aft.stage = some .release ∨ s.aft.stage = some .abortUnload) → (500 ≤ v.jp ∨ s.named .jp = true) →
        exec (.scanPublish v) s = .next (State.finish
          { p with aft := { p.aft with jack := { p.aft.jack with lower := true } } }))
    ∧ (s.aft.stage = some .release → v.jp < 500 → s.named .jp = false →
        exec (.scanPublish v) s = .next (State.finish
          { p with
            aft :=
              { p.aft with
                stage := some .settle
                jack :=
                  { p.aft.jack with
                    unload := .off, lower := false, settle := ⟨true, 0, 60000000⟩, settled := false
                    readDue := false } } }))
    ∧ (∀ n : Nat, s.aft.stage = some .abortUnload → v.jp < 500 → s.named .jp = false →
        s.aft.slot = some n → s.lease.state = .holding → s.request.map Request.status = some .taken →
        exec (.scanPublish v) s = .next (State.finish (p.topUpEnded n p.scan.lcTrusted.toNat false)))
    ∧ (s.aft.stage = some .settle → s.aft.jack.readDue = false →
        (s.named .lc = true
          ∨ s.aft.jack.settled = false
              ∧ (s.aft.jack.settle.on = false ∨ s.aft.jack.settle.elapsed + 100000 < s.aft.jack.settle.limit)) →
        exec (.scanPublish v) s = .next (State.finish p))
    ∧ (s.aft.stage = some .settle → s.aft.jack.readDue = false → s.named .lc = false →
        s.aft.jack.settled = false → s.aft.jack.settle.on = true →
        s.aft.jack.settle.limit ≤ s.aft.jack.settle.elapsed + 100000 →
        exec (.scanPublish v) s = .next (State.finish
          { p with aft := { p.aft with jack := { p.aft.jack with readDue := true } } }))
    ∧ (∀ n : Nat, s.aft.stage = some .settle → s.aft.jack.readDue = false → s.named .lc = false →
        s.aft.jack.settled = true → s.aft.slot = some n → s.lease.state = .holding →
        s.request.map Request.status = some .taken →
        exec (.scanPublish v) s = .next (State.finish (p.topUpEnded n v.lc.toNat true)))
    ∧ ((s.aft.stage = some .seating ∨ s.aft.stage = some .halted) →
        exec (.scanPublish v) s = .next (State.finish p)))

/-- The off-time timer that runs out in LIMIT_OFF with HOLD off returns to PAYOUT with the slack time at
0; under HOLD it does not run out. A slack time of 2 s in PAYOUT makes SLACK with one slack pause more.
A clean distance of 200 cm sets the consecutive-limit count to 0. Rope-out at the tendon length, with no
breakthrough due, completes placement: the placement result is handed over, the phase is GROUTING with
the grout controller in WAIT_GO, the winch off, and a clean distance of 200 cm has set the count to 0
first (log entry 47, DESIGN CHOICE). The choices of the model: what is left of the off-time passes for
every timer (log entry 3), 2 s and 1 s are counted in scans (log entry 15), what a scan brings due is
taken by its own command or by the next scan (log entry 4), and OFF_TIME_END under HOLD is without
effect (log entry 5). -/
def Obligations.PlacementEvents : Prop :=
  (∀ s : State, s.placement.offTime.on = true → s.crew.phase = .placing → s.placement.sub = some .limitOff →
    s.crew.hold = false →
    exec .offTimeEnd s = .next (State.finish
      { s.expire s.placement.offTime with
        placement :=
          { (s.expire s.placement.offTime).placement with
            sub := some .payout, offTime := .off, slackTime := 0 } }))
  ∧ (∀ s : State, s.crew.hold = true → exec .offTimeEnd s = .next s.finish)
  ∧ (∀ s : State, s.crew.phase = .placing → s.placement.sub = some .payout → 20 ≤ s.placement.slackTime →
      exec .slackFound s = .next (State.finish
        { s with
          placement :=
            { s.placement with
              sub := some .slack, slackTime := 0
              slackPauses :=
                if s.placement.slackPauses = 65535#16 then s.placement.slackPauses
                else s.placement.slackPauses + 1 } }))
  ∧ (∀ s : State, s.crew.phase = .placing → 200 ≤ s.placement.cleanDist →
      exec .cleanDistanceReached s = .next (State.finish
        { s with placement := { s.placement with limitCount := 0 } }))
  ∧ (∀ s : State, s.crew.phase = .placing → s.par.tendonLength ≤ s.placement.ropeOut →
      (s.placement.breakTime < 10 ∨ s.latched .breakIn = true) →
      exec .placementComplete s = .next (State.finish
        { s with
          store :=
            (s.handOver (.placement
              ⟨s.placement.ropeOut, s.placement.limitEvents, s.placement.slackPauses⟩)).store
          placement :=
            { s.placement with
              sub := none, offTime := .off, slackTime := 0, breakTime := 0
              limitCount := if 200 ≤ s.placement.cleanDist then 0 else s.placement.limitCount }
          crew := { s.crew with phase := .grouting }
          grout :=
            { s.grout with
              sub := some .waitGo, opening := 100, volume := 0, remainder := 0, refusalTime := 0, sagTime := 0,
              yieldTimer := .off, left := none, yieldCount := 0, cleanTime := 0, yieldEvents := 0,
              result := none, testsOpen := false } }))

/-- In FILL the fill volume, below the volume limit, makes PRESS with the refusal timer at 0. The volume
limit, and in PRESS the refusal time below the limit, end grouting with VOLUME_LIMIT and REFUSAL: the
append with result, volume and yield events, the phase SETTING, the set timer started. A sag time of 2 s
makes YIELD for 20 s + 2 s x own number, or SUPPLY_WEAK at the fourth in a row, with one yield event
more and the sub-state kept as the one left. The yield timer returns to the sub-state left. A clean time
of 60 s sets the consecutive-yield count to 0. The choices of the model: what is left of the yield time
passes for every timer (log entry 3), what a scan brings due is taken by its own command or by the next
scan (log entry 4), and that stands while the latest scan was counted in FILL or PRESS (log entry 29).
That the sag time is 0 and no sub-state is kept as the one left after grouting is the choice of the
model (log entry 37), and so is that a clean time of 60 s not yet taken leaves the consecutive-yield
count as it stands (log entry 47). -/
def Obligations.GroutingEvents : Prop :=
  (∀ s : State, s.crew.phase = .grouting → s.grout.sub = some .fill → s.grout.testsOpen = true →
    s.par.holeVolume * s.par.fillFactor / 10 ≤ s.grout.volume → s.grout.volume < 10 * s.par.volumeLimit →
    exec .fillComplete s = .next (State.finish
      { s with grout := { s.grout with sub := some .press, refusalTime := 0 } }))
  ∧ (∀ (r : GroutResult) (c : Instr) (s : State), s.crew.phase = .grouting → s.grout.testsOpen = true →
      ((c = .volumeLimit ∧ r = .volumeLimit ∧ (s.grout.sub = some .fill ∨ s.grout.sub = some .press)
          ∧ 10 * s.par.volumeLimit ≤ s.grout.volume)
        ∨ (c = .refusal ∧ r = .refusal ∧ s.grout.sub = some .press
            ∧ s.grout.volume < 10 * s.par.volumeLimit
            ∧ 600 * s.par.refusalTime ≤ s.grout.refusalTime)) →
      exec c s = .next (State.finish
        { s with
          grout :=
            { s.grout with
              sub := none, result := some r, refusalTime := 0, sagTime := 0, yieldTimer := .off,
              left := none, testsOpen := false, watch := .unarmed, breakTime := 0
              setTimer := ⟨true, 0, s.par.setTime * 3600000000⟩ }
          store := (s.handOver (.grout ⟨r, s.grout.volume, s.grout.yieldEvents⟩)).store
          crew := { s.crew with phase := .setting } }))
  ∧ (∀ s : State, s.crew.phase = .grouting → (s.grout.sub = some .fill ∨ s.grout.sub = some .press) →
      20 ≤ s.grout.sagTime → s.volumeDue = false → s.refusalDue = false → s.fillDue = false →
      exec .headerSag s = .next (State.finish
        { s with
          grout :=
            { s.grout with
              sub := if s.grout.yieldCount < 3 then some .yielding else some .supplyWeak
              left := s.grout.sub, sagTime := 0, cleanTime := 0, testsOpen := false
              yieldCount := min 4 (s.grout.yieldCount + 1)
              yieldEvents :=
                if s.grout.yieldEvents = 65535#16 then s.grout.yieldEvents else s.grout.yieldEvents + 1
              yieldTimer :=
                if s.grout.yieldCount < 3 then ⟨true, 0, (20 + 2 * s.ownNumber) * 1000000⟩ else .off } }))
  ∧ (∀ (x : GroutSub) (s : State), s.grout.yieldTimer.on = true → s.crew.phase = .grouting →
      s.grout.sub = some .yielding → s.grout.left = some x →
      exec .yieldEnd s = .next (State.finish
        { s.expire s.grout.yieldTimer with
          grout :=
            { (s.expire s.grout.yieldTimer).grout with
              sub := some x, left := none, sagTime := 0, cleanTime := 0, yieldTimer := .off } }))
  ∧ (∀ s : State, s.crew.phase = .grouting → (s.grout.sub = some .fill ∨ s.grout.sub = some .press) →
      600 ≤ s.grout.cleanTime →
      exec .cleanTimeReached s = .next (State.finish { s with grout := { s.grout with yieldCount := 0 } }))

/-- In SETTING a scan, on a GP that is not named, arms an unarmed watch when GP is at or below the
breakthrough threshold, and with the watch armed adds 0.1 s to the breakthrough time above the threshold
and sets it to 0 otherwise; a named GP sets it to 0. An armed watch at 1 s places the ALERT BREAKTHROUGH
with GP, its low 16 bits (log entry 25, DEDUCED), unless listen-only and is alerted, the breakthrough
time at 0 (log entry 37), and no latch sets. The set timer moves to CURING with the watch stopped, held
unarmed (log entry 37), the cure timer started at the bound cure time, and with the lease IDLE the whole
deferred list granted and emptied. The cure timer moves to CURED and stops. Neither asks for HOLD or
latches. What is left of a timer passes for every timer (log entry 3, the choice of the model); what a
scan publishes is ScanMeasuresAndHandsOn. -/
def Obligations.SettingAndCuring : Prop :=
  (∀ s : State, s.crew.phase = .setting → s.grout.watch = .armed → 10 ≤ s.grout.breakTime →
    exec .settingBreakthrough s = .next (State.finish
      { s with
        lif :=
          { s.lif with
            alert :=
              if s.listenOnly then s.lif.alert
              else some ⟨⟨.breakthrough, .setting, BitVec.ofInt 16 s.scan.gp⟩, 0⟩ }
        grout := { s.grout with watch := .alerted, breakTime := 0 } }))
  ∧ (∀ s : State, s.grout.setTimer.on = true → s.crew.phase = .setting → s.lease.state = .idle →
      ∃ t, exec .setTimerEnd s = .next t
        ∧ t =
            { s.expire s.grout.setTimer with
              lif := t.lif, lease := t.lease, crew := t.crew, grout := t.grout, scan := t.scan,
              trip := t.trip, drives := t.drives }
        ∧ t.lif = { (s.expire s.grout.setTimer).lif with batch := t.lif.batch, tx := t.lif.tx }
        ∧ t.lease = { (s.expire s.grout.setTimer).lease with deferred := [] }
        ∧ t.crew = { (s.expire s.grout.setTimer).crew with phase := t.crew.phase }
        ∧ t.grout =
            { (s.expire s.grout.setTimer).grout with
              setTimer := t.grout.setTimer, watch := t.grout.watch, breakTime := t.grout.breakTime,
              cureTimer := t.grout.cureTimer }
        ∧ (s.expire s.grout.setTimer).settles t
        ∧ t.crew.phase = .curing ∧ t.lease.deferred = []
        ∧ t.lease.state = .idle
        ∧ t.lif.batch = s.batchGranting s.lease.deferred
        ∧ t.grout.setTimer = .off ∧ t.grout.watch = .unarmed ∧ t.grout.breakTime = 0
        ∧ t.grout.cureTimer = ⟨true, 0, s.par.cureTime * 3600000000⟩
        ∧ t.store = s.store ∧ t.trip.latches = s.trip.latches)
  ∧ (∀ s : State, s.grout.cureTimer.on = true → s.crew.phase = .curing →
      exec .cureTimerEnd s = .next (State.finish
        { s.expire s.grout.cureTimer with
          crew := { (s.expire s.grout.cureTimer).crew with phase := .cured }
          grout := { (s.expire s.grout.cureTimer).grout with cureTimer := .off } }))
  ∧ (∀ (v : ScanSet) (s : State), s.crew.phase = .setting → v.rails = 0 →
      s.scan.railTimes = [0, 0, 0, 0, 0, 0, 0, 0] → s.grout.breakTime < 10 →
      let p := s.atScan v
      exec (.scanPublish v) s = .next (State.finish
        { p with
          grout :=
            { p.grout with
              watch :=
                if s.named .gp = false ∧ s.grout.watch = .unarmed ∧ v.gp ≤ (s.par.breakthrough : Int) then
                  .armed
                else s.grout.watch
              breakTime :=
                if s.named .gp = true then 0
                else if s.grout.watch = .armed then
                  (if (s.par.breakthrough : Int) < v.gp then s.grout.breakTime + 1 else 0)
                else s.grout.breakTime } }))

/-- The hold of a LOAD or UNLOAD step that ends appends the point (step, jack load, test extension,
whole seconds of the test clock: log entry 24), releases the lease with what R44 grants, and goes to
WAIT_LEASE of the next step with a new ADVANCE request, which is presented at once
(RequestsAreCheckedInOrder) and taken with a new stamp when the lease would take it. An alignment check
that finds EXT moved by less than 0.20 mm, and the one at 600 s, sets the datum to EXT, appends point 0
with extension 0 and goes on the same way; any other stores the new reading. Nothing else changes but
what passing time changes; that what is left of the hold, or of the time to the check, passes for every
timer is the choice of the model (log entry 3). -/
def Obligations.HoldsOfATestEnd : Prop :=
  (∀ (n : Nat) (s : State), s.crew.phase = .stressing → s.seq.sub = some .holdLoad →
    s.seq.holdTimer.on = true → (s.stepIs .load = true ∨ s.stepIs .unload = true) → s.seq.slot = some n →
    s.lease.state = .holding → s.request.map Request.status = some .taken →
    let e := s.expire s.seq.holdTimer
    exec .stepHoldEnd s = .next (State.finish (State.stepEnded
      { e with
        store :=
          (s.handOver (.point n
            ⟨s.seq.step, s.jackLoad, s.scan.ext - s.seq.datum.getD 0, e.seq.clock / 1000000⟩)).store })))
  ∧ (∀ (n : Nat) (s : State), s.crew.phase = .stressing → s.seq.sub = some .holdLoad → s.seq.step = 0 →
      s.seq.holdTimer.on = true → s.seq.slot = some n →
      ((s.scan.ext - s.seq.alignRead).natAbs < 20 ∨ 9 ≤ s.seq.checks) →
      s.lease.state = .holding → s.request.map Request.status = some .taken →
      let e := s.elapse (60 * (s.seq.checks + 1) * 1000000 - s.seq.holdTimer.elapsed)
      exec .alignCheck s = .next (State.finish (State.stepEnded
        { e with
          seq := { e.seq with datum := some s.scan.ext }
          store := (s.handOver (.point n ⟨0, s.jackLoad, 0, e.seq.clock / 1000000⟩)).store })))
  ∧ (∀ s : State, s.crew.phase = .stressing → s.seq.sub = some .holdLoad → s.seq.step = 0 →
      s.seq.holdTimer.on = true → 20 ≤ (s.scan.ext - s.seq.alignRead).natAbs → s.seq.checks < 9 →
      exec .alignCheck s = .next (State.finish
        { s.elapse (60 * (s.seq.checks + 1) * 1000000 - s.seq.holdTimer.elapsed) with
          seq :=
            { (s.elapse (60 * (s.seq.checks + 1) * 1000000 - s.seq.holdTimer.elapsed)).seq with
              alignRead := s.scan.ext, checks := s.seq.checks + 1 } }))
  ∧ (∀ s : State, { s with lease := { s.lease with state := .idle } }.wouldTake false →
      s.presentMembers ≠ [] → s.crew.phase = .stressing →
      s.stepEnded.seq.step = s.seq.step + 1 ∧ s.stepEnded.seq.sub = some .waitLease
      ∧ s.stepEnded.seq.request = some ⟨.advance, false, .taken⟩ ∧ s.stepEnded.seq.holdTimer.on = false
      ∧ s.stepEnded.lease.state = .asking ∧ s.stepEnded.lease.clock = s.lease.clock + 1
      ∧ s.stepEnded.lease.ask = some ⟨.advance, false, s.lease.clock + 1, 1⟩
      ∧ s.stepEnded.lease.deferred = []
      ∧ (s.listenOnly = false → s.stepEnded.lif.ask = some ⟨.ask .advance (s.lease.clock + 1) 1, 0⟩))

/-- In HOLD_LOAD of PROOF the reading k falls due at 1, 2, 3, 5, 10, 15, 20, 30, 45 and 60 min; it
appends its point. Readings without a check, and a check that lets the hold go on, only do that (reading
4 keeps ext(5), reading 6 keeps ext(15)). At reading 1 an extension outside the window sets
FAIL_EXTENSION and enters FAIL_UNLOAD with the lease kept; the relief valve is called unless JP is low
(log entries 13, 46, DEDUCED). At reading 6 a creep above the limit sets EXTENDED, in the slot too, and
the hold goes on. At reading 10 a creep above the limit sets FAIL_CREEP and enters FAIL_UNLOAD. A creep
at or below the limit at reading 6 or 10 ends the hold: the lease is released with what R44 grants, and
the next step's ADVANCE request is presented (HoldsOfATestEnd, RequestsAreCheckedInOrder), whatever the
lease makes of it. Nothing else changes but what passing time changes; that the time to the reading
passes for every timer is the choice of the model (log entry 3); a point's time is in whole seconds (log
entry 24). -/
def Obligations.ProofReadingsAndTheirChecks : Prop :=
  ∀ (n k mark : Nat) (s : State), s.crew.phase = .stressing → s.seq.sub = some .holdLoad →
    s.stepIs .proof = true → s.seq.holdTimer.on = true → s.seq.slot = some n → s.seq.readings = k →
    [60, 120, 180, 300, 600, 900, 1200, 1800, 2700, 3600][k]? = some mark →
    (k < 6 ∨ s.seq.extended = true) → s.lease.state = .holding →
    s.request.map Request.status = some .taken →
    let u := s.elapse (mark * 1000000 - s.seq.holdTimer.elapsed)
    let point : Job := .point n ⟨s.seq.step, s.jackLoad, s.testExt, u.seq.clock / 1000000⟩
    let w : State :=
      { u with
        store := (s.handOver point).store
        seq :=
          { u.seq with
            readings := k + 1, ext5 := if k = 3 then some s.testExt else s.seq.ext5
            ext15 := if k = 5 then some s.testExt else s.seq.ext15 } }
    let failed (x : FailVerdict) : State :=
      { w with
        seq :=
          { w.seq with
            verdict := some x, sub := some .failUnload, holdTimer := .off
            jack :=
              { u.seq.jack with
                ramp := .off, seating := .off, raise := false
                unload := ⟨true, 0, (120 * s.jackLoad / s.par.rampRate + 60) * 1000000⟩
                lower := !(decide (s.scan.jp < 500) && !s.named .jp) } } }
    ((k ≠ 0 ∧ k ≠ 5 ∧ k ≠ 9
          ∨ k = 0 ∧ (s.par.extMin : Int) ≤ s.testExt ∧ s.testExt ≤ (s.par.extMax : Int)) →
        exec .proofReading s = .next (State.finish w))
    ∧ (k = 0 → (s.testExt < (s.par.extMin : Int) ∨ (s.par.extMax : Int) < s.testExt) →
        exec .proofReading s = .next (State.finish (failed .failExtension)))
    ∧ (k = 5 → (s.par.creepLimit : Int) < s.testExt - s.seq.ext5.getD 0 →
        exec .proofReading s = .next (State.finish
          { w with
            seq := { w.seq with extended := true }
            store := ((s.handOver point).handOver (.extended n)).store }))
    ∧ (k = 9 → (s.par.creepLimit : Int) < s.testExt - s.seq.ext15.getD 0 →
        exec .proofReading s = .next (State.finish (failed .failCreep)))
    ∧ ((k = 5 ∧ s.testExt - s.seq.ext5.getD 0 ≤ (s.par.creepLimit : Int)
          ∨ k = 9 ∧ s.testExt - s.seq.ext15.getD 0 ≤ (s.par.creepLimit : Int)) →
        exec .proofReading s = .next (State.finish w.stepEnded))

/-- With HOLD off, the ramp timer of RAMP in a test with the lease HOLDING, or of LIFT or RAMP in a
top-up, that reaches its limit asks for RAMP_STALL with the jack load as value, its low 16 bits (log
entry 25), and a test is HALTED with its lease held; the unload timer of an unload whose relief valve is
open asks for it with the same value, stays at its limit, and the unload goes on with the relief valve
open. Under HOLD neither happens, and with the relief valve closed the unload timer does not run: their
commands then change nothing (log entry 5). What the latch does at the blocks is ALatchSets. What is
left of a timer passes for every timer (log entry 3). Both entries are the choice of the model. Nothing
else changes but what passing time changes. -/
def Obligations.RampAndUnloadLimitsLatch : Prop :=
  (∀ s : State, s.crew.hold = false → s.crew.phase = .stressing → s.seq.sub = some .ramp →
    s.seq.jack.ramp.on = true →
    exec .rampTimerLimit s = .next
      ((s.expire s.seq.jack.ramp).latch .rampStall (BitVec.ofNat 16 s.jackLoad)).finish)
  ∧ (∀ s : State, s.crew.hold = false → s.crew.phase = .stressing → s.seq.sub = some .ramp →
    s.seq.jack.ramp.on = true → s.lease.state = .holding → s.latched .rampStall = false →
    ∃ t, exec .rampTimerLimit s = .next t
        ∧ t =
            { s.expire s.seq.jack.ramp with
              lif := t.lif, seq := t.seq, scan := t.scan, trip := t.trip, drives := t.drives }
        ∧ t.lif = { (s.expire s.seq.jack.ramp).lif with alert := t.lif.alert, tx := t.lif.tx }
        ∧ t.seq =
            { (s.expire s.seq.jack.ramp).seq with
              sub := some .halted, tripMark := true, holdTimer := .off
              jack := { (s.expire s.seq.jack.ramp).seq.jack with ramp := .off, raise := false, lower := false } }
        ∧ t.trip.latches = s.trip.latches ++ [.rampStall]
      ∧ t.seq.sub = some .halted ∧ t.seq.tripMark = true ∧ t.lease = (s.expire s.seq.jack.ramp).lease
      ∧ t.drives.pump = false ∧ t.drives.relief = false
      ∧ (s.trip.latches = [] →
          t.trip.firstCause = some ⟨.rampStall, .stressing, BitVec.ofNat 16 s.jackLoad, none⟩))
  ∧ (∀ s : State, s.crew.hold = false → s.crew.phase = .locked → s.aft.sub = some .topUp →
      (s.aft.stage = some .lift ∨ s.aft.stage = some .ramp) → s.aft.jack.ramp.on = true →
      exec .rampTimerLimit s = .next
        ((s.expire s.aft.jack.ramp).latch .rampStall (BitVec.ofNat 16 s.jackLoad)).finish)
  ∧ (∀ s : State, s.crew.hold = false → s.crew.phase = .stressing →
      (s.seq.sub = some .release ∨ s.seq.sub = some .failUnload ∨ s.seq.sub = some .abortUnload) →
      s.seq.jack.unload.on = true → s.seq.jack.lower = true → s.lease.state = .holding →
      s.latched .rampStall = false →
      ∃ t, exec .unloadTimerLimit s = .next t
        ∧ t =
            State.finish (State.latch .rampStall (BitVec.ofNat 16 s.jackLoad)
              { s.expire s.seq.jack.unload with
                seq :=
                  { (s.expire s.seq.jack.unload).seq with
                    jack :=
                      { (s.expire s.seq.jack.unload).seq.jack with
                        unload := ⟨false, s.seq.jack.unload.limit, s.seq.jack.unload.limit⟩ } } })
        ∧ t =
            { s.expire s.seq.jack.unload with
              lif := t.lif, seq := t.seq, scan := t.scan, trip := t.trip, drives := t.drives }
        ∧ t.lif = { (s.expire s.seq.jack.unload).lif with alert := t.lif.alert, tx := t.lif.tx }
        ∧ t.seq =
            { (s.expire s.seq.jack.unload).seq with
              tripMark := true
              jack :=
                { (s.expire s.seq.jack.unload).seq.jack with
                  unload := ⟨false, s.seq.jack.unload.limit, s.seq.jack.unload.limit⟩ } }
        ∧ t.trip.latches = s.trip.latches ++ [.rampStall]
        ∧ t.seq.sub = s.seq.sub ∧ t.seq.jack.lower = s.seq.jack.lower ∧ t.lease.state = .holding
        ∧ t.seq.jack.unload = ⟨false, s.seq.jack.unload.limit, s.seq.jack.unload.limit⟩
        ∧ t.drives.relief = s.seq.jack.lower)
  ∧ (∀ s : State, s.crew.hold = false → s.crew.phase = .locked → s.aft.sub = some .topUp →
      (s.aft.stage = some .release ∨ s.aft.stage = some .abortUnload) → s.aft.jack.unload.on = true →
      s.aft.jack.lower = true →
      s.lease.state = .holding → s.latched .rampStall = false →
      ∃ t, exec .unloadTimerLimit s = .next t
        ∧ t =
            State.finish (State.latch .rampStall (BitVec.ofNat 16 s.jackLoad)
              { s.expire s.aft.jack.unload with
                aft :=
                  { (s.expire s.aft.jack.unload).aft with
                    jack :=
                      { (s.expire s.aft.jack.unload).aft.jack with
                        unload := ⟨false, s.aft.jack.unload.limit, s.aft.jack.unload.limit⟩ } } })
        ∧ t =
            { s.expire s.aft.jack.unload with
              lif := t.lif, aft := t.aft, scan := t.scan, trip := t.trip, drives := t.drives }
        ∧ t.lif = { (s.expire s.aft.jack.unload).lif with alert := t.lif.alert, tx := t.lif.tx }
        ∧ t.aft =
            { (s.expire s.aft.jack.unload).aft with
              jack :=
                { (s.expire s.aft.jack.unload).aft.jack with
                  unload := ⟨false, s.aft.jack.unload.limit, s.aft.jack.unload.limit⟩ } }
        ∧ t.trip.latches = s.trip.latches ++ [.rampStall]
        ∧ t.aft.stage = s.aft.stage ∧ t.lease.state = .holding ∧ t.drives.relief = true
        ∧ t.aft.jack.unload = ⟨false, s.aft.jack.unload.limit, s.aft.jack.unload.limit⟩)
  ∧ (∀ s : State, s.crew.hold = true →
      exec .rampTimerLimit s = .next s.finish ∧ exec .unloadTimerLimit s = .next s.finish)
  ∧ (∀ s : State, s.reliefOpen = false → exec .unloadTimerLimit s = .next s.finish)

/-- The seating timer that ends returns the lock valve to idle and enters RELEASE with the unload timer
of 120 x load / rate + 60 s, the relief valve called unless JP is low (log entries 13, 46, DEDUCED). The
settle timer that ends reads the residual where a scan at or after that end, not under a SENSOR_FAULT
naming LC, has been published (ScanInAnUnload marks it): it hands over the residual point, LOCKOFF_LOW
when the residual x 100 is below the target x (100 - tolerance), and the closing with PASS and the
residual, releases the lease with what R44 grants, and the phase is LOCKED in WATCH with the target and
the slot of the test, count 0, no loss-excess flag. Where no such scan has been published yet (the end
comes before the scan, or LC was named at it) the test waits in SETTLE for it, and that scan reads the
residual. How the end of the timer and the scan come together is DEDUCED (log entry 14); what is left of
a timer passes for every timer (log entry 3, the choice of the model). Nothing else changes but what
passing time changes. That the ramp values are 0 after the test is the choice of the model (log entry
39). -/
def Obligations.LockOffSeatsAndSettles : Prop :=
  (∀ s : State, s.crew.phase = .stressing → s.seq.sub = some .seating → s.seq.jack.seating.on = true →
    ∃ t, exec .seatingEnd s = .next t
        ∧ t =
            { s.expire s.seq.jack.seating with
              lif := t.lif, seq := t.seq, scan := t.scan, trip := t.trip, drives := t.drives }
        ∧ t.lif = { (s.expire s.seq.jack.seating).lif with tx := t.lif.tx }
        ∧ t.seq =
            { (s.expire s.seq.jack.seating).seq with
              sub := t.seq.sub, holdTimer := t.seq.holdTimer, jack := t.seq.jack }
        ∧ (s.expire s.seq.jack.seating).settles t
        ∧ t.seq.sub = some .release ∧ t.drives.seating = false
      ∧ t.seq.jack.seating.on = false
      ∧ t.seq.jack.unload = ⟨true, 0, (120 * s.jackLoad / s.par.rampRate + 60) * 1000000⟩
      ∧ t.seq.jack.lower = !(decide (s.scan.jp < 500) && !s.named .jp)
      ∧ t.lease = (s.expire s.seq.jack.seating).lease ∧ t.store = s.store
      ∧ t.crew = (s.expire s.seq.jack.seating).crew)
  ∧ (∀ (n : Nat) (s : State), s.crew.phase = .stressing → s.seq.sub = some .settle →
      s.seq.jack.settle.on = true → s.seq.jack.readDue = true → s.seq.slot = some n →
      s.lease.state = .holding → s.request.map Request.status = some .taken →
      exec .settleEnd s = .next (State.finish ((s.expire s.seq.jack.settle).lockedOff n)))
  ∧ (∀ s : State, s.crew.phase = .stressing → s.seq.sub = some .settle → s.seq.jack.settle.on = true →
      s.seq.jack.readDue = false →
      exec .settleEnd s = .next (State.finish
        { s.expire s.seq.jack.settle with
          seq :=
            { (s.expire s.seq.jack.settle).seq with
              jack := { (s.expire s.seq.jack.settle).seq.jack with settle := .off, settled := true } } }))
  ∧ (∀ (n : Nat) (s : State),
      let low := s.scan.lc.toNat * 100 < s.stepTarget * (100 - s.par.lockTol)
      let u := s.handOver (.point n
        ⟨s.seq.step, s.scan.lc.toNat, s.scan.ext - s.seq.datum.getD 0, s.seq.clock / 1000000⟩)
      let w := if low then u.handOver (.lockOffLow n) else u
      let t := s.lockedOff n
      t.store = (w.handOver (.closing n .pass (some s.scan.lc.toNat))).store
      ∧ t.crew = { s.crew with phase := .locked } ∧ t.lease.state = .idle ∧ t.lease.ask = none
      ∧ (s.crew.phase = .stressing → t.lease.deferred = []) ∧ t.seq.sub = none ∧ t.seq.request = none
      ∧ t.seq.clockOn = false ∧ t.seq.tripMark = false ∧ (low → t.seq.lockOffLow = true)
      ∧ t.aft.sub = some .watch ∧ t.aft.target = some s.stepTarget ∧ t.aft.slot = some n
      ∧ t.aft.count = 0 ∧ t.aft.lossExcess = false ∧ t.aft.lowTime = 0 ∧ t.aft.recovery = 0
      ∧ t.aft.request = none ∧ t.trip = s.trip ∧ t.roster = s.roster)

/-- In WATCH a low time at the deglitch time with a count below 3 makes PENDING: with a slot in hand, or
a TOPUP_ONLY slot newly opened, its RESTORE request is presented (RequestsAreCheckedInOrder), and taken
with a new stamp where the lease takes it; with no slot to open it waits with STORE_FULL. With a count
of 3 it sets the loss-excess flag, marks the slot if there is one, and places the ALERT LOSS_EXCESS with
LC, its low 16 bits (log entry 25, DEDUCED), unless listen-only, and stays in WATCH. In PENDING a
recovery time at the deglitch time with the lease IDLE drops the request, whatever it waits for (log
entry 44, DEDUCED), returns to WATCH and grants the deferred list; with the lease ASKING the ask is
withdrawn first, RESTORE entries are granted and then the rest. The top-up seating timer enters RELEASE,
the relief valve called (log entry 46, DEDUCED). The settle timer reads the after load where a scan at
or after its end, not under a SENSOR_FAULT naming LC, has been published (ScanInLocked): the entry OK
with before and after load, the count one up, the lease released with what R44 grants, WATCH; else the
top-up waits in SETTLE for that scan (log entry 14, DEDUCED). What is left of a timer passes for every
timer (log entry 3), and what a scan brings due is taken by its own command or by the next scan (log
entry 4): the choice of the model. Else only time changes the state. Ramp values and recovery time 0
afterwards are the choice of the model (log entry 39). -/
def Obligations.AftercareEvents : Prop :=
  (∀ (n : Nat) (s : State), s.crew.phase = .locked → s.aft.sub = some .watch → s.aft.lossExcess = false →
    0 < s.aft.lowTime → s.par.topUpScans ≤ s.aft.lowTime → s.aft.count < 3 → s.aft.slot = some n →
    s.wouldTake false → s.presentMembers ≠ [] →
    ∃ t, exec .lowTimeReached s = .next t
        ∧ t =
            { s with
              lif := t.lif, lease := t.lease, aft := t.aft, scan := t.scan, trip := t.trip,
              drives := t.drives }
        ∧ t.lif = { s.lif with ask := t.lif.ask, tx := t.lif.tx }
        ∧ t.lease =
            { s.lease with
              state := t.lease.state, clock := t.lease.clock, ask := t.lease.ask,
              required := t.lease.required, askTimer := t.lease.askTimer, hold := t.lease.hold }
        ∧ t.aft =
            { s.aft with
              sub := t.aft.sub, lowTime := t.aft.lowTime, recovery := t.aft.recovery,
              request := t.aft.request }
        ∧ s.settles t
        ∧ t.aft.sub = some .pending ∧ t.aft.lowTime = 0
      ∧ t.aft.recovery = 0 ∧ t.aft.request = some ⟨.restore, false, .taken⟩ ∧ t.aft.count = s.aft.count
      ∧ t.lease.state = .asking ∧ t.lease.clock = s.lease.clock + 1
      ∧ t.lease.ask = some ⟨.restore, false, s.lease.clock + 1, 1⟩ ∧ t.store = s.store
      ∧ t.crew = s.crew)
  ∧ (∀ (n : Nat) (s : State), s.crew.phase = .locked → s.aft.sub = some .watch → s.aft.lossExcess = false →
      0 < s.aft.lowTime → s.par.topUpScans ≤ s.aft.lowTime → s.aft.count = 3 → s.aft.slot = some n →
      exec .lowTimeReached s = .next (State.finish
        { s with
          aft := { s.aft with lowTime := 0, lossExcess := true }
          store := (s.handOver (.lossExcess n)).store
          lif :=
            { s.lif with
              alert :=
                if s.listenOnly then s.lif.alert
                else some ⟨⟨.lossExcess, .locked, BitVec.ofNat 16 s.scan.lc.toNat⟩, 0⟩ } }))
  ∧ (∀ s : State, s.crew.phase = .locked → s.aft.sub = some .pending → 0 < s.aft.recovery →
      s.par.topUpScans ≤ s.aft.recovery → s.lease.state = .idle →
      ∃ t, exec .recoveryTimeReached s = .next t
        ∧ t =
            { s with
              lif := t.lif, lease := t.lease, aft := t.aft, scan := t.scan, trip := t.trip,
              drives := t.drives }
        ∧ t.lif = { s.lif with batch := s.batchGranting s.lease.deferred, tx := t.lif.tx }
        ∧ t.lease = { s.lease with deferred := [] }
        ∧ t.aft =
            { s.aft with
              sub := t.aft.sub, lowTime := t.aft.lowTime, recovery := t.aft.recovery,
              request := t.aft.request }
        ∧ s.settles t
        ∧ t.aft.sub = some .watch ∧ t.aft.request = none
        ∧ t.aft.lowTime = 0 ∧ t.aft.recovery = 0 ∧ t.aft.count = s.aft.count ∧ t.lease.state = .idle
        ∧ t.lease.deferred = [] ∧ t.store = s.store ∧ t.crew = s.crew)
  ∧ (∀ s : State, s.crew.phase = .locked → s.aft.sub = some .topUp → s.aft.stage = some .seating →
      s.aft.jack.seating.on = true →
      ∃ t, exec .topupSeatingEnd s = .next t
        ∧ t =
            { s.expire s.aft.jack.seating with
              lif := t.lif, aft := t.aft, scan := t.scan, trip := t.trip, drives := t.drives }
        ∧ t.lif = { (s.expire s.aft.jack.seating).lif with tx := t.lif.tx }
        ∧ t.aft = { (s.expire s.aft.jack.seating).aft with stage := t.aft.stage, jack := t.aft.jack }
        ∧ (s.expire s.aft.jack.seating).settles t
        ∧ t.aft.sub = some .topUp ∧ t.aft.stage = some .release
        ∧ t.aft.jack.unload = ⟨true, 0, (120 * s.jackLoad / s.par.rampRate + 60) * 1000000⟩
        ∧ t.aft.jack.lower = true
        ∧ t.drives.seating = false ∧ t.lease = (s.expire s.aft.jack.seating).lease)
  ∧ (∀ (n : Nat) (s : State), s.crew.phase = .locked → s.aft.sub = some .topUp → s.aft.stage = some .settle →
      s.aft.jack.settle.on = true → s.aft.jack.readDue = true → s.aft.slot = some n →
      s.lease.state = .holding → s.request.map Request.status = some .taken →
      exec .topupSettleEnd s = .next (State.finish
        ((s.expire s.aft.jack.settle).topUpEnded n s.scan.lc.toNat true)))
  ∧ (∀ s : State, s.crew.phase = .locked → s.aft.sub = some .topUp → s.aft.stage = some .settle →
      s.aft.jack.settle.on = true → s.aft.jack.readDue = false →
      exec .topupSettleEnd s = .next (State.finish
        { s.expire s.aft.jack.settle with
          aft :=
            { (s.expire s.aft.jack.settle).aft with
              jack := { (s.expire s.aft.jack.settle).aft.jack with settle := .off, settled := true } } }))
  ∧ (∀ s : State, s.crew.phase = .locked → s.aft.sub = some .watch → s.aft.lossExcess = false →
      0 < s.aft.lowTime → s.par.topUpScans ≤ s.aft.lowTime → s.aft.count < 3 →
      let w : State := { s with aft := { s.aft with sub := some .pending, lowTime := 0, recovery := 0 } }
      (s.aft.slot ≠ none →
        exec .lowTimeReached s = .next (State.finish (State.present
          { w with aft := { w.aft with request := some ⟨.restore, false, .waiting none⟩ } })))
      ∧ (∀ m, s.aft.slot = none → s.chooseSlot = some m →
          exec .lowTimeReached s = .next (State.finish (State.present
            { w with
              store := (s.openSlot .topUpOnly m).store
              aft := { w.aft with slot := some m, request := some ⟨.restore, false, .waiting none⟩ } })))
      ∧ (s.aft.slot = none → s.chooseSlot = none →
          exec .lowTimeReached s = .next (State.finish
            { w with
              aft := { w.aft with request := some ⟨.restore, false, .waiting (some .storeFull)⟩ } })))
  ∧ (∀ s : State, s.crew.phase = .locked → s.aft.sub = some .watch → s.aft.lossExcess = false →
      0 < s.aft.lowTime → s.par.topUpScans ≤ s.aft.lowTime → s.aft.count = 3 → s.aft.slot = none →
      exec .lowTimeReached s = .next (State.finish
        { s with
          aft := { s.aft with lowTime := 0, lossExcess := true }
          lif :=
            { s.lif with
              alert :=
                if s.listenOnly then s.lif.alert
                else some ⟨⟨.lossExcess, .locked, BitVec.ofNat 16 s.scan.lc.toNat⟩, 0⟩ } }))
  ∧ (∀ s : State, s.crew.phase = .locked → s.aft.sub = some .pending → 0 < s.aft.recovery →
      s.par.topUpScans ≤ s.aft.recovery → s.lease.state = .asking → s.listenOnly = false →
      let granted := fun es (d : Deferred) => putReply ⟨d.number, d.stamp, .grant, .none⟩ es
      exec .recoveryTimeReached s = .next (State.finish
        { s with
          aft := { s.aft with sub := some .watch, request := none, lowTime := 0, recovery := 0 }
          lease :=
            { s.lease with
              state := .idle, ask := none, required := [], askTimer := .off, hold := .off, deferred := [] }
          lif :=
            { s.lif with
              ask := some ⟨.withdraw s.askStamp, 0⟩
              batch :=
                { s.lif.batch with
                  frame :=
                    ((s.lease.deferred.filter fun d => d.cls == .restore)
                        ++ s.lease.deferred.filter fun d => !(d.cls == .restore)).foldl granted
                      s.lif.batch.frame } } }))
  ∧ (∀ s : State, s.crew.phase = .locked → s.aft.sub = some .pending → s.lease.state = .asking →
      0 < s.aft.recovery → s.par.topUpScans ≤ s.aft.recovery → s.listenOnly = true →
      exec .recoveryTimeReached s = .next (State.finish
        { s with
          aft := { s.aft with sub := some .watch, request := none, lowTime := 0, recovery := 0 }
          lease :=
            { s.lease with
              state := .idle, ask := none, required := [], askTimer := .off, hold := .off, deferred := [] } }))

/-- A completed write applies the head job to the memory and takes it from the queue; with no job
waiting nothing happens (log entry 5, the choice of the model). A change of the KEEP pin sets the
reading, and a top-up that waits with STORE_FULL asks afresh for a slot; a reading that is no change
does nothing. The retry finds no slot: the request goes on waiting with STORE_FULL. It finds one: a
TOPUP_ONLY slot is opened and becomes the top-up slot, and the RESTORE request is presented
(RequestsAreCheckedInOrder). Where the recovery time has reached its deglitch time at that moment the
order is a free value (R154, log entry 31): the request is presented, or the slot stays the top-up slot
with WATCH taken up, no request, and the deferred list granted. An accepted hand-over with room in the
queue changes the image at once and places one job at the tail; one that is not accepted leaves no
trace. That the recovery time is 0 once PENDING has been left is the choice of the model (log entry 39).
-/
def Obligations.StorePinQueueAndRetries : Prop :=
  (∀ (j : Job) (rest : List Job) (s : State), s.store.queue = j :: rest →
    exec .writeJobComplete s = .next (State.finish
      { s with store := { s.store with nv := applyJob s.store.nv j, queue := rest } }))
  ∧ (∀ s : State, s.store.queue = [] → exec .writeJobComplete s = .next s.finish)
  ∧ (∀ (high : Bool) (s : State), (s.pendingTopUp = false ∨ s.waitsWith (some .storeFull) = false) →
      exec (.keepPinChange high) s = .next (State.finish
        { s with store := { s.store with keepPin := high } }))
  ∧ (∀ (j : Job) (s : State), acceptsJob s.store.image j = true → s.store.queue.length < 4 →
      s.handOver j =
        { s with
          store :=
            { s.store with image := applyJob s.store.image j, queue := s.store.queue ++ [j] } })
  ∧ (∀ (j : Job) (s : State), acceptsJob s.store.image j = false → s.handOver j = s)
  ∧ (∀ (high : Bool) (s : State),
      exec (.keepPinChange high) s = .next (State.finish
        (if s.store.keepPin = high then s
          else State.retryStoreFull { s with store := { s.store with keepPin := high } })))
  ∧ (∀ s : State, (s.pendingTopUp = false ∨ s.waitsWith (some .storeFull) = false) → s.retryStoreFull = s)
  ∧ (∀ s : State, s.crew.phase = .locked → s.aft.sub = some .pending →
      s.waitsWith (some .storeFull) = true → s.aft.slot = none → s.chooseSlot = none →
      s.retryStoreFull =
        { s with aft := { s.aft with request := some ⟨.restore, false, .waiting (some .storeFull)⟩ } })
  ∧ (∀ (n : Nat) (s : State), s.crew.phase = .locked → s.aft.sub = some .pending → s.lease.state = .idle →
      s.waitsWith (some .storeFull) = true → s.aft.slot = none → s.chooseSlot = some n →
      let opened (k : Nat) : State :=
        { s with free := s.free + k, store := (s.openSlot .topUpOnly n).store }
      let asked (k : Nat) : State :=
        State.present
          { opened k with aft := { s.aft with slot := some n, request := some ⟨.restore, false, .waiting none⟩ } }
      ((s.aft.recovery = 0 ∨ s.aft.recovery < s.par.topUpScans) → s.retryStoreFull = asked 0)
      ∧ (0 < s.aft.recovery → s.par.topUpScans ≤ s.aft.recovery →
          s.retryStoreFull = asked 1
          ∨ s.retryStoreFull =
              { opened 1 with
                aft :=
                  { s.aft with
                    slot := some n, sub := some .watch, request := none, lowTime := 0, recovery := 0 }
                lease := { s.lease with deferred := [] }
                lif := { s.lif with batch := s.batchGranting s.lease.deferred } }))

/-- The slot chosen is the FREE slot of lowest number; with none, the CLOSED slot with an ABORTED
verdict of lowest number; with none, and KEEP low or not honoured, the CLOSED exported slot of another
label with the lowest test number; else none. The opening writes a fresh header with the next test
number, from 65,535 to 1, which is never 0, the binding's label and wall code and the own number, with
no points, verdict, flags, residual or top-ups, OPEN for a TEST and CLOSED for TOPUP_ONLY, and raises
the counter in the same job. Without a binding the label is empty and KEEP not honoured (chosen by the
model, log entry 20). -/
def Obligations.SlotsAreChosenAndOpened : Prop :=
  (∀ (s : State) (n : Nat), s.chooseSlot = some n →
    1 ≤ n ∧ n ≤ s.store.image.slots.length
    ∧ ((s.store.image.slots[n - 1]? = some none
          ∧ ∀ m : Nat, m < n - 1 → s.store.image.slots[m]? ≠ some none)
        ∨ ((∀ m : Nat, s.store.image.slots[m]? ≠ some none)
            ∧ ∃ r, s.store.image.slots[n - 1]? = some (some r)
              ∧ ((slotAborted (some r) = true
                    ∧ ∀ (m : Nat) (x : Option SlotRecord), m < n - 1 → s.store.image.slots[m]? = some x → slotAborted x = false)
                  ∨ ((∀ x ∈ s.store.image.slots, slotAborted x = false)
                      ∧ (s.store.keepPin = false ∨ s.par.keepHonour = false)
                      ∧ r.isOpen = false ∧ r.exported = true ∧ r.label ≠ s.par.label
                      ∧ ∀ q, some q ∈ s.store.image.slots → q.isOpen = false → q.exported = true →
                          q.label ≠ s.par.label → r.number ≤ q.number)))))
  ∧ (∀ s : State, s.chooseSlot = none →
      (∀ x ∈ s.store.image.slots, x ≠ none ∧ slotAborted x = false)
      ∧ ((s.store.keepPin = true ∧ s.par.keepHonour = true)
          ∨ ∀ q, some q ∈ s.store.image.slots → q.isOpen = false → q.exported = true →
              q.label = s.par.label))
  ∧ (∀ (k : SlotKind) (n : Nat) (s : State), 1 ≤ n → n ≤ 8 → s.store.image.slots.length = 8 →
      let next := if s.store.image.counter = 65535#16 then 1 else s.store.image.counter + 1
      next ≠ 0 ∧ (s.openSlot k n).store.image.counter = next
      ∧ ∃ r, (s.openSlot k n).store.image.slot n = some r
        ∧ r.number = next ∧ r.kind = k ∧ r.isOpen = (k == .test) ∧ r.label = s.par.label
        ∧ r.wall = s.par.wall ∧ r.station = s.ownNumber ∧ r.points = [] ∧ r.verdict = none
        ∧ r.extended = false ∧ r.lockOffLow = false ∧ r.residual = none ∧ r.topUps = []
        ∧ r.lossExcess = false ∧ r.exported = false
        ∧ (s.openSlot k n).store.queue.getLast? = some (.header n r next))

/-- Every command in every state answers a next state. In it the outputs are the ones the state gives;
the pump is on only while the lease is HOLDING, no latch is set and HOLD is off; the relief valve is
open only while the lease is HOLDING and HOLD is off; the grout valve is open only in FILL and PRESS
with no latch and HOLD off; the winch is on only in PAYOUT with no latch and HOLD off. What the state
gives: the winch is on just in PAYOUT with HOLD off and no latch. With HOLD off and no latch the grout
valve is open in FILL and modulated in PRESS, else closed. The pump is on just when the lease is
HOLDING, HOLD is off, no latch is set and RAMP or HOLD_LOAD of a test, or LIFT or RAMP of a top-up,
calls for raising. The relief valve is open just when the lease is HOLDING, HOLD is off and RAMP with no
latch, or an unload with latches or without, calls for lowering. The lock valve is seating just in
SEATING of a test or a top-up. The lamp shows the first row that holds: strap fault, start-up not ended,
DETACHED, HELD, store-full, SETUP or REJECTED, waiting for the crew, any other. When each pattern is lit
follows the time since it began. -/
def Obligations.OutputsObeyTheirLaws : Prop :=
  (∀ (c : Instr) (s : State), ∃ t, exec c s = .next t ∧ t.drivesFollow ∧ t.drivesSafe)
  ∧ (∀ s : State,
      (s.winchOn = true ↔
        s.crew.phase = .placing ∧ s.placement.sub = some .payout ∧ s.crew.hold = false ∧ s.trip.latches = [])
      ∧ s.valveOf =
          (if s.crew.phase = .grouting ∧ s.crew.hold = false ∧ s.trip.latches = [] then
            if s.grout.sub = some .fill then .opened
            else if s.grout.sub = some .press then .modulated
            else .closed
          else .closed)
      ∧ (s.pumpOn = true ↔
        s.lease.state = .holding ∧ s.crew.hold = false ∧ s.trip.latches = []
        ∧ ((s.crew.phase = .stressing ∧ (s.seq.sub = some .ramp ∨ s.seq.sub = some .holdLoad)
              ∧ s.seq.jack.raise = true)
          ∨ (s.crew.phase = .locked ∧ s.aft.sub = some .topUp
              ∧ (s.aft.stage = some .lift ∨ s.aft.stage = some .ramp) ∧ s.aft.jack.raise = true)))
      ∧ (s.reliefOpen = true ↔
        s.lease.state = .holding ∧ s.crew.hold = false
        ∧ ((s.crew.phase = .stressing ∧ s.seq.jack.lower = true
              ∧ ((s.seq.sub = some .ramp ∧ s.trip.latches = []) ∨ s.seq.sub = some .release
                ∨ s.seq.sub = some .failUnload ∨ s.seq.sub = some .abortUnload))
          ∨ (s.crew.phase = .locked ∧ s.aft.sub = some .topUp ∧ s.aft.jack.lower = true
              ∧ ((s.aft.stage = some .ramp ∧ s.trip.latches = []) ∨ s.aft.stage = some .release
                ∨ s.aft.stage = some .abortUnload))))
      ∧ (s.seatingOn = true ↔
        (s.crew.phase = .stressing ∧ s.seq.sub = some .seating)
        ∨ (s.crew.phase = .locked ∧ s.aft.sub = some .topUp ∧ s.aft.stage = some .seating))
      ∧ s.lampPattern =
          (if s.lif.straps = 0 ∨ s.lif.straps = 63 then .fastBlink
          else if s.crew.stage ≠ .online then .off
          else if s.crew.phase = .detached then .shortFlash
          else if s.trip.latches ≠ [] then .fastBlink
          else if s.crew.storeFull = true then .doubleBlink
          else if s.crew.phase = .setup ∨ s.crew.phase = .rejected then .off
          else if (s.crew.phase = .placing
                ∧ (s.placement.sub = some .waitGo ∨ s.placement.sub = some .slack ∨ s.crew.hold = true))
              ∨ (s.crew.phase = .grouting
                ∧ (s.grout.sub = some .waitGo ∨ s.grout.sub = some .supplyWeak ∨ s.crew.hold = true))
              ∨ s.crew.phase = .cured ∨ (s.crew.phase = .stressing ∧ s.crew.hold = true)
              ∨ (s.crew.phase = .locked ∧ s.aft.sub = some .topUp ∧ s.crew.hold = true) then .steady
          else .slowBlink))
  ∧ (∀ us : Nat,
      lampLit .off us = false ∧ lampLit .steady us = true
      ∧ (lampLit .slowBlink us = true ↔ us % 1000000 < 500000)
      ∧ (lampLit .fastBlink us = true ↔ us % 200000 < 100000)
      ∧ (lampLit .doubleBlink us = true ↔
          us % 1500000 < 150000 ∨ (300000 ≤ us % 1500000 ∧ us % 1500000 < 450000))
      ∧ (lampLit .shortFlash us = true ↔ us % 4000000 < 100000))

/-- Every command but POWER_ON and STORE_SCAN_END keeps the store sound: the image is what the memory
becomes when the waiting jobs are made in order, at most four jobs wait, and at no point of that
sequence does a slot hold more than 24 points or 3 top-up entries. Every command, those two included,
keeps this: in the store scan the phase is SETUP or DETACHED, the image shows the memory with every OPEN
slot closed as ABORTED(POWER), no job waits and the memory is within its limits; in every other stage
the store is sound. So the store is sound again when the store scan ends. That a hand-over to a full
queue first writes the head job, which the spec says never comes about, is DEDUCED (log entry 9,
unsafe). -/
def Obligations.StoreStaysSound : Prop :=
  (∀ (c : Instr) (s t : State), (∀ a b d, c ≠ .powerOn a b d) → c ≠ .storeScanEnd → exec c s = .next t →
    s.store.sound → t.store.sound)
  ∧ (∀ (c : Instr) (s t : State), exec c s = .next t → s.storeStands → t.storeStands)

/-- Every command keeps these: the deferred list is empty whenever the lease is IDLE, the phase is
neither GROUTING nor SETTING and no top-up is PENDING; and the deferred list, the reply batch and a
batch being sent hold at most one entry per neighbour. -/
def Obligations.DeferredListIsAnswered : Prop :=
  ∀ (c : Instr) (s t : State), exec c s = .next t →
    (s.listAnswered → t.listAnswered) ∧ (s.onePerNeighbour → t.onePerNeighbour)

/-- Every command keeps this: in IDLE no sub-state or stage that moves load stands, and a request is
held just in WAIT_LEASE, ABORT_WAIT and PENDING, and it waits; in ASKING one of those three stands and
its request is taken; in HOLDING a sub-state of a test other than WAIT_LEASE and ABORT_WAIT, or TOPUP,
stands. So the lease is ASKING or HOLDING only in STRESSING and LOCKED. -/
def Obligations.LeaseFitsTheWork : Prop :=
  ∀ (c : Instr) (s t : State), exec c s = .next t → s.leaseFits → t.leaseFits

/-- Every command but POWER_ON leaves an accepted binding with its parameters and the numbers of its
roster in their order, never lowers the clock, leaves the straps, and leaves the commands that wait. -/
def Obligations.BindingRosterAndClockStand : Prop :=
  ∀ (c : Instr) (s t : State), (∀ a b d, c ≠ .powerOn a b d) → exec c s = .next t →
    (∀ b, s.binding = some b → t.binding = some b ∧ t.numbers = s.numbers)
    ∧ s.lease.clock ≤ t.lease.clock ∧ t.lif.straps = s.lif.straps ∧ t.pending = s.pending

end
end

