-- ==== Sys2Proof/Laws/State.lean ====
section
/-! SUPPORT. What each named update of the state leaves and what it changes: one lemma per field per update. -/

namespace Sys2Proof.Machine

@[simp] theorem State.onLif_pending (s : State) (g : Lif → Lif) : (s.onLif g).pending = s.pending := rfl
@[simp] theorem State.onLif_free (s : State) (g : Lif → Lif) : (s.onLif g).free = s.free := rfl
@[simp] theorem State.onLif_binding (s : State) (g : Lif → Lif) : (s.onLif g).binding = s.binding := rfl
@[simp] theorem State.onLif_lif (s : State) (g : Lif → Lif) : (s.onLif g).lif = g s.lif := rfl
@[simp] theorem State.onLif_roster (s : State) (g : Lif → Lif) : (s.onLif g).roster = s.roster := rfl
@[simp] theorem State.onLif_lease (s : State) (g : Lif → Lif) : (s.onLif g).lease = s.lease := rfl
@[simp] theorem State.onLif_crew (s : State) (g : Lif → Lif) : (s.onLif g).crew = s.crew := rfl
@[simp] theorem State.onLif_placement (s : State) (g : Lif → Lif) : (s.onLif g).placement = s.placement := rfl
@[simp] theorem State.onLif_grout (s : State) (g : Lif → Lif) : (s.onLif g).grout = s.grout := rfl
@[simp] theorem State.onLif_seq (s : State) (g : Lif → Lif) : (s.onLif g).seq = s.seq := rfl
@[simp] theorem State.onLif_aft (s : State) (g : Lif → Lif) : (s.onLif g).aft = s.aft := rfl
@[simp] theorem State.onLif_scan (s : State) (g : Lif → Lif) : (s.onLif g).scan = s.scan := rfl
@[simp] theorem State.onLif_trip (s : State) (g : Lif → Lif) : (s.onLif g).trip = s.trip := rfl
@[simp] theorem State.onLif_store (s : State) (g : Lif → Lif) : (s.onLif g).store = s.store := rfl
@[simp] theorem State.onLif_drives (s : State) (g : Lif → Lif) : (s.onLif g).drives = s.drives := rfl

@[simp] theorem State.onRoster_pending (s : State) (g : Roster → Roster) : (s.onRoster g).pending = s.pending := rfl
@[simp] theorem State.onRoster_free (s : State) (g : Roster → Roster) : (s.onRoster g).free = s.free := rfl
@[simp] theorem State.onRoster_binding (s : State) (g : Roster → Roster) : (s.onRoster g).binding = s.binding := rfl
@[simp] theorem State.onRoster_lif (s : State) (g : Roster → Roster) : (s.onRoster g).lif = s.lif := rfl
@[simp] theorem State.onRoster_roster (s : State) (g : Roster → Roster) : (s.onRoster g).roster = g s.roster := rfl
@[simp] theorem State.onRoster_lease (s : State) (g : Roster → Roster) : (s.onRoster g).lease = s.lease := rfl
@[simp] theorem State.onRoster_crew (s : State) (g : Roster → Roster) : (s.onRoster g).crew = s.crew := rfl
@[simp] theorem State.onRoster_placement (s : State) (g : Roster → Roster) : (s.onRoster g).placement = s.placement := rfl
@[simp] theorem State.onRoster_grout (s : State) (g : Roster → Roster) : (s.onRoster g).grout = s.grout := rfl
@[simp] theorem State.onRoster_seq (s : State) (g : Roster → Roster) : (s.onRoster g).seq = s.seq := rfl
@[simp] theorem State.onRoster_aft (s : State) (g : Roster → Roster) : (s.onRoster g).aft = s.aft := rfl
@[simp] theorem State.onRoster_scan (s : State) (g : Roster → Roster) : (s.onRoster g).scan = s.scan := rfl
@[simp] theorem State.onRoster_trip (s : State) (g : Roster → Roster) : (s.onRoster g).trip = s.trip := rfl
@[simp] theorem State.onRoster_store (s : State) (g : Roster → Roster) : (s.onRoster g).store = s.store := rfl
@[simp] theorem State.onRoster_drives (s : State) (g : Roster → Roster) : (s.onRoster g).drives = s.drives := rfl

@[simp] theorem State.onLease_pending (s : State) (g : Lease → Lease) : (s.onLease g).pending = s.pending := rfl
@[simp] theorem State.onLease_free (s : State) (g : Lease → Lease) : (s.onLease g).free = s.free := rfl
@[simp] theorem State.onLease_binding (s : State) (g : Lease → Lease) : (s.onLease g).binding = s.binding := rfl
@[simp] theorem State.onLease_lif (s : State) (g : Lease → Lease) : (s.onLease g).lif = s.lif := rfl
@[simp] theorem State.onLease_roster (s : State) (g : Lease → Lease) : (s.onLease g).roster = s.roster := rfl
@[simp] theorem State.onLease_lease (s : State) (g : Lease → Lease) : (s.onLease g).lease = g s.lease := rfl
@[simp] theorem State.onLease_crew (s : State) (g : Lease → Lease) : (s.onLease g).crew = s.crew := rfl
@[simp] theorem State.onLease_placement (s : State) (g : Lease → Lease) : (s.onLease g).placement = s.placement := rfl
@[simp] theorem State.onLease_grout (s : State) (g : Lease → Lease) : (s.onLease g).grout = s.grout := rfl
@[simp] theorem State.onLease_seq (s : State) (g : Lease → Lease) : (s.onLease g).seq = s.seq := rfl
@[simp] theorem State.onLease_aft (s : State) (g : Lease → Lease) : (s.onLease g).aft = s.aft := rfl
@[simp] theorem State.onLease_scan (s : State) (g : Lease → Lease) : (s.onLease g).scan = s.scan := rfl
@[simp] theorem State.onLease_trip (s : State) (g : Lease → Lease) : (s.onLease g).trip = s.trip := rfl
@[simp] theorem State.onLease_store (s : State) (g : Lease → Lease) : (s.onLease g).store = s.store := rfl
@[simp] theorem State.onLease_drives (s : State) (g : Lease → Lease) : (s.onLease g).drives = s.drives := rfl

@[simp] theorem State.onCrew_pending (s : State) (g : Crew → Crew) : (s.onCrew g).pending = s.pending := rfl
@[simp] theorem State.onCrew_free (s : State) (g : Crew → Crew) : (s.onCrew g).free = s.free := rfl
@[simp] theorem State.onCrew_binding (s : State) (g : Crew → Crew) : (s.onCrew g).binding = s.binding := rfl
@[simp] theorem State.onCrew_lif (s : State) (g : Crew → Crew) : (s.onCrew g).lif = s.lif := rfl
@[simp] theorem State.onCrew_roster (s : State) (g : Crew → Crew) : (s.onCrew g).roster = s.roster := rfl
@[simp] theorem State.onCrew_lease (s : State) (g : Crew → Crew) : (s.onCrew g).lease = s.lease := rfl
@[simp] theorem State.onCrew_crew (s : State) (g : Crew → Crew) : (s.onCrew g).crew = g s.crew := rfl
@[simp] theorem State.onCrew_placement (s : State) (g : Crew → Crew) : (s.onCrew g).placement = s.placement := rfl
@[simp] theorem State.onCrew_grout (s : State) (g : Crew → Crew) : (s.onCrew g).grout = s.grout := rfl
@[simp] theorem State.onCrew_seq (s : State) (g : Crew → Crew) : (s.onCrew g).seq = s.seq := rfl
@[simp] theorem State.onCrew_aft (s : State) (g : Crew → Crew) : (s.onCrew g).aft = s.aft := rfl
@[simp] theorem State.onCrew_scan (s : State) (g : Crew → Crew) : (s.onCrew g).scan = s.scan := rfl
@[simp] theorem State.onCrew_trip (s : State) (g : Crew → Crew) : (s.onCrew g).trip = s.trip := rfl
@[simp] theorem State.onCrew_store (s : State) (g : Crew → Crew) : (s.onCrew g).store = s.store := rfl
@[simp] theorem State.onCrew_drives (s : State) (g : Crew → Crew) : (s.onCrew g).drives = s.drives := rfl

@[simp] theorem State.onPlacement_pending (s : State) (g : Placement → Placement) : (s.onPlacement g).pending = s.pending := rfl
@[simp] theorem State.onPlacement_free (s : State) (g : Placement → Placement) : (s.onPlacement g).free = s.free := rfl
@[simp] theorem State.onPlacement_binding (s : State) (g : Placement → Placement) : (s.onPlacement g).binding = s.binding := rfl
@[simp] theorem State.onPlacement_lif (s : State) (g : Placement → Placement) : (s.onPlacement g).lif = s.lif := rfl
@[simp] theorem State.onPlacement_roster (s : State) (g : Placement → Placement) : (s.onPlacement g).roster = s.roster := rfl
@[simp] theorem State.onPlacement_lease (s : State) (g : Placement → Placement) : (s.onPlacement g).lease = s.lease := rfl
@[simp] theorem State.onPlacement_crew (s : State) (g : Placement → Placement) : (s.onPlacement g).crew = s.crew := rfl
@[simp] theorem State.onPlacement_placement (s : State) (g : Placement → Placement) : (s.onPlacement g).placement = g s.placement := rfl
@[simp] theorem State.onPlacement_grout (s : State) (g : Placement → Placement) : (s.onPlacement g).grout = s.grout := rfl
@[simp] theorem State.onPlacement_seq (s : State) (g : Placement → Placement) : (s.onPlacement g).seq = s.seq := rfl
@[simp] theorem State.onPlacement_aft (s : State) (g : Placement → Placement) : (s.onPlacement g).aft = s.aft := rfl
@[simp] theorem State.onPlacement_scan (s : State) (g : Placement → Placement) : (s.onPlacement g).scan = s.scan := rfl
@[simp] theorem State.onPlacement_trip (s : State) (g : Placement → Placement) : (s.onPlacement g).trip = s.trip := rfl
@[simp] theorem State.onPlacement_store (s : State) (g : Placement → Placement) : (s.onPlacement g).store = s.store := rfl
@[simp] theorem State.onPlacement_drives (s : State) (g : Placement → Placement) : (s.onPlacement g).drives = s.drives := rfl

@[simp] theorem State.onGrout_pending (s : State) (g : Grout → Grout) : (s.onGrout g).pending = s.pending := rfl
@[simp] theorem State.onGrout_free (s : State) (g : Grout → Grout) : (s.onGrout g).free = s.free := rfl
@[simp] theorem State.onGrout_binding (s : State) (g : Grout → Grout) : (s.onGrout g).binding = s.binding := rfl
@[simp] theorem State.onGrout_lif (s : State) (g : Grout → Grout) : (s.onGrout g).lif = s.lif := rfl
@[simp] theorem State.onGrout_roster (s : State) (g : Grout → Grout) : (s.onGrout g).roster = s.roster := rfl
@[simp] theorem State.onGrout_lease (s : State) (g : Grout → Grout) : (s.onGrout g).lease = s.lease := rfl
@[simp] theorem State.onGrout_crew (s : State) (g : Grout → Grout) : (s.onGrout g).crew = s.crew := rfl
@[simp] theorem State.onGrout_placement (s : State) (g : Grout → Grout) : (s.onGrout g).placement = s.placement := rfl
@[simp] theorem State.onGrout_grout (s : State) (g : Grout → Grout) : (s.onGrout g).grout = g s.grout := rfl
@[simp] theorem State.onGrout_seq (s : State) (g : Grout → Grout) : (s.onGrout g).seq = s.seq := rfl
@[simp] theorem State.onGrout_aft (s : State) (g : Grout → Grout) : (s.onGrout g).aft = s.aft := rfl
@[simp] theorem State.onGrout_scan (s : State) (g : Grout → Grout) : (s.onGrout g).scan = s.scan := rfl
@[simp] theorem State.onGrout_trip (s : State) (g : Grout → Grout) : (s.onGrout g).trip = s.trip := rfl
@[simp] theorem State.onGrout_store (s : State) (g : Grout → Grout) : (s.onGrout g).store = s.store := rfl
@[simp] theorem State.onGrout_drives (s : State) (g : Grout → Grout) : (s.onGrout g).drives = s.drives := rfl

@[simp] theorem State.onSeq_pending (s : State) (g : Seq → Seq) : (s.onSeq g).pending = s.pending := rfl
@[simp] theorem State.onSeq_free (s : State) (g : Seq → Seq) : (s.onSeq g).free = s.free := rfl
@[simp] theorem State.onSeq_binding (s : State) (g : Seq → Seq) : (s.onSeq g).binding = s.binding := rfl
@[simp] theorem State.onSeq_lif (s : State) (g : Seq → Seq) : (s.onSeq g).lif = s.lif := rfl
@[simp] theorem State.onSeq_roster (s : State) (g : Seq → Seq) : (s.onSeq g).roster = s.roster := rfl
@[simp] theorem State.onSeq_lease (s : State) (g : Seq → Seq) : (s.onSeq g).lease = s.lease := rfl
@[simp] theorem State.onSeq_crew (s : State) (g : Seq → Seq) : (s.onSeq g).crew = s.crew := rfl
@[simp] theorem State.onSeq_placement (s : State) (g : Seq → Seq) : (s.onSeq g).placement = s.placement := rfl
@[simp] theorem State.onSeq_grout (s : State) (g : Seq → Seq) : (s.onSeq g).grout = s.grout := rfl
@[simp] theorem State.onSeq_seq (s : State) (g : Seq → Seq) : (s.onSeq g).seq = g s.seq := rfl
@[simp] theorem State.onSeq_aft (s : State) (g : Seq → Seq) : (s.onSeq g).aft = s.aft := rfl
@[simp] theorem State.onSeq_scan (s : State) (g : Seq → Seq) : (s.onSeq g).scan = s.scan := rfl
@[simp] theorem State.onSeq_trip (s : State) (g : Seq → Seq) : (s.onSeq g).trip = s.trip := rfl
@[simp] theorem State.onSeq_store (s : State) (g : Seq → Seq) : (s.onSeq g).store = s.store := rfl
@[simp] theorem State.onSeq_drives (s : State) (g : Seq → Seq) : (s.onSeq g).drives = s.drives := rfl

@[simp] theorem State.onAft_pending (s : State) (g : Aft → Aft) : (s.onAft g).pending = s.pending := rfl
@[simp] theorem State.onAft_free (s : State) (g : Aft → Aft) : (s.onAft g).free = s.free := rfl
@[simp] theorem State.onAft_binding (s : State) (g : Aft → Aft) : (s.onAft g).binding = s.binding := rfl
@[simp] theorem State.onAft_lif (s : State) (g : Aft → Aft) : (s.onAft g).lif = s.lif := rfl
@[simp] theorem State.onAft_roster (s : State) (g : Aft → Aft) : (s.onAft g).roster = s.roster := rfl
@[simp] theorem State.onAft_lease (s : State) (g : Aft → Aft) : (s.onAft g).lease = s.lease := rfl
@[simp] theorem State.onAft_crew (s : State) (g : Aft → Aft) : (s.onAft g).crew = s.crew := rfl
@[simp] theorem State.onAft_placement (s : State) (g : Aft → Aft) : (s.onAft g).placement = s.placement := rfl
@[simp] theorem State.onAft_grout (s : State) (g : Aft → Aft) : (s.onAft g).grout = s.grout := rfl
@[simp] theorem State.onAft_seq (s : State) (g : Aft → Aft) : (s.onAft g).seq = s.seq := rfl
@[simp] theorem State.onAft_aft (s : State) (g : Aft → Aft) : (s.onAft g).aft = g s.aft := rfl
@[simp] theorem State.onAft_scan (s : State) (g : Aft → Aft) : (s.onAft g).scan = s.scan := rfl
@[simp] theorem State.onAft_trip (s : State) (g : Aft → Aft) : (s.onAft g).trip = s.trip := rfl
@[simp] theorem State.onAft_store (s : State) (g : Aft → Aft) : (s.onAft g).store = s.store := rfl
@[simp] theorem State.onAft_drives (s : State) (g : Aft → Aft) : (s.onAft g).drives = s.drives := rfl

@[simp] theorem State.onScan_pending (s : State) (g : Scan → Scan) : (s.onScan g).pending = s.pending := rfl
@[simp] theorem State.onScan_free (s : State) (g : Scan → Scan) : (s.onScan g).free = s.free := rfl
@[simp] theorem State.onScan_binding (s : State) (g : Scan → Scan) : (s.onScan g).binding = s.binding := rfl
@[simp] theorem State.onScan_lif (s : State) (g : Scan → Scan) : (s.onScan g).lif = s.lif := rfl
@[simp] theorem State.onScan_roster (s : State) (g : Scan → Scan) : (s.onScan g).roster = s.roster := rfl
@[simp] theorem State.onScan_lease (s : State) (g : Scan → Scan) : (s.onScan g).lease = s.lease := rfl
@[simp] theorem State.onScan_crew (s : State) (g : Scan → Scan) : (s.onScan g).crew = s.crew := rfl
@[simp] theorem State.onScan_placement (s : State) (g : Scan → Scan) : (s.onScan g).placement = s.placement := rfl
@[simp] theorem State.onScan_grout (s : State) (g : Scan → Scan) : (s.onScan g).grout = s.grout := rfl
@[simp] theorem State.onScan_seq (s : State) (g : Scan → Scan) : (s.onScan g).seq = s.seq := rfl
@[simp] theorem State.onScan_aft (s : State) (g : Scan → Scan) : (s.onScan g).aft = s.aft := rfl
@[simp] theorem State.onScan_scan (s : State) (g : Scan → Scan) : (s.onScan g).scan = g s.scan := rfl
@[simp] theorem State.onScan_trip (s : State) (g : Scan → Scan) : (s.onScan g).trip = s.trip := rfl
@[simp] theorem State.onScan_store (s : State) (g : Scan → Scan) : (s.onScan g).store = s.store := rfl
@[simp] theorem State.onScan_drives (s : State) (g : Scan → Scan) : (s.onScan g).drives = s.drives := rfl

@[simp] theorem State.onTrip_pending (s : State) (g : Trip → Trip) : (s.onTrip g).pending = s.pending := rfl
@[simp] theorem State.onTrip_free (s : State) (g : Trip → Trip) : (s.onTrip g).free = s.free := rfl
@[simp] theorem State.onTrip_binding (s : State) (g : Trip → Trip) : (s.onTrip g).binding = s.binding := rfl
@[simp] theorem State.onTrip_lif (s : State) (g : Trip → Trip) : (s.onTrip g).lif = s.lif := rfl
@[simp] theorem State.onTrip_roster (s : State) (g : Trip → Trip) : (s.onTrip g).roster = s.roster := rfl
@[simp] theorem State.onTrip_lease (s : State) (g : Trip → Trip) : (s.onTrip g).lease = s.lease := rfl
@[simp] theorem State.onTrip_crew (s : State) (g : Trip → Trip) : (s.onTrip g).crew = s.crew := rfl
@[simp] theorem State.onTrip_placement (s : State) (g : Trip → Trip) : (s.onTrip g).placement = s.placement := rfl
@[simp] theorem State.onTrip_grout (s : State) (g : Trip → Trip) : (s.onTrip g).grout = s.grout := rfl
@[simp] theorem State.onTrip_seq (s : State) (g : Trip → Trip) : (s.onTrip g).seq = s.seq := rfl
@[simp] theorem State.onTrip_aft (s : State) (g : Trip → Trip) : (s.onTrip g).aft = s.aft := rfl
@[simp] theorem State.onTrip_scan (s : State) (g : Trip → Trip) : (s.onTrip g).scan = s.scan := rfl
@[simp] theorem State.onTrip_trip (s : State) (g : Trip → Trip) : (s.onTrip g).trip = g s.trip := rfl
@[simp] theorem State.onTrip_store (s : State) (g : Trip → Trip) : (s.onTrip g).store = s.store := rfl
@[simp] theorem State.onTrip_drives (s : State) (g : Trip → Trip) : (s.onTrip g).drives = s.drives := rfl

@[simp] theorem State.onStore_pending (s : State) (g : Store → Store) : (s.onStore g).pending = s.pending := rfl
@[simp] theorem State.onStore_free (s : State) (g : Store → Store) : (s.onStore g).free = s.free := rfl
@[simp] theorem State.onStore_binding (s : State) (g : Store → Store) : (s.onStore g).binding = s.binding := rfl
@[simp] theorem State.onStore_lif (s : State) (g : Store → Store) : (s.onStore g).lif = s.lif := rfl
@[simp] theorem State.onStore_roster (s : State) (g : Store → Store) : (s.onStore g).roster = s.roster := rfl
@[simp] theorem State.onStore_lease (s : State) (g : Store → Store) : (s.onStore g).lease = s.lease := rfl
@[simp] theorem State.onStore_crew (s : State) (g : Store → Store) : (s.onStore g).crew = s.crew := rfl
@[simp] theorem State.onStore_placement (s : State) (g : Store → Store) : (s.onStore g).placement = s.placement := rfl
@[simp] theorem State.onStore_grout (s : State) (g : Store → Store) : (s.onStore g).grout = s.grout := rfl
@[simp] theorem State.onStore_seq (s : State) (g : Store → Store) : (s.onStore g).seq = s.seq := rfl
@[simp] theorem State.onStore_aft (s : State) (g : Store → Store) : (s.onStore g).aft = s.aft := rfl
@[simp] theorem State.onStore_scan (s : State) (g : Store → Store) : (s.onStore g).scan = s.scan := rfl
@[simp] theorem State.onStore_trip (s : State) (g : Store → Store) : (s.onStore g).trip = s.trip := rfl
@[simp] theorem State.onStore_store (s : State) (g : Store → Store) : (s.onStore g).store = g s.store := rfl
@[simp] theorem State.onStore_drives (s : State) (g : Store → Store) : (s.onStore g).drives = s.drives := rfl

@[simp] theorem State.onDrives_pending (s : State) (g : Drives → Drives) : (s.onDrives g).pending = s.pending := rfl
@[simp] theorem State.onDrives_free (s : State) (g : Drives → Drives) : (s.onDrives g).free = s.free := rfl
@[simp] theorem State.onDrives_binding (s : State) (g : Drives → Drives) : (s.onDrives g).binding = s.binding := rfl
@[simp] theorem State.onDrives_lif (s : State) (g : Drives → Drives) : (s.onDrives g).lif = s.lif := rfl
@[simp] theorem State.onDrives_roster (s : State) (g : Drives → Drives) : (s.onDrives g).roster = s.roster := rfl
@[simp] theorem State.onDrives_lease (s : State) (g : Drives → Drives) : (s.onDrives g).lease = s.lease := rfl
@[simp] theorem State.onDrives_crew (s : State) (g : Drives → Drives) : (s.onDrives g).crew = s.crew := rfl
@[simp] theorem State.onDrives_placement (s : State) (g : Drives → Drives) : (s.onDrives g).placement = s.placement := rfl
@[simp] theorem State.onDrives_grout (s : State) (g : Drives → Drives) : (s.onDrives g).grout = s.grout := rfl
@[simp] theorem State.onDrives_seq (s : State) (g : Drives → Drives) : (s.onDrives g).seq = s.seq := rfl
@[simp] theorem State.onDrives_aft (s : State) (g : Drives → Drives) : (s.onDrives g).aft = s.aft := rfl
@[simp] theorem State.onDrives_scan (s : State) (g : Drives → Drives) : (s.onDrives g).scan = s.scan := rfl
@[simp] theorem State.onDrives_trip (s : State) (g : Drives → Drives) : (s.onDrives g).trip = s.trip := rfl
@[simp] theorem State.onDrives_store (s : State) (g : Drives → Drives) : (s.onDrives g).store = s.store := rfl
@[simp] theorem State.onDrives_drives (s : State) (g : Drives → Drives) : (s.onDrives g).drives = g s.drives := rfl

@[simp] theorem State.setBinding_pending (s : State) (b : Option Binding) : (s.setBinding b).pending = s.pending := rfl
@[simp] theorem State.setBinding_free (s : State) (b : Option Binding) : (s.setBinding b).free = s.free := rfl
@[simp] theorem State.setBinding_binding (s : State) (b : Option Binding) : (s.setBinding b).binding = b := rfl
@[simp] theorem State.setBinding_lif (s : State) (b : Option Binding) : (s.setBinding b).lif = s.lif := rfl
@[simp] theorem State.setBinding_roster (s : State) (b : Option Binding) : (s.setBinding b).roster = s.roster := rfl
@[simp] theorem State.setBinding_lease (s : State) (b : Option Binding) : (s.setBinding b).lease = s.lease := rfl
@[simp] theorem State.setBinding_crew (s : State) (b : Option Binding) : (s.setBinding b).crew = s.crew := rfl
@[simp] theorem State.setBinding_placement (s : State) (b : Option Binding) : (s.setBinding b).placement = s.placement := rfl
@[simp] theorem State.setBinding_grout (s : State) (b : Option Binding) : (s.setBinding b).grout = s.grout := rfl
@[simp] theorem State.setBinding_seq (s : State) (b : Option Binding) : (s.setBinding b).seq = s.seq := rfl
@[simp] theorem State.setBinding_aft (s : State) (b : Option Binding) : (s.setBinding b).aft = s.aft := rfl
@[simp] theorem State.setBinding_scan (s : State) (b : Option Binding) : (s.setBinding b).scan = s.scan := rfl
@[simp] theorem State.setBinding_trip (s : State) (b : Option Binding) : (s.setBinding b).trip = s.trip := rfl
@[simp] theorem State.setBinding_store (s : State) (b : Option Binding) : (s.setBinding b).store = s.store := rfl
@[simp] theorem State.setBinding_drives (s : State) (b : Option Binding) : (s.setBinding b).drives = s.drives := rfl

@[simp] theorem State.drawFree_pending (s : State) : s.drawFree.pending = s.pending := rfl
@[simp] theorem State.drawFree_free (s : State) : s.drawFree.free = s.free + 1 := rfl
@[simp] theorem State.drawFree_binding (s : State) : s.drawFree.binding = s.binding := rfl
@[simp] theorem State.drawFree_lif (s : State) : s.drawFree.lif = s.lif := rfl
@[simp] theorem State.drawFree_roster (s : State) : s.drawFree.roster = s.roster := rfl
@[simp] theorem State.drawFree_lease (s : State) : s.drawFree.lease = s.lease := rfl
@[simp] theorem State.drawFree_crew (s : State) : s.drawFree.crew = s.crew := rfl
@[simp] theorem State.drawFree_placement (s : State) : s.drawFree.placement = s.placement := rfl
@[simp] theorem State.drawFree_grout (s : State) : s.drawFree.grout = s.grout := rfl
@[simp] theorem State.drawFree_seq (s : State) : s.drawFree.seq = s.seq := rfl
@[simp] theorem State.drawFree_aft (s : State) : s.drawFree.aft = s.aft := rfl
@[simp] theorem State.drawFree_scan (s : State) : s.drawFree.scan = s.scan := rfl
@[simp] theorem State.drawFree_trip (s : State) : s.drawFree.trip = s.trip := rfl
@[simp] theorem State.drawFree_store (s : State) : s.drawFree.store = s.store := rfl
@[simp] theorem State.drawFree_drives (s : State) : s.drawFree.drives = s.drives := rfl

end Sys2Proof.Machine
end

