-- ==== Sys2Proof/Laws/Store.lean ====
section
/-! SUPPORT. What the store's operations keep: the image follows from memory and queue, the queue's length, the limits of a slot (R173, R178, R179, R180). -/

namespace Sys2Proof.Machine

/-! ## Limits of the contents -/

/-- A slot of a bounded image is bounded. -/
theorem Contents.bounded_slot {c : Contents} (h : c.bounded = true) {n : Nat} {r : SlotRecord}
    (hr : c.slot n = some r) : r.bounded = true := by
  simp only [Contents.bounded, Bool.and_eq_true, List.all_eq_true] at h
  cases n with
  | zero => simp [Contents.slot] at hr
  | succ k =>
    simp only [Contents.slot] at hr
    cases hk : c.slots[k]? with
    | none => simp [hk] at hr
    | some x =>
      rw [hk, Option.getD_some] at hr
      simpa [hr] using h.2 x (List.mem_of_getElem? hk)

/-- An edit of a slot that keeps that slot within its limits keeps the contents within theirs. -/
theorem Contents.editSlot_bounded {c : Contents} (h : c.bounded = true) (n : Nat) (f : SlotRecord → SlotRecord)
    (hf : ∀ r, c.slot n = some r → (f r).bounded = true) : (c.editSlot n f).bounded = true := by
  cases n with
  | zero => exact h
  | succ k =>
    have h' := h
    simp only [Contents.bounded, Bool.and_eq_true, List.all_eq_true, beq_iff_eq] at h' ⊢
    refine ⟨by simpa [Contents.editSlot] using h'.1, fun x hx => ?_⟩
    simp only [Contents.editSlot] at hx
    obtain ⟨i, hi⟩ := List.getElem?_of_mem hx
    rw [List.getElem?_modify] at hi
    cases hy : c.slots[i]? with
    | none => simp [hy] at hi
    | some y =>
      have hyb := h'.2 y (List.mem_of_getElem? hy)
      rw [hy] at hi
      by_cases hik : k = i
      · cases y with
        | none =>
          simp [hik] at hi
          subst hi; rfl
        | some r =>
          have := hf r (by simp [Contents.slot, hik, hy])
          simp [hik] at hi
          subst hi
          simpa using this
      · simp [hik] at hi
        subst hi; exact hyb

/-- A job that the store accepts keeps the contents within their limits (R178, R179). -/
theorem applyJob_bounded {c : Contents} (h : c.bounded = true) {j : Job} (ha : acceptsJob c j = true)
    (hh : ∀ n r k, j = .header n r k → r.bounded = true) : (applyJob c j).bounded = true := by
  have edit (n : Nat) (f : SlotRecord → SlotRecord)
      (hf : ∀ r, c.slot n = some r → (f r).bounded = true) : (c.editSlot n f).bounded = true :=
    Contents.editSlot_bounded h n f hf
  have same (n : Nat) (f : SlotRecord → SlotRecord)
      (hp : ∀ r, (f r).points = r.points) (ht : ∀ r, (f r).topUps = r.topUps) :
      (c.editSlot n f).bounded = true :=
    edit n f fun r hr => by
      have := Contents.bounded_slot h hr
      simpa [SlotRecord.bounded, hp, ht] using this
  cases j with
  | header n r k =>
    have hr := hh n r k rfl
    cases n with
    | zero => exact h
    | succ n =>
      simp only [Contents.bounded, Bool.and_eq_true, List.all_eq_true, beq_iff_eq] at h ⊢
      refine ⟨by simpa [applyJob] using h.1, fun x hx => ?_⟩
      simp only [applyJob] at hx
      rcases List.mem_or_eq_of_mem_set hx with hx | hx
      · exact h.2 x hx
      · subst hx; simpa using hr
  | point n p =>
    refine edit n _ fun r hr => ?_
    have hb := Contents.bounded_slot h hr
    simp only [acceptsJob, hr, Option.map_some, Option.getD_some, Bool.and_eq_true, decide_eq_true_eq] at ha
    simp only [SlotRecord.bounded, Bool.and_eq_true, decide_eq_true_eq, List.length_append,
      List.length_cons, List.length_nil] at hb ⊢
    exact ⟨by omega, hb.2⟩
  | topUp n e =>
    refine edit n _ fun r hr => ?_
    have hb := Contents.bounded_slot h hr
    simp only [acceptsJob, hr, Option.map_some, Option.getD_some, Bool.and_eq_true, decide_eq_true_eq] at ha
    simp only [SlotRecord.bounded, Bool.and_eq_true, decide_eq_true_eq, List.length_append,
      List.length_cons, List.length_nil] at hb ⊢
    exact ⟨hb.1, by omega⟩
  | extended n => exact same n _ (fun _ => rfl) fun _ => rfl
  | lockOffLow n => exact same n _ (fun _ => rfl) fun _ => rfl
  | closing n v r => exact same n _ (fun _ => rfl) fun _ => rfl
  | lossExcess n => exact same n _ (fun _ => rfl) fun _ => rfl
  | exported n => exact same n _ (fun _ => rfl) fun _ => rfl
  | opening o => exact h
  | placement p => exact h
  | grout g => exact h

/-! ## The append queue -/

/-- A run that stays within the limits ends within them. -/
theorem boundedRun_last : ∀ (q : List Job) (c : Contents), boundedRun c q = true →
    (q.foldl applyJob c).bounded = true
  | [], _, h => h
  | j :: q, c, h => by
    simp only [boundedRun, Bool.and_eq_true] at h
    exact boundedRun_last q _ h.2

/-- One more job at the tail of a run within the limits. -/
theorem boundedRun_append : ∀ (q : List Job) (c : Contents) (j : Job), boundedRun c q = true →
    (applyJob (q.foldl applyJob c) j).bounded = true → boundedRun c (q ++ [j]) = true
  | [], c, j, h, hj => by simpa [boundedRun] using ⟨h, hj⟩
  | i :: q, c, j, h, hj => by
    simp only [boundedRun, Bool.and_eq_true] at h
    simpa [boundedRun, h.1] using boundedRun_append q _ j h.2 hj

/-- The image of a sound store is within its limits. -/
theorem Store.sound.image_bounded {t : Store} (h : t.sound) : t.image.bounded = true := by
  have := boundedRun_last t.queue t.nv h.2.2
  rwa [h.1]

/-- Completing the head's write keeps the store sound (R180). -/
theorem Store.completeHead_sound {t : Store} (h : t.sound) : t.completeHead.sound := by
  obtain ⟨hr, hl, hb⟩ := h
  unfold Store.completeHead
  cases hq : t.queue with
  | nil => exact ⟨by rw [Store.replays, hr], hl, hb⟩
  | cons j rest =>
    rw [hq] at hl hb
    simp only [boundedRun, Bool.and_eq_true] at hb
    refine ⟨?_, ?_, hb.2⟩
    · simpa [Store.replays, hq] using hr
    · simp only [List.length_cons] at hl ⊢
      omega

/-- Completing the head's write leaves the image and the pin. -/
theorem Store.completeHead_image (t : Store) : t.completeHead.image = t.image := by
  unfold Store.completeHead; split <;> rfl

/-- An accepted hand-over keeps the store sound (R173, R178, R179, R180). -/
theorem Store.hand_sound {t : Store} (h : t.sound) {j : Job} (ha : acceptsJob t.image j = true)
    (hh : ∀ n r k, j = .header n r k → r.bounded = true) : (t.hand j).sound := by
  have key : ∀ u : Store, u.sound → u.image = t.image → u.queue.length < Config.queuePlaces →
      Store.sound { u with image := applyJob u.image j, queue := u.queue ++ [j] } := by
    intro u hu hi hlt
    have hb : (applyJob u.image j).bounded = true :=
      applyJob_bounded hu.image_bounded (by rw [hi]; exact ha) hh
    refine ⟨?_, ?_, ?_⟩
    · rw [Store.replays, List.foldl_append]
      simp only [List.foldl_cons, List.foldl_nil]
      rw [← hu.1]
    · simp only [List.length_append, List.length_cons, List.length_nil]
      omega
    · exact boundedRun_append _ _ _ hu.2.2 (by rw [← hu.1]; exact hb)
  unfold Store.hand
  by_cases hf : Config.queuePlaces ≤ t.queue.length
  · simp only [hf, if_true]
    refine key t.completeHead (Store.completeHead_sound h) (Store.completeHead_image t) ?_
    have hl := h.2.1
    unfold Store.completeHead
    cases hq : t.queue with
    | nil => rw [hq] at hf; simp [Config.queuePlaces] at hf
    | cons k rest =>
      rw [hq] at hl
      simp only [List.length_cons] at hl ⊢
      omega
  · simp only [hf, if_false]
    exact key t h rfl (by omega)

/-- The hand-over of a slot's change leaves every other slot of the image as it was. -/
theorem Contents.slot_editSlot_ne (c : Contents) (f : SlotRecord → SlotRecord) {n m : Nat} (h : n ≠ m) :
    (c.editSlot n f).slot m = c.slot m := by
  cases n with
  | zero => rfl
  | succ k =>
    cases m with
    | zero => rfl
    | succ i =>
      have hki : k ≠ i := by omega
      simp [Contents.editSlot, Contents.slot, hki]

/-- The edited slot reads as the edit of what it held. -/
theorem Contents.slot_editSlot_eq (c : Contents) (f : SlotRecord → SlotRecord) (n : Nat) :
    (c.editSlot n f).slot n = (c.slot n).map f := by
  cases n with
  | zero => rfl
  | succ k =>
    simp only [Contents.editSlot, Contents.slot, List.getElem?_modify, if_true]
    cases c.slots[k]? with
    | none => rfl
    | some x => rfl

end Sys2Proof.Machine
end

