-- ==== Sys2Proof/Laws/Keeps.lean ====
section
/-! SUPPORT. One lemma for each block update and each shared operation: the waiting commands, the straps, an accepted binding, the clock's direction and the store's soundness are kept. -/

namespace Sys2Proof.Machine

theorem Keeps.refl (s : State) : Keeps s s :=
  ⟨rfl, rfl, fun _ h => ⟨h, rfl⟩, BitVec.le_refl _, id⟩

theorem Keeps.trans {s t u : State} (h : Keeps s t) (k : Keeps t u) : Keeps s u where
  pending := k.pending.trans h.pending
  straps := k.straps.trans h.straps
  bound b hb :=
    have ⟨h1, h2⟩ := h.bound b hb
    have ⟨k1, k2⟩ := k.bound b h1
    ⟨k1, k2.trans h2⟩
  clock := BitVec.le_trans h.clock k.clock
  store hs := k.store (h.store hs)

/-- A choice between two results that both keep. -/
theorem Keeps.ite {s t u : State} (p : Prop) [Decidable p] (h : Keeps s t) (k : Keeps s u) :
    Keeps s (if p then t else u) := by
  by_cases hp : p <;> simp [hp, h, k]

/-! ## Block updates -/

theorem keeps_onLif (s : State) (f : Lif → Lif) (h : (f s.lif).straps = s.lif.straps) : Keeps s (s.onLif f) :=
  ⟨rfl, h, fun _ hb => ⟨hb, rfl⟩, BitVec.le_refl _, id⟩

theorem keeps_onRoster (s : State) (f : Roster → Roster)
    (h : s.bound = true → (f s.roster).entries.map Entry.number = s.numbers) : Keeps s (s.onRoster f) :=
  ⟨rfl, rfl, fun _ hb => ⟨hb, h (by simp [State.bound, hb])⟩, BitVec.le_refl _, id⟩

theorem keeps_onLease (s : State) (f : Lease → Lease) (h : s.lease.clock ≤ (f s.lease).clock) :
    Keeps s (s.onLease f) :=
  ⟨rfl, rfl, fun _ hb => ⟨hb, rfl⟩, h, id⟩

theorem keeps_onCrew (s : State) (f : Crew → Crew) : Keeps s (s.onCrew f) :=
  ⟨rfl, rfl, fun _ hb => ⟨hb, rfl⟩, BitVec.le_refl _, id⟩

theorem keeps_onPlacement (s : State) (f : Placement → Placement) : Keeps s (s.onPlacement f) :=
  ⟨rfl, rfl, fun _ hb => ⟨hb, rfl⟩, BitVec.le_refl _, id⟩

theorem keeps_onGrout (s : State) (f : Grout → Grout) : Keeps s (s.onGrout f) :=
  ⟨rfl, rfl, fun _ hb => ⟨hb, rfl⟩, BitVec.le_refl _, id⟩

theorem keeps_onSeq (s : State) (f : Seq → Seq) : Keeps s (s.onSeq f) :=
  ⟨rfl, rfl, fun _ hb => ⟨hb, rfl⟩, BitVec.le_refl _, id⟩

theorem keeps_onAft (s : State) (f : Aft → Aft) : Keeps s (s.onAft f) :=
  ⟨rfl, rfl, fun _ hb => ⟨hb, rfl⟩, BitVec.le_refl _, id⟩

theorem keeps_onScan (s : State) (f : Scan → Scan) : Keeps s (s.onScan f) :=
  ⟨rfl, rfl, fun _ hb => ⟨hb, rfl⟩, BitVec.le_refl _, id⟩

theorem keeps_onTrip (s : State) (f : Trip → Trip) : Keeps s (s.onTrip f) :=
  ⟨rfl, rfl, fun _ hb => ⟨hb, rfl⟩, BitVec.le_refl _, id⟩

theorem keeps_onDrives (s : State) (f : Drives → Drives) : Keeps s (s.onDrives f) :=
  ⟨rfl, rfl, fun _ hb => ⟨hb, rfl⟩, BitVec.le_refl _, id⟩

theorem keeps_onStore (s : State) (f : Store → Store) (h : s.store.sound → (f s.store).sound) :
    Keeps s (s.onStore f) :=
  ⟨rfl, rfl, fun _ hb => ⟨hb, rfl⟩, BitVec.le_refl _, h⟩

theorem keeps_drawFree (s : State) : Keeps s s.drawFree :=
  ⟨rfl, rfl, fun _ hb => ⟨hb, rfl⟩, BitVec.le_refl _, id⟩

/-- A change of the entries that leaves every number. -/
theorem keeps_mapEntries (s : State) (f : Entry → Entry) (h : ∀ e, (f e).number = e.number) :
    Keeps s (s.onRoster fun r => { r with entries := r.entries.map f }) :=
  keeps_onRoster s _ fun _ => by simp [State.numbers, Function.comp_def, h]

/-! ## Time, slots and the record store -/

theorem Entry.tick_number (d : Nat) (e : Entry) : (e.tick d).number = e.number := by
  unfold Entry.tick; split <;> rfl

theorem keeps_elapse (d : Nat) (s : State) : Keeps s (s.elapse d) :=
  ⟨rfl, rfl, fun _ hb => ⟨hb, by simp [State.elapse, State.numbers, Function.comp_def, Entry.tick_number]⟩,
    BitVec.le_refl _, id⟩

theorem keeps_expire (t : Timer) (s : State) : Keeps s (s.expire t) := keeps_elapse _ s

theorem keeps_placeAsk (f : AskFrame) (s : State) : Keeps s (s.placeAsk f) :=
  .ite _ (.refl s) (keeps_onLif s _ rfl)

theorem keeps_placeAlert (a : Alert) (s : State) : Keeps s (s.placeAlert a) :=
  .ite _ (.refl s) (keeps_onLif s _ rfl)

theorem keeps_placeBeacon (b : Beacon) (s : State) : Keeps s (s.placeBeacon b) :=
  .ite _ (.refl s) (keeps_onLif s _ rfl)

theorem keeps_addReply (e : ReplyEntry) (s : State) : Keeps s (s.addReply e) :=
  .ite _ (.refl s) (keeps_onLif s _ rfl)

theorem keeps_pushReport (dst : Byte) (r : Report) (s : State) : Keeps s (s.pushReport dst r) :=
  keeps_onLif s _ rfl

theorem keeps_restartQuiet (s : State) : Keeps s s.restartQuiet := keeps_onLif s _ rfl

/-- A hand-over, whose header, where it is one, is a fresh one (R173, R178 to R181). -/
theorem keeps_handOver (j : Job) (s : State) (h : ∀ n r k, j = .header n r k → r.bounded = true) :
    Keeps s (s.handOver j) := by
  unfold State.handOver
  split
  · rename_i ha
    exact keeps_onStore s _ fun hs => Store.hand_sound hs ha h
  · exact .refl s

/-- An opening (R175, R176). -/
theorem keeps_openSlot (k : SlotKind) (n : Nat) (s : State) : Keeps s (s.openSlot k n) :=
  keeps_handOver _ s fun m r c h => by
    cases h; rfl

/-! ## The lease -/

theorem keeps_raiseClock (v : Stamp) (s : State) : Keeps s (s.raiseClock v) :=
  keeps_onLease s _ (by
    show s.lease.clock ≤ if s.lease.clock < v then v else s.lease.clock
    split
    · exact BitVec.le_of_lt ‹_›
    · exact BitVec.le_refl _)

theorem keeps_addReplies (ds : List Deferred) (s : State) :
    Keeps s (ds.foldl (fun t d => t.addReply d.grant) s) := by
  induction ds generalizing s with
  | nil => exact .refl s
  | cons d ds ih => exact (keeps_addReply _ s).trans (ih _)

theorem keeps_grantThose (p : Deferred → Bool) (s : State) : Keeps s (s.grantThose p) :=
  (keeps_addReplies _ s).trans (keeps_onLease _ _ (BitVec.le_refl _))

theorem keeps_grantDeferred (s : State) : Keeps s s.grantDeferred :=
  .ite _ (.refl s) (.ite _ (keeps_grantThose _ s) (keeps_grantThose _ s))

theorem keeps_toIdle (s : State) : Keeps s s.toIdle :=
  (keeps_onLease s _ (BitVec.le_refl _)).trans (keeps_grantDeferred _)

theorem keeps_setRequest (r : Option Request) (s : State) : Keeps s (s.setRequest r) :=
  .ite _ (keeps_onSeq s _) (.ite _ (keeps_onAft s _) (.refl s))

theorem keeps_setStatus (st : RequestStatus) (s : State) : Keeps s (s.setStatus st) := keeps_setRequest _ s

theorem keeps_withdrawFor (h : HoldReason) (s : State) : Keeps s (s.withdrawFor h) :=
  .ite _ ((keeps_placeAsk _ s).trans ((keeps_setStatus _ _).trans (keeps_toIdle _))) (.refl s)

theorem keeps_withdrawGone (s : State) : Keeps s s.withdrawGone :=
  .ite _ ((keeps_placeAsk _ s).trans ((keeps_setRequest _ _).trans (keeps_toIdle _))) (.refl s)

/-! ## Latches -/

theorem keeps_blocksAtLatch (s : State) : Keeps s s.blocksAtLatch :=
  ⟨rfl, rfl, fun _ hb => ⟨hb, rfl⟩, BitVec.le_refl _, id⟩

theorem keeps_announce (s : State) : Keeps s s.announce :=
  (Keeps.ite _ (.refl s) (keeps_withdrawFor _ s)).trans (keeps_blocksAtLatch _)

theorem keeps_setLatch (l : Latch) (v : Half) (ch : Option Channel) (s : State) :
    Keeps s (s.setLatch l v ch) :=
  (keeps_onTrip s _).trans
    ((Keeps.ite _ (keeps_onLif _ _ rfl) (.refl _)).trans ((keeps_placeAlert _ _).trans (keeps_announce _)))

theorem keeps_latch (l : Latch) (v : Half) (s : State) : Keeps s (s.latch l v) :=
  .ite _ (.refl s) (keeps_setLatch l v none s)

theorem keeps_nameChannel (c : Channel) (s : State) : Keeps s (s.nameChannel c) :=
  .ite _ (.refl s) ((keeps_onScan s _).trans (keeps_setLatch _ _ _ _))

/-! ## Requests -/

theorem keeps_enterUnload (x : SeqSub) (s : State) : Keeps s (s.enterUnload x) := keeps_onSeq s _

theorem keeps_enterTopUpUnload (x : TopUpStage) (s : State) : Keeps s (s.enterTopUpUnload x) :=
  keeps_onAft s _

theorem keeps_toldHolding (s : State) : Keeps s s.toldHolding :=
  .ite _ (keeps_onSeq s _) (.ite _ (keeps_enterUnload _ s) (.ite _ (keeps_onAft s _) (.refl s)))

theorem keeps_enterHolding (s : State) : Keeps s s.enterHolding :=
  (keeps_onLease s _ (BitVec.le_refl _)).trans (keeps_toldHolding _)

theorem keeps_sendAsk (s : State) : Keeps s s.sendAsk := by
  unfold State.sendAsk
  split
  · exact .refl s
  · exact (keeps_placeAsk _ s).trans (keeps_onLease _ _ (BitVec.le_refl _))

/-- A clock below the last stamp goes up by one without wrapping (R37, R38). -/
theorem clock_le_succ {c : Stamp} (h : c ≠ Config.lastStamp) : c ≤ c + 1 := by
  have h' : c.toNat ≠ Config.lastStamp.toNat := fun e => h (BitVec.eq_of_toNat_eq e)
  simp only [Config.lastStamp, BitVec.toNat_ofNat] at h'
  have hc := c.isLt
  have h1 : (1 : Stamp).toNat = 1 := rfl
  rw [BitVec.le_def, BitVec.toNat_add, h1]
  omega

theorem keeps_take (r : Request) (s : State) (h : s.lease.clock ≠ Config.lastStamp) : Keeps s (s.take r) :=
  have k := (keeps_onLease s
    (fun l =>
      { l with
        clock := l.clock + 1
        ask := some ⟨r.cls, r.abort, l.clock + 1, 1⟩
        required := s.presentMembers }) (clock_le_succ h)).trans (keeps_setStatus .taken _)
  .ite _ (k.trans (keeps_enterHolding _))
    (k.trans ((keeps_onLease _ _ (BitVec.le_refl _)).trans (keeps_sendAsk _)))

theorem checkRequest_taken {r : Request} {s : State} (h : s.checkRequest r = .taken) :
    s.lease.clock ≠ Config.lastStamp := by
  intro hc
  unfold State.checkRequest at h
  repeat' split at h
  all_goals cases h

theorem keeps_present (s : State) : Keeps s s.present := by
  unfold State.present
  split
  · exact .refl s
  · split
    · exact keeps_setStatus _ s
    · exact .refl s
    · exact keeps_setStatus _ s
    · exact (keeps_setStatus _ s).trans (keeps_latch _ _ _)
    · rename_i h
      exact keeps_take _ s (checkRequest_taken h)

theorem keeps_presentWaiting (h : Option HoldReason) (s : State) : Keeps s (s.presentWaiting h) :=
  .ite _ (keeps_present s) (.refl s)

theorem keeps_ask (cls : AskClass) (abort : Bool) (s : State) : Keeps s (s.ask cls abort) :=
  (keeps_setRequest _ s).trans (keeps_present _)

theorem keeps_release (s : State) : Keeps s s.release :=
  .ite _
    ((Keeps.ite _ (keeps_setRequest _ s) (.refl s)).trans ((keeps_toIdle _).trans (keeps_presentWaiting _ _)))
    (keeps_withdrawGone s)

theorem keeps_checkComplete (s : State) : Keeps s s.checkComplete :=
  .ite _ (keeps_enterHolding s) (.refl s)

/-! ## Presence, the phase, receiving, and the end of an event -/

theorem keeps_leaseHearsPresence (n : Nat) (new : Presence) (s : State) :
    Keeps s (s.leaseHearsPresence n new) :=
  (Keeps.ite (t := s.onLease fun l => { l with deferred := l.deferred.filter fun d => d.number != n })
    _ (keeps_onLease s _ (BitVec.le_refl _)) (.refl s)).trans
    (.ite _
      (.ite _ (keeps_withdrawFor _ _)
        (.ite _ ((keeps_onLease _ _ (BitVec.le_refl _)).trans (keeps_checkComplete _)) (.refl _)))
      (.refl _))

theorem keeps_presenceChanged (n : Nat) (old new : Presence) (s : State) :
    Keeps s (s.presenceChanged n old new) :=
  .ite _ (.refl s)
    (.ite _ ((keeps_leaseHearsPresence n new s).trans (keeps_present _)) (keeps_leaseHearsPresence n new s))

theorem keeps_changeEntry (n : Nat) (f : Entry → Entry) (s : State) (h : ∀ e, (f e).number = e.number) :
    Keeps s (s.changeEntry n f) := by
  unfold State.changeEntry
  split
  · exact .refl s
  · refine (keeps_mapEntries s (fun x => if x.number = n then f x else x) fun e => ?_).trans
      (keeps_presenceChanged _ _ _ _)
    show (if e.number = n then f e else e).number = e.number
    split
    · exact h e
    · rfl

theorem keeps_toPhase (p : Phase) (s : State) : Keeps s (s.toPhase p) := keeps_onCrew s _

theorem keeps_receive (dst src : Byte) (act : State → State) (s : State) (h : ∀ t, Keeps t (act t)) :
    Keeps s (s.receive dst src act) :=
  .ite _ (.refl s)
    ((keeps_restartQuiet s).trans (.ite _ (keeps_latch _ _ _) (.ite _ (h _) (.refl _))))

theorem keeps_takeQuery (dst : Byte) (act : State → State) (s : State) (h : ∀ t, Keeps t (act t)) :
    Keeps s (s.takeQuery dst act) :=
  .ite _ (.refl s) (.ite _ (h s) (keeps_onLif s _ rfl))

theorem keeps_clearTimes (s : State) : Keeps s s.clearTimes := (keeps_onTrip s _).trans (keeps_onScan _ _)

theorem keeps_startTx (s : State) : Keeps s s.startTx := .ite _ (keeps_onLif s _ rfl) (.refl s)

theorem keeps_showDrives (s : State) : Keeps s s.showDrives := keeps_onDrives s _

theorem keeps_finish (s : State) : Keeps s s.finish :=
  (keeps_clearTimes s).trans ((keeps_startTx _).trans (keeps_showDrives _))

/-! ## The deferred list (R44) -/

/-- Adding reply entries changes the line interface only. -/
theorem addReplies_onLif (ds : List Deferred) (s : State) :
    ∃ f : Lif → Lif, ds.foldl (fun t d => t.addReply d.grant) s = s.onLif f := by
  induction ds generalizing s with
  | nil => exact ⟨id, rfl⟩
  | cons d ds ih =>
    have h : ∃ g : Lif → Lif, s.addReply d.grant = s.onLif g := by
      unfold State.addReply
      split
      · exact ⟨id, rfl⟩
      · exact ⟨_, rfl⟩
    obtain ⟨g, hg⟩ := h
    obtain ⟨f, hf⟩ := ih (s.onLif g)
    exact ⟨fun l => f (g l), by rw [List.foldl_cons, hg, hf]; rfl⟩

/-- The granted entries leave the deferred list; lease state and phase stay. -/
theorem grantThose_fields (p : Deferred → Bool) (s : State) :
    (s.grantThose p).lease = { s.lease with deferred := s.lease.deferred.filter fun d => !p d }
      ∧ (s.grantThose p).crew = s.crew ∧ (s.grantThose p).aft = s.aft := by
  unfold State.grantThose
  obtain ⟨f, hf⟩ := addReplies_onLif (s.lease.deferred.filter p) s
  rw [hf]
  exact ⟨rfl, rfl, rfl⟩

/-- After a grant of the deferred list the law of R44 holds, whatever held before. -/
theorem grantDeferred_listAnswered (s : State) : s.grantDeferred.listAnswered := by
  unfold State.grantDeferred
  split
  · rename_i h
    intro h1 h2
    simp only [Bool.or_eq_true, decide_eq_true_eq] at h
    rcases h with h | h
    · exact absurd h1 h
    · rw [h] at h2; cases h2
  · split
    · rename_i hp
      intro _ _ h3
      obtain ⟨_, hc, ha⟩ := grantThose_fields (fun d => d.cls == .restore) s
      simp only [State.pendingTopUp, hc, ha] at h3 hp
      rw [h3] at hp; cases hp
    · intro _ _ _
      rw [(grantThose_fields (fun _ => true) s).1]
      simp

/-- After a withdrawal, a lapse or a release to IDLE the law of R44 holds. -/
theorem toIdle_listAnswered (s : State) : s.toIdle.listAnswered := grantDeferred_listAnswered _

end Sys2Proof.Machine
end

