-- ==== Sys2Proof/Laws/Calm.lean ====
section
/-! SUPPORT. The blocks that no operation of the lease, of the transmit slots and of the trip latches touches: roster, phase machine, binding, scan, store, drives. -/

namespace Sys2Proof.Machine

/-- The blocks outside the lease's and the latches' reach are as they were. -/
structure Calm (s t : State) : Prop where
  pending : t.pending = s.pending
  free    : t.free = s.free
  binding : t.binding = s.binding
  roster  : t.roster = s.roster
  crew    : t.crew = s.crew
  scan    : t.scan = s.scan
  store   : t.store = s.store
  drives  : t.drives = s.drives

theorem Calm.refl (s : State) : Calm s s := ⟨rfl, rfl, rfl, rfl, rfl, rfl, rfl, rfl⟩

theorem Calm.trans {s t u : State} (h : Calm s t) (k : Calm t u) : Calm s u :=
  ⟨k.pending.trans h.pending, k.free.trans h.free, k.binding.trans h.binding, k.roster.trans h.roster,
    k.crew.trans h.crew, k.scan.trans h.scan, k.store.trans h.store, k.drives.trans h.drives⟩

theorem Calm.ite {s t u : State} (p : Prop) [Decidable p] (h : Calm s t) (k : Calm s u) :
    Calm s (if p then t else u) := by
  by_cases hp : p <;> simp [hp, h, k]

theorem calm_onLif (s : State) (f : Lif → Lif) : Calm s (s.onLif f) :=
  ⟨rfl, rfl, rfl, rfl, rfl, rfl, rfl, rfl⟩

theorem calm_onLease (s : State) (f : Lease → Lease) : Calm s (s.onLease f) :=
  ⟨rfl, rfl, rfl, rfl, rfl, rfl, rfl, rfl⟩

theorem calm_onPlacement (s : State) (f : Placement → Placement) : Calm s (s.onPlacement f) :=
  ⟨rfl, rfl, rfl, rfl, rfl, rfl, rfl, rfl⟩

theorem calm_onGrout (s : State) (f : Grout → Grout) : Calm s (s.onGrout f) :=
  ⟨rfl, rfl, rfl, rfl, rfl, rfl, rfl, rfl⟩

theorem calm_onSeq (s : State) (f : Seq → Seq) : Calm s (s.onSeq f) :=
  ⟨rfl, rfl, rfl, rfl, rfl, rfl, rfl, rfl⟩

theorem calm_onAft (s : State) (f : Aft → Aft) : Calm s (s.onAft f) :=
  ⟨rfl, rfl, rfl, rfl, rfl, rfl, rfl, rfl⟩

theorem calm_onTrip (s : State) (f : Trip → Trip) : Calm s (s.onTrip f) :=
  ⟨rfl, rfl, rfl, rfl, rfl, rfl, rfl, rfl⟩

theorem calm_placeAsk (f : AskFrame) (s : State) : Calm s (s.placeAsk f) :=
  .ite _ (.refl s) (calm_onLif s _)

theorem calm_placeAlert (a : Alert) (s : State) : Calm s (s.placeAlert a) :=
  .ite _ (.refl s) (calm_onLif s _)

theorem calm_placeBeacon (b : Beacon) (s : State) : Calm s (s.placeBeacon b) :=
  .ite _ (.refl s) (calm_onLif s _)

theorem calm_addReply (e : ReplyEntry) (s : State) : Calm s (s.addReply e) :=
  .ite _ (.refl s) (calm_onLif s _)

theorem calm_pushReport (dst : Byte) (r : Report) (s : State) : Calm s (s.pushReport dst r) :=
  calm_onLif s _

theorem calm_restartQuiet (s : State) : Calm s s.restartQuiet := calm_onLif s _

theorem calm_raiseClock (v : Stamp) (s : State) : Calm s (s.raiseClock v) := calm_onLease s _

theorem calm_addReplies (ds : List Deferred) (s : State) :
    Calm s (ds.foldl (fun t d => t.addReply d.grant) s) := by
  induction ds generalizing s with
  | nil => exact .refl s
  | cons d ds ih => exact (calm_addReply _ s).trans (ih _)

theorem calm_grantThose (p : Deferred → Bool) (s : State) : Calm s (s.grantThose p) :=
  (calm_addReplies _ s).trans (calm_onLease _ _)

theorem calm_grantDeferred (s : State) : Calm s s.grantDeferred :=
  .ite _ (.refl s) (.ite _ (calm_grantThose _ s) (calm_grantThose _ s))

theorem calm_toIdle (s : State) : Calm s s.toIdle :=
  (calm_onLease s _).trans (calm_grantDeferred _)

theorem calm_setRequest (r : Option Request) (s : State) : Calm s (s.setRequest r) :=
  .ite _ (calm_onSeq s _) (.ite _ (calm_onAft s _) (.refl s))

theorem calm_setStatus (st : RequestStatus) (s : State) : Calm s (s.setStatus st) := calm_setRequest _ s

theorem calm_withdrawFor (h : HoldReason) (s : State) : Calm s (s.withdrawFor h) :=
  .ite _ ((calm_placeAsk _ s).trans ((calm_setStatus _ _).trans (calm_toIdle _))) (.refl s)

theorem calm_withdrawGone (s : State) : Calm s s.withdrawGone :=
  .ite _ ((calm_placeAsk _ s).trans ((calm_setRequest _ _).trans (calm_toIdle _))) (.refl s)

theorem calm_blocksAtLatch (s : State) : Calm s s.blocksAtLatch :=
  ⟨rfl, rfl, rfl, rfl, rfl, rfl, rfl, rfl⟩

theorem calm_announce (s : State) : Calm s s.announce :=
  (Calm.ite _ (.refl s) (calm_withdrawFor _ s)).trans (calm_blocksAtLatch _)

theorem calm_setLatch (l : Latch) (v : Half) (ch : Option Channel) (s : State) :
    Calm s (s.setLatch l v ch) :=
  (calm_onTrip s _).trans
    ((Calm.ite _ (calm_onLif _ _) (.refl _)).trans ((calm_placeAlert _ _).trans (calm_announce _)))

theorem calm_latch (l : Latch) (v : Half) (s : State) : Calm s (s.latch l v) :=
  .ite _ (.refl s) (calm_setLatch l v none s)

theorem calm_enterUnload (x : SeqSub) (s : State) : Calm s (s.enterUnload x) := calm_onSeq s _

theorem calm_enterTopUpUnload (x : TopUpStage) (s : State) : Calm s (s.enterTopUpUnload x) :=
  calm_onAft s _

theorem calm_toldHolding (s : State) : Calm s s.toldHolding :=
  .ite _ (calm_onSeq s _) (.ite _ (calm_enterUnload _ s) (.ite _ (calm_onAft s _) (.refl s)))

theorem calm_enterHolding (s : State) : Calm s s.enterHolding :=
  (calm_onLease s _).trans (calm_toldHolding _)

theorem calm_sendAsk (s : State) : Calm s s.sendAsk := by
  unfold State.sendAsk
  split
  · exact .refl s
  · exact (calm_placeAsk _ s).trans (calm_onLease _ _)

theorem calm_take (r : Request) (s : State) : Calm s (s.take r) :=
  have k := (calm_onLease s
    (fun l =>
      { l with
        clock := l.clock + 1
        ask := some ⟨r.cls, r.abort, l.clock + 1, 1⟩
        required := s.presentMembers })).trans (calm_setStatus .taken _)
  .ite _ (k.trans (calm_enterHolding _))
    (k.trans ((calm_onLease _ _).trans (calm_sendAsk _)))

theorem calm_present (s : State) : Calm s s.present := by
  unfold State.present
  split
  · exact .refl s
  · split
    · exact calm_setStatus _ s
    · exact .refl s
    · exact calm_setStatus _ s
    · exact (calm_setStatus _ s).trans (calm_latch _ _ _)
    · exact calm_take _ s

theorem calm_presentWaiting (h : Option HoldReason) (s : State) : Calm s (s.presentWaiting h) :=
  .ite _ (calm_present s) (.refl s)

theorem calm_ask (cls : AskClass) (abort : Bool) (s : State) : Calm s (s.ask cls abort) :=
  (calm_setRequest _ s).trans (calm_present _)

theorem calm_release (s : State) : Calm s s.release :=
  .ite _
    ((Calm.ite _ (calm_setRequest _ s) (.refl s)).trans ((calm_toIdle _).trans (calm_presentWaiting _ _)))
    (calm_withdrawGone s)

theorem calm_checkComplete (s : State) : Calm s s.checkComplete :=
  .ite _ (calm_enterHolding s) (.refl s)

theorem calm_leaseHearsPresence (n : Nat) (new : Presence) (s : State) :
    Calm s (s.leaseHearsPresence n new) :=
  (Calm.ite (t := s.onLease fun l => { l with deferred := l.deferred.filter fun d => d.number != n })
    _ (calm_onLease s _) (.refl s)).trans
    (.ite _
      (.ite _ (calm_withdrawFor _ _)
        (.ite _ ((calm_onLease _ _).trans (calm_checkComplete _)) (.refl _)))
      (.refl _))

theorem calm_presenceChanged (n : Nat) (old new : Presence) (s : State) :
    Calm s (s.presenceChanged n old new) :=
  .ite _ (.refl s)
    (.ite _ ((calm_leaseHearsPresence n new s).trans (calm_present _)) (calm_leaseHearsPresence n new s))

end Sys2Proof.Machine
end

