-- ==== Sys2Proof/Laws/Entries.lean ====
section
/-! SUPPORT. What the three lists with one entry per neighbour hold after an entry is put in (R12, R42, R43),
and what a returned reply batch becomes with the new one (R12). -/

namespace Sys2Proof.Machine

theorem putReply_replaces {e : ReplyEntry} {es : List ReplyEntry} (h : ∃ x ∈ es, x.target = e.target) :
    putReply e es = es.map fun x => if x.target = e.target then e else x := by
  rw [putReply, if_pos (by simpa using h)]

theorem putReply_appends {e : ReplyEntry} {es : List ReplyEntry} (h : ∀ x ∈ es, x.target ≠ e.target) :
    putReply e es = es ++ [e] := by
  rw [putReply, if_neg (by simpa using h)]

theorem putDeferred_replaces {d : Deferred} {ds : List Deferred} (h : ∃ x ∈ ds, x.number = d.number) :
    putDeferred d ds = ds.map fun x => if x.number = d.number then d else x := by
  rw [putDeferred, if_pos (by simpa using h)]

theorem putDeferred_appends {d : Deferred} {ds : List Deferred} (h : ∀ x ∈ ds, x.number ≠ d.number) :
    putDeferred d ds = ds ++ [d] := by
  rw [putDeferred, if_neg (by simpa using h)]

theorem markUnanswered_marks {n : Nat} {ms : List Member} (h : ∃ m ∈ ms, m.number = n) :
    markUnanswered n ms = ms.map fun m => if m.number = n then { m with mark := .unanswered } else m := by
  rw [markUnanswered, if_pos (by simpa using h)]

theorem markUnanswered_appends {n : Nat} {ms : List Member} (h : ∀ m ∈ ms, m.number ≠ n) :
    markUnanswered n ms = ms ++ [⟨n, .unanswered⟩] := by
  rw [markUnanswered, if_neg (by simpa using h)]

/-- The neighbours of the returned batch come first, then those the new one adds. -/
theorem combineBatch_targets (returned new : List ReplyEntry) :
    (combineBatch returned new).map ReplyEntry.target =
      returned.map ReplyEntry.target
        ++ (new.map ReplyEntry.target).filter (fun n => !(returned.map ReplyEntry.target).contains n) := by
  rw [combineBatch, List.map_append]
  congr 1
  · rw [List.map_map]
    apply List.map_congr_left
    intro e _
    simp only [Function.comp]
    cases h : new.find? fun x => x.target == e.target with
    | none => rfl
    | some y => simpa using List.find?_some h
  · rw [List.filter_map]
    congr 1
    apply List.filter_congr
    intro x _
    rw [Bool.eq_iff_iff]
    simp

/-- For a neighbour of both batches the new entry stands. -/
theorem combineBatch_newer {returned new : List ReplyEntry} {x : ReplyEntry} (hx : x ∈ combineBatch returned new) :
    ((∃ y ∈ new, y.target = x.target) → x ∈ new)
      ∧ ((∀ y ∈ new, y.target ≠ x.target) → x ∈ returned) := by
  rcases List.mem_append.1 hx with h | h
  · obtain ⟨e, he, rfl⟩ := List.mem_map.1 h
    cases hf : new.find? fun x => x.target == e.target with
    | none =>
      simp only [Option.getD]
      exact ⟨fun ⟨y, hy, hq⟩ => absurd hq (by simpa using List.find?_eq_none.1 hf y hy), fun _ => he⟩
    | some y =>
      have hm := List.mem_of_find?_eq_some hf
      exact ⟨fun _ => hm, fun hn => absurd rfl (hn y hm)⟩
  · have hm := (List.mem_filter.1 h).1
    exact ⟨fun _ => hm, fun hn => absurd rfl (hn x hm)⟩

end Sys2Proof.Machine
end

