-- ==== Sys2Proof/Laws/Finish.lean ====
section
/-! SUPPORT. What closes an event and what passing time do, field by field (R7, R78, R159, R163; log entry 3). -/

namespace Sys2Proof.Machine

/-! ## The end of an event -/

@[simp] theorem State.finish_pending (s : State) : s.finish.pending = s.pending := by
  unfold State.finish State.showDrives State.startTx; split <;> rfl

@[simp] theorem State.finish_free (s : State) : s.finish.free = s.free := by
  unfold State.finish State.showDrives State.startTx; split <;> rfl

@[simp] theorem State.finish_binding (s : State) : s.finish.binding = s.binding := by
  unfold State.finish State.showDrives State.startTx; split <;> rfl

@[simp] theorem State.finish_roster (s : State) : s.finish.roster = s.roster := by
  unfold State.finish State.showDrives State.startTx; split <;> rfl

@[simp] theorem State.finish_lease (s : State) : s.finish.lease = s.lease := by
  unfold State.finish State.showDrives State.startTx; split <;> rfl

@[simp] theorem State.finish_crew (s : State) : s.finish.crew = s.crew := by
  unfold State.finish State.showDrives State.startTx; split <;> rfl

@[simp] theorem State.finish_placement (s : State) : s.finish.placement = s.placement := by
  unfold State.finish State.showDrives State.startTx; split <;> rfl

@[simp] theorem State.finish_grout (s : State) : s.finish.grout = s.grout := by
  unfold State.finish State.showDrives State.startTx; split <;> rfl

@[simp] theorem State.finish_seq (s : State) : s.finish.seq = s.seq := by
  unfold State.finish State.showDrives State.startTx; split <;> rfl

@[simp] theorem State.finish_aft (s : State) : s.finish.aft = s.aft := by
  unfold State.finish State.showDrives State.startTx; split <;> rfl

@[simp] theorem State.finish_store (s : State) : s.finish.store = s.store := by
  unfold State.finish State.showDrives State.startTx; split <;> rfl

@[simp] theorem State.finish_trip_latches (s : State) : s.finish.trip.latches = s.trip.latches := by
  unfold State.finish State.showDrives State.startTx; split <;> rfl

@[simp] theorem State.finish_trip_named (s : State) : s.finish.trip.named = s.trip.named := by
  unfold State.finish State.showDrives State.startTx; split <;> rfl

@[simp] theorem State.finish_trip_firstCause (s : State) : s.finish.trip.firstCause = s.trip.firstCause := by
  unfold State.finish State.showDrives State.startTx; split <;> rfl

@[simp] theorem State.finish_scan_jp (s : State) : s.finish.scan.jp = s.scan.jp := by
  unfold State.finish State.showDrives State.startTx; split <;> rfl

@[simp] theorem State.finish_scan_ext (s : State) : s.finish.scan.ext = s.scan.ext := by
  unfold State.finish State.showDrives State.startTx; split <;> rfl

@[simp] theorem State.finish_scan_lc (s : State) : s.finish.scan.lc = s.scan.lc := by
  unfold State.finish State.showDrives State.startTx; split <;> rfl

@[simp] theorem State.finish_scan_gp (s : State) : s.finish.scan.gp = s.scan.gp := by
  unfold State.finish State.showDrives State.startTx; split <;> rfl

@[simp] theorem State.finish_scan_gf (s : State) : s.finish.scan.gf = s.scan.gf := by
  unfold State.finish State.showDrives State.startTx; split <;> rfl

@[simp] theorem State.finish_scan_hp (s : State) : s.finish.scan.hp = s.scan.hp := by
  unfold State.finish State.showDrives State.startTx; split <;> rfl

@[simp] theorem State.finish_scan_wp (s : State) : s.finish.scan.wp = s.scan.wp := by
  unfold State.finish State.showDrives State.startTx; split <;> rfl

@[simp] theorem State.finish_scan_ro (s : State) : s.finish.scan.ro = s.scan.ro := by
  unfold State.finish State.showDrives State.startTx; split <;> rfl

@[simp] theorem State.finish_scan_rails (s : State) : s.finish.scan.rails = s.scan.rails := by
  unfold State.finish State.showDrives State.startTx; split <;> rfl

@[simp] theorem State.finish_scan_lcTrusted (s : State) : s.finish.scan.lcTrusted = s.scan.lcTrusted := by
  unfold State.finish State.showDrives State.startTx; split <;> rfl

/-- A transmitter that stays or starts to wait: nothing else of the line interface changes (R7). -/
theorem State.finish_lif (s : State) : s.finish.lif = s.clearTimes.startTx.lif := rfl

/-- The drives after an event are those the state gives (R78, R82, R95, R115, R116, R117). -/
theorem State.finish_drives (s : State) : s.finish.drives = s.clearTimes.startTx.drivesNow := rfl

/-! ## Passing time -/

@[simp] theorem State.elapse_pending (d : Nat) (s : State) : (s.elapse d).pending = s.pending := rfl

@[simp] theorem State.elapse_free (d : Nat) (s : State) : (s.elapse d).free = s.free := rfl

@[simp] theorem State.elapse_binding (d : Nat) (s : State) : (s.elapse d).binding = s.binding := rfl

@[simp] theorem State.elapse_scan (d : Nat) (s : State) : (s.elapse d).scan = s.scan := rfl

@[simp] theorem State.elapse_trip (d : Nat) (s : State) : (s.elapse d).trip = s.trip := rfl

@[simp] theorem State.elapse_store (d : Nat) (s : State) : (s.elapse d).store = s.store := rfl

@[simp] theorem State.elapse_lease_state (d : Nat) (s : State) : (s.elapse d).lease.state = s.lease.state := rfl

@[simp] theorem State.elapse_lease_clock (d : Nat) (s : State) : (s.elapse d).lease.clock = s.lease.clock := rfl

@[simp] theorem State.elapse_lease_ask (d : Nat) (s : State) : (s.elapse d).lease.ask = s.lease.ask := rfl

@[simp] theorem State.elapse_lease_required (d : Nat) (s : State) : (s.elapse d).lease.required = s.lease.required := rfl

@[simp] theorem State.elapse_lease_deferred (d : Nat) (s : State) : (s.elapse d).lease.deferred = s.lease.deferred := rfl

@[simp] theorem State.elapse_lease_askLapses (d : Nat) (s : State) : (s.elapse d).lease.askLapses = s.lease.askLapses := rfl

@[simp] theorem State.elapse_crew_phase (d : Nat) (s : State) : (s.elapse d).crew.phase = s.crew.phase := rfl

@[simp] theorem State.elapse_crew_hold (d : Nat) (s : State) : (s.elapse d).crew.hold = s.crew.hold := rfl

@[simp] theorem State.elapse_crew_holdSwitch (d : Nat) (s : State) : (s.elapse d).crew.holdSwitch = s.crew.holdSwitch := rfl

@[simp] theorem State.elapse_crew_storeFull (d : Nat) (s : State) : (s.elapse d).crew.storeFull = s.crew.storeFull := rfl

@[simp] theorem State.elapse_crew_stage (d : Nat) (s : State) : (s.elapse d).crew.stage = s.crew.stage := rfl

@[simp] theorem State.elapse_placement_sub (d : Nat) (s : State) : (s.elapse d).placement.sub = s.placement.sub := rfl

@[simp] theorem State.elapse_placement_ropeOut (d : Nat) (s : State) : (s.elapse d).placement.ropeOut = s.placement.ropeOut := rfl

@[simp] theorem State.elapse_placement_limitCount (d : Nat) (s : State) : (s.elapse d).placement.limitCount = s.placement.limitCount := rfl

@[simp] theorem State.elapse_placement_cleanDist (d : Nat) (s : State) : (s.elapse d).placement.cleanDist = s.placement.cleanDist := rfl

@[simp] theorem State.elapse_placement_slackTime (d : Nat) (s : State) : (s.elapse d).placement.slackTime = s.placement.slackTime := rfl

@[simp] theorem State.elapse_placement_breakTime (d : Nat) (s : State) : (s.elapse d).placement.breakTime = s.placement.breakTime := rfl

@[simp] theorem State.elapse_grout_sub (d : Nat) (s : State) : (s.elapse d).grout.sub = s.grout.sub := rfl

@[simp] theorem State.elapse_grout_volume (d : Nat) (s : State) : (s.elapse d).grout.volume = s.grout.volume := rfl

@[simp] theorem State.elapse_grout_opening (d : Nat) (s : State) : (s.elapse d).grout.opening = s.grout.opening := rfl

@[simp] theorem State.elapse_grout_refusalTime (d : Nat) (s : State) : (s.elapse d).grout.refusalTime = s.grout.refusalTime := rfl

@[simp] theorem State.elapse_grout_sagTime (d : Nat) (s : State) : (s.elapse d).grout.sagTime = s.grout.sagTime := rfl

@[simp] theorem State.elapse_grout_left (d : Nat) (s : State) : (s.elapse d).grout.left = s.grout.left := rfl

@[simp] theorem State.elapse_grout_yieldCount (d : Nat) (s : State) : (s.elapse d).grout.yieldCount = s.grout.yieldCount := rfl

@[simp] theorem State.elapse_grout_cleanTime (d : Nat) (s : State) : (s.elapse d).grout.cleanTime = s.grout.cleanTime := rfl

@[simp] theorem State.elapse_grout_watch (d : Nat) (s : State) : (s.elapse d).grout.watch = s.grout.watch := rfl

@[simp] theorem State.elapse_seq_sub (d : Nat) (s : State) : (s.elapse d).seq.sub = s.seq.sub := rfl

@[simp] theorem State.elapse_seq_step (d : Nat) (s : State) : (s.elapse d).seq.step = s.seq.step := rfl

@[simp] theorem State.elapse_seq_request (d : Nat) (s : State) : (s.elapse d).seq.request = s.seq.request := rfl

@[simp] theorem State.elapse_seq_datum (d : Nat) (s : State) : (s.elapse d).seq.datum = s.seq.datum := rfl

@[simp] theorem State.elapse_seq_readings (d : Nat) (s : State) : (s.elapse d).seq.readings = s.seq.readings := rfl

@[simp] theorem State.elapse_seq_verdict (d : Nat) (s : State) : (s.elapse d).seq.verdict = s.seq.verdict := rfl

@[simp] theorem State.elapse_seq_tripMark (d : Nat) (s : State) : (s.elapse d).seq.tripMark = s.seq.tripMark := rfl

@[simp] theorem State.elapse_seq_abort (d : Nat) (s : State) : (s.elapse d).seq.abort = s.seq.abort := rfl

@[simp] theorem State.elapse_seq_slot (d : Nat) (s : State) : (s.elapse d).seq.slot = s.seq.slot := rfl

@[simp] theorem State.elapse_aft_sub (d : Nat) (s : State) : (s.elapse d).aft.sub = s.aft.sub := rfl

@[simp] theorem State.elapse_aft_stage (d : Nat) (s : State) : (s.elapse d).aft.stage = s.aft.stage := rfl

@[simp] theorem State.elapse_aft_target (d : Nat) (s : State) : (s.elapse d).aft.target = s.aft.target := rfl

@[simp] theorem State.elapse_aft_slot (d : Nat) (s : State) : (s.elapse d).aft.slot = s.aft.slot := rfl

@[simp] theorem State.elapse_aft_request (d : Nat) (s : State) : (s.elapse d).aft.request = s.aft.request := rfl

@[simp] theorem State.elapse_aft_before (d : Nat) (s : State) : (s.elapse d).aft.before = s.aft.before := rfl

@[simp] theorem State.elapse_aft_count (d : Nat) (s : State) : (s.elapse d).aft.count = s.aft.count := rfl

@[simp] theorem State.elapse_aft_lossExcess (d : Nat) (s : State) : (s.elapse d).aft.lossExcess = s.aft.lossExcess := rfl

@[simp] theorem State.elapse_lif_straps (d : Nat) (s : State) : (s.elapse d).lif.straps = s.lif.straps := rfl

@[simp] theorem State.elapse_lif_groupMask (d : Nat) (s : State) : (s.elapse d).lif.groupMask = s.lif.groupMask := rfl

@[simp] theorem State.elapse_lif_batch (d : Nat) (s : State) : (s.elapse d).lif.batch = s.lif.batch := rfl

@[simp] theorem State.elapse_lif_ask (d : Nat) (s : State) : (s.elapse d).lif.ask = s.lif.ask := rfl

@[simp] theorem State.elapse_lif_alert (d : Nat) (s : State) : (s.elapse d).lif.alert = s.lif.alert := rfl

@[simp] theorem State.elapse_lif_fifo (d : Nat) (s : State) : (s.elapse d).lif.fifo = s.lif.fifo := rfl

@[simp] theorem State.elapse_lif_beacon (d : Nat) (s : State) : (s.elapse d).lif.beacon = s.lif.beacon := rfl

@[simp] theorem State.elapse_lif_tx (d : Nat) (s : State) : (s.elapse d).lif.tx = s.lif.tx := rfl

@[simp] theorem State.elapse_lif_rng (d : Nat) (s : State) : (s.elapse d).lif.rng = s.lif.rng := rfl

end Sys2Proof.Machine
end

