-- ==== Sys2Proof/Laws/Idle.lean ====
section
/-! SUPPORT. What the lease's return to IDLE does, said once: the grants of R44 as closed forms. -/

namespace Sys2Proof.Machine

/-- GRANT entries offered one by one fill the reply batch as `batchGranting` says. -/
theorem State.addReplies_eq (ds : List Deferred) (s : State) :
    ds.foldl (fun t d => t.addReply d.grant) s = { s with lif := { s.lif with batch := s.batchGranting ds } } := by
  induction ds generalizing s with
  | nil => unfold State.batchGranting; split <;> rfl
  | cons d ds ih =>
    rw [List.foldl_cons, ih]
    by_cases h : s.listenOnly = true
    · have e : s.addReply d.grant = s := by unfold State.addReply; rw [if_pos h]
      rw [e]; unfold State.batchGranting; rw [if_pos h, if_pos h]
    · have e : s.addReply d.grant
          = { s with
              lif := { s.lif with batch := { s.lif.batch with frame := putReply d.grant s.lif.batch.frame } } } := by
        unfold State.addReply; rw [if_neg h]; rfl
      rw [e]
      unfold State.batchGranting
      rw [if_neg h, if_neg (show ¬State.listenOnly { s with
        lif := { s.lif with
          batch := { s.lif.batch with frame := putReply d.grant s.lif.batch.frame } } } = true from h)]
      rfl

/-- The deferred entries that a predicate picks, granted. -/
theorem State.grantThose_eq (p : Deferred → Bool) (s : State) :
    s.grantThose p =
      { s with
        lif := { s.lif with batch := s.batchGranting (s.lease.deferred.filter p) }
        lease := { s.lease with deferred := s.lease.deferred.filter fun d => !p d } } := by
  unfold State.grantThose; rw [State.addReplies_eq]; rfl

/-- R44's grant as the lease stands in IDLE. -/
theorem State.grantDeferred_eq (s : State) (h : s.lease.state = .idle) :
    s.grantDeferred =
      { s with
        lif := { s.lif with batch := s.batchGranting s.grantedInIdle }
        lease := { s.lease with deferred := s.keptInIdle } } := by
  unfold State.grantDeferred State.grantedInIdle State.keptInIdle State.freshGrout State.pendingTopUp
  by_cases g : s.crew.phase = .grouting ∨ s.crew.phase = .setting
  · rw [if_pos g, if_pos g, if_pos (by rcases g with g | g <;> simp [g])]
    unfold State.batchGranting; split <;> rfl
  · rw [if_neg g, if_neg g, if_neg (by rw [not_or] at g; simp [h, g.1, g.2])]
    by_cases k : s.crew.phase = .locked ∧ s.aft.sub = some .pending
    · rw [if_pos k, if_pos k, if_pos (by simp [k.1, k.2]), State.grantThose_eq]
    · rw [if_neg k, if_neg k, if_neg (by simpa using k), State.grantThose_eq]
      simp

/-- The lease's return to IDLE. -/
theorem State.toIdle_eq (s : State) : s.toIdle = s.idled := by
  unfold State.toIdle; rw [State.grantDeferred_eq _ rfl]; rfl

/-- The requester's request is no part of what the lease's return to IDLE reads or writes. -/
theorem State.idled_setRequest (r : Option Request) (s : State) :
    (s.setRequest r).idled = s.idled.setRequest r := by
  obtain ⟨pending, free, binding, lif, roster, lease, crew, placement, grout, seq, aft, scan, trip, store,
    drives⟩ := s
  obtain ⟨phase, hold, holdSwitch, storeFull, stopHold, stage, listen⟩ := crew
  cases phase <;> rfl

/-- Changing the request's status is no part of it either. -/
theorem State.idled_setStatus (st : RequestStatus) (s : State) :
    (s.setStatus st).idled = s.idled.setStatus st := State.idled_setRequest _ s

/-- The WITHDRAW offered before the return to IDLE. -/
theorem State.idled_placeAsk (s : State) : (s.placeAsk (.withdraw s.askStamp)).idled = s.withdrawn := by
  unfold State.placeAsk State.withdrawn
  by_cases a : s.listenOnly = true
  · rw [if_pos a, if_pos a]; rfl
  · rw [if_neg a, if_neg a]; unfold State.idled State.batchGranting
    rw [if_neg a, if_neg (show ¬State.listenOnly (s.onLif fun l =>
      { l with ask := some ⟨.withdraw s.askStamp, 0⟩ }) = true from a)]
    rfl

/-- A withdrawal after which the request is gone (R53, R55). -/
theorem State.withdrawGone_eq (s : State) (h : s.lease.state = .asking) :
    s.withdrawGone = s.withdrawn.setRequest none := by
  unfold State.withdrawGone
  rw [if_pos h, State.toIdle_eq, State.idled_setRequest, State.idled_placeAsk]

/-- A withdrawal after which the request waits with a hold reason (R51). -/
theorem State.withdrawFor_eq (x : HoldReason) (s : State) (h : s.lease.state = .asking) :
    s.withdrawFor x = s.withdrawn.setStatus (.waiting (some x)) := by
  unfold State.withdrawFor
  rw [if_pos h, State.toIdle_eq, State.idled_setStatus, State.idled_placeAsk]

/-- A latch announced: the ask withdrawn where it is out without the abort flag, then each block (R54, R167). -/
theorem State.announce_eq (s : State) :
    s.announce =
      (if s.lease.state = .asking ∧ s.askAbort = false then
          State.setStatus (.waiting (some .held)) s.withdrawn
        else s).blocksAtLatch := by
  unfold State.announce
  cases k : s.askAbort
  · by_cases h : s.lease.state = .asking
    · rw [if_neg Bool.false_ne_true, if_pos ⟨h, rfl⟩, State.withdrawFor_eq _ _ h]
    · rw [if_neg Bool.false_ne_true, if_neg (fun x => h x.1), State.withdrawFor, if_neg h]
  · rw [if_pos rfl, if_neg (fun x => Bool.noConfusion x.2)]

/-- A required member that is LOST or MISMATCH takes the ask with it (R56). -/
theorem State.leaseHearsPresence_lost (n : Nat) (p : Presence) (s : State) (hp : p = .lost ∨ p = .mismatch)
    (h : s.lease.state = .asking) (hm : ∃ m ∈ s.lease.required, m.number = n) :
    s.leaseHearsPresence n p = State.setStatus (.waiting (some .neighbourNotPresent)) s.withdrawn := by
  have hr : p ≠ .retired := by rcases hp with rfl | rfl <;> decide
  unfold State.leaseHearsPresence
  rw [if_neg hr, if_pos ⟨h, by simpa using hm⟩, if_pos hp, State.withdrawFor_eq _ _ h]

/-- A release of a held lease by the requester whose request was taken (R58). -/
theorem State.release_eq (s : State) (h : s.lease.state = .holding)
    (k : s.request.map Request.status = some .taken) : s.release = s.idled.setRequest none := by
  unfold State.release
  rw [if_pos h, if_pos k, State.toIdle_eq, State.idled_setRequest]
  unfold State.presentWaiting
  rw [if_neg]
  unfold State.waitsWith State.request State.setRequest
  by_cases p : s.idled.crew.phase = .stressing
  · rw [if_pos p, if_pos (show (s.idled.onSeq _).crew.phase = .stressing from p)]; exact Bool.false_ne_true
  · rw [if_neg p]
    by_cases q : s.idled.crew.phase = .locked
    · rw [if_pos q, if_neg (show ¬(s.idled.onAft _).crew.phase = .stressing from p),
        if_pos (show (s.idled.onAft _).crew.phase = .locked from q)]; exact Bool.false_ne_true
    · rw [if_neg q, if_neg p, if_neg q]; decide

end Sys2Proof.Machine
end

