-- ==== Sys2Proof/Laws/PerInstr.lean ====
section
/-! SUPPORT. For each command: a well-formed one that carries a frame carries a destination and a source that passed the receive checks (R3). -/

namespace Sys2Proof.Laws.Row

/-- A well-formed command's destination and source, where it has them, are in their ranges (R3). -/
def Statement (i : Instr) : Prop :=
  i.wellFormed = true → ∀ d s, i.header = some (d, s) → headerOk d s = true

/-- A command without a frame header. -/
theorem of_none {i : Instr} (h : i.header = none) : Statement i :=
  fun _ _ _ e => nomatch h.symm.trans e

/-- A command whose well-formedness gives its header's. -/
theorem of_header {i : Instr} {d s : Byte} (h : i.header = some (d, s))
    (k : i.wellFormed = true → headerOk d s = true) : Statement i := by
  intro w d' s' e
  cases h.symm.trans e
  exact k w

/-- The first of two conditions. -/
theorem left {a b : Bool} (h : (a && b) = true) : a = true := (Bool.and_eq_true_iff.mp h).1

theorem powerOn (straps : BitVec 6) (keepHigh holdSwitch : Bool) :
    Statement (.powerOn straps keepHigh holdSwitch) := of_none rfl

theorem startListenEnd :
    Statement (.startListenEnd) := of_none rfl

theorem go :
    Statement (.go) := of_none rfl

theorem stop :
    Statement (.stop) := of_none rfl

theorem stopRelease :
    Statement (.stopRelease) := of_none rfl

theorem longStop :
    Statement (.longStop) := of_none rfl

theorem holdOn :
    Statement (.holdOn) := of_none rfl

theorem holdOff :
    Statement (.holdOff) := of_none rfl

theorem keepPinChange (high : Bool) :
    Statement (.keepPinChange high) := of_none rfl

theorem badReception (burst : List Byte) :
    Statement (.badReception burst) := of_none rfl

theorem beacon (dst src : Byte) (b : BeaconIn) :
    Statement (.beacon dst src b) := of_header rfl fun h => left h

theorem ask (dst src : Byte) (cls : Byte) (stamp : Stamp) (count : Byte) :
    Statement (.ask dst src cls stamp count) := of_header rfl fun h => h

theorem reply (dst src : Byte) (entries : List ReplyIn) :
    Statement (.reply dst src entries) := of_header rfl fun h => left (left h)

theorem withdraw (dst src : Byte) (stamp : Stamp) :
    Statement (.withdraw dst src stamp) := of_header rfl fun h => h

theorem leave (dst src : Byte) :
    Statement (.leave dst src) := of_header rfl fun h => h

theorem retire (dst src : Byte) (number : Byte) :
    Statement (.retire dst src number) := of_header rfl fun h => h

theorem alert (dst src : Byte) (cause phase : Byte) (value : Half) :
    Statement (.alert dst src cause phase value) := of_header rfl fun h => h

theorem reportDiscard (dst src : Byte) :
    Statement (.reportDiscard dst src) := of_header rfl fun h => h

theorem bind (dst src : Byte) (b : BindIn) :
    Statement (.bind dst src b) := of_header rfl fun h => left h

theorem statusQuery (dst src : Byte) :
    Statement (.statusQuery dst src) := of_header rfl fun h => h

theorem recordQuery (dst src : Byte) (slot part : Byte) :
    Statement (.recordQuery dst src slot part) := of_header rfl fun h => h

theorem exportedQuery (dst src : Byte) (slot : Byte) (number : Half) :
    Statement (.exportedQuery dst src slot number) := of_header rfl fun h => h

theorem queryUnknown (dst src : Byte) (what : Byte) :
    Statement (.queryUnknown dst src what) := of_header rfl fun h => left h

theorem quietWaitEnd :
    Statement (.quietWaitEnd) := of_none rfl

theorem collision :
    Statement (.collision) := of_none rfl

theorem backoffEnd :
    Statement (.backoffEnd) := of_none rfl

theorem transmitComplete :
    Statement (.transmitComplete) := of_none rfl

theorem jabberCutoff :
    Statement (.jabberCutoff) := of_none rfl

theorem beaconTimer :
    Statement (.beaconTimer) := of_none rfl

theorem beaconAgeExpiry (number : Byte) :
    Statement (.beaconAgeExpiry number) := of_none rfl

theorem askTimer :
    Statement (.askTimer) := of_none rfl

theorem reaskDelayEnd :
    Statement (.reaskDelayEnd) := of_none rfl

theorem holdTimerOverrun :
    Statement (.holdTimerOverrun) := of_none rfl

theorem scanPublish (v : ScanSet) :
    Statement (.scanPublish v) := of_none rfl

theorem offTimeEnd :
    Statement (.offTimeEnd) := of_none rfl

theorem slackFound :
    Statement (.slackFound) := of_none rfl

theorem cleanDistanceReached :
    Statement (.cleanDistanceReached) := of_none rfl

theorem placementComplete :
    Statement (.placementComplete) := of_none rfl

theorem breakIn :
    Statement (.breakIn) := of_none rfl

theorem fillComplete :
    Statement (.fillComplete) := of_none rfl

theorem volumeLimit :
    Statement (.volumeLimit) := of_none rfl

theorem refusal :
    Statement (.refusal) := of_none rfl

theorem headerSag :
    Statement (.headerSag) := of_none rfl

theorem yieldEnd :
    Statement (.yieldEnd) := of_none rfl

theorem cleanTimeReached :
    Statement (.cleanTimeReached) := of_none rfl

theorem settingBreakthrough :
    Statement (.settingBreakthrough) := of_none rfl

theorem setTimerEnd :
    Statement (.setTimerEnd) := of_none rfl

theorem cureTimerEnd :
    Statement (.cureTimerEnd) := of_none rfl

theorem rampTimerLimit :
    Statement (.rampTimerLimit) := of_none rfl

theorem stepHoldEnd :
    Statement (.stepHoldEnd) := of_none rfl

theorem alignCheck :
    Statement (.alignCheck) := of_none rfl

theorem proofReading :
    Statement (.proofReading) := of_none rfl

theorem seatingEnd :
    Statement (.seatingEnd) := of_none rfl

theorem unloadTimerLimit :
    Statement (.unloadTimerLimit) := of_none rfl

theorem settleEnd :
    Statement (.settleEnd) := of_none rfl

theorem lowTimeReached :
    Statement (.lowTimeReached) := of_none rfl

theorem recoveryTimeReached :
    Statement (.recoveryTimeReached) := of_none rfl

theorem topupSeatingEnd :
    Statement (.topupSeatingEnd) := of_none rfl

theorem topupSettleEnd :
    Statement (.topupSettleEnd) := of_none rfl

theorem jackOver :
    Statement (.jackOver) := of_none rfl

theorem groutOver :
    Statement (.groutOver) := of_none rfl

theorem extRunaway :
    Statement (.extRunaway) := of_none rfl

theorem sensorFault (ch : Channel) :
    Statement (.sensorFault ch) := of_none rfl

theorem writeJobComplete :
    Statement (.writeJobComplete) := of_none rfl

theorem frameNotAccepted (dst src : Byte) :
    Statement (.frameNotAccepted dst src) := of_header rfl fun h => h

theorem storeScanEnd :
    Statement (.storeScanEnd) := of_none rfl

end Sys2Proof.Laws.Row
end

