-- ==== Sys2Proof/Tests/Slice0.lean ====
section
/-! SUPPORT. Tests of the model: ill-formed commands refused, one or two small checks for each command, and a witness that meets the hypotheses of each statement. -/

set_option Elab.async false

namespace Sys2Proof.Tests

open Sys2Proof.Machine

/-! ## Small states -/

/-- A binding with small numbers. -/
def bnd : Binding :=
  { Binding.unbound with
    label := [65], wall := 31, tendonLength := 500, pullLimit := 180, slack := 15, offTimeUs := 1000000
    holeVolume := 10, fillFactor := 130, stagePressure := 800, groutMax := 1500, refusalFlow := 20
    refusalTime := 1, volumeLimit := 40, headerMin := 300, breakthrough := 300, setTime := 6
    cureTime := 168, ramArea := 200, maxJack := 50000, designLoad := 600, alignLoad := 60
    rampRate := 100, creepLimit := 100, extMin := 2000, extMax := 6000, lockTol := 5, lossTol := 5
    topUpScans := 600, groutScans := 1, extEnable := true, extScans := 50, lockOffLoad := 540
    plan := [⟨.load, 300, 60⟩, ⟨.proof, 750, 0⟩, ⟨.unload, 600, 60⟩, ⟨.lockOff, 540, 0⟩] }

/-- The roster entry of station 2. -/
def peer (p : Presence) : Entry :=
  { number := 2, presence := p, count := 2, mismatch := none, age := 0, lostLatch := false,
    heardPhase := none, heardHeld := false, heard := none }

/-- A bound controller, on line in a phase, with station 2 PRESENT. -/
def site (p : Phase) : State :=
  { State.reset with
    binding := some bnd
    roster := { entries := [peer .present], beaconTimer := .start 2004000 }
    crew := { State.reset.crew with phase := p, stage := .online, listen := .off } }

/-- The same before its binding, in SETUP. -/
def fresh : State :=
  { State.reset with crew := { State.reset.crew with stage := .online, listen := .off } }

/-- PLACING in a sub-state. -/
def placing (x : PlacementSub) : State :=
  { site .placing with placement := { Placement.reset with sub := some x } }

/-- GROUTING in a sub-state. -/
def grouting (x : GroutSub) : State :=
  { site .grouting with grout := { Grout.reset with sub := some x, testsOpen := true } }

/-- Jack work with every timer running. -/
def jack : Jack :=
  { Jack.reset with
    ramp := .start 60000000, unload := .start 60000000, seating := .start 5000000
    settle := .start 60000000 }

/-- A lease with the ask of a request, station 2 unanswered. -/
def leaseOf (l : LeaseState) (c : AskClass) (abort : Bool) : Lease :=
  { Lease.reset with
    state := l, clock := 1, ask := if l = .idle then none else some ⟨c, abort, 1, 1⟩
    required := if l = .idle then [] else [⟨2, .unanswered⟩]
    askTimer := if l = .asking then .start 5000000 else .off
    hold := if l = .holding then .start 5400000000 else .off }

/-- A request as the lease state leaves it. -/
def requestOf (l : LeaseState) (c : AskClass) (abort : Bool) (h : Option HoldReason) : Request :=
  ⟨c, abort, if l = .idle then .waiting h else .taken⟩

/-- An OPEN slot of kind TEST. -/
def openSlot : SlotRecord :=
  { isOpen := true, number := 1, kind := .test, label := [65], wall := 31, station := 1,
    digest := ⟨600, 750, 540, 4⟩, points := [], verdict := none, extended := false, lockOffLow := false,
    residual := none, topUps := [], lossExcess := false, exported := false }

/-- A CLOSED slot with verdict PASS. -/
def closedSlot : SlotRecord := { openSlot with isOpen := false, verdict := some .pass, residual := some 540 }

/-- A store whose first slot holds a record. -/
def storeOf (r : SlotRecord) : Store :=
  let c : Contents := { Contents.factory with slots := some r :: List.replicate 7 none, counter := 1 }
  { nv := c, image := c, queue := [], keepPin := false }

/-- STRESSING at step 1 in a sub-state, the lease in a state. -/
def testing (x : SeqSub) (l : LeaseState) : State :=
  { site .stressing with
    lease := leaseOf l (if x = .abortWait then .restore else .advance) (x == .abortWait)
    store := storeOf openSlot
    seq :=
      { Seq.reset with
        sub := some x, step := 1, clockOn := true, datum := some 0, slot := some 1, jack
        holdTimer := .start 60000000
        request := some (requestOf l (if x = .abortWait then .restore else .advance) (x == .abortWait) none) } }

/-- A test that lowers, the relief valve called. -/
def unloading (x : SeqSub) : State :=
  { testing x .holding with seq := { (testing x .holding).seq with jack := { jack with lower := true } } }

/-- LOCKED in a sub-state and stage, the lease in a state. -/
def locked (x : AftSub) (st : Option TopUpStage) (l : LeaseState) : State :=
  { site .locked with
    lease := leaseOf l .restore false
    store := storeOf closedSlot
    aft :=
      { Aft.reset with
        sub := some x, stage := st, target := some 540, slot := some 1, jack
        request := if x = .watch then none else some (requestOf l .restore false none) } }

/-- A settle whose scan to read has come. -/
def settled (s : State) : State :=
  { s with
    seq := { s.seq with jack := { s.seq.jack with readDue := true } }
    aft := { s.aft with jack := { s.aft.jack with readDue := true } } }

/-- The store scan over these slots. -/
def scanning (slots : List (Option SlotRecord)) : State :=
  { State.reset with
    crew := { State.reset.crew with stage := .storeScan }
    store := { State.reset.store with nv := { Contents.factory with slots } } }

/-- CURED over a store whose slots are these. -/
def withSlots (slots : List (Option SlotRecord)) : State :=
  { site .cured with
    store := { (site .cured).store with image := { Contents.factory with slots } } }

/-- A transmitter in some condition. -/
def line (tx : Tx) : State := { site .cured with lif := { (site .cured).lif with tx } }

/-- A scan with every value 0. -/
def quietScan : ScanSet := ⟨0, 0, 0, 0, 0, 0, 0, 0, 0⟩

/-- A BIND payload that the validation accepts. -/
def bindIn (start : Byte) : BindIn :=
  { labelCount := 3, labelChars := [65, 66, 67, 0, 0, 0, 0, 0, 0, 0, 0, 0], wall := 31, groupMask := 5
    rosterCount := 1, roster := [2, 0, 0, 0, 0, 0, 0, 0, 0, 0, 0, 0], tendonLength := 500
    pullLimit := 180, slack := 15, offTimePick := 1, holeVolume := 10, fillFactor := 130
    stagePressure := 800, groutMax := 1500, refusalFlow := 20, refusalTime := 1, volumeLimit := 40
    headerMin := 300, breakthrough := 300, setTime := 6, cureTime := 168, ramArea := 200
    maxJack := 50000, designLoad := 600, alignLoad := 60, rampRate := 100, creepLimit := 100
    extMin := 2000, extMax := 6000, lockTol := 5, lossTol := 5, topUpPick := 0, groutOverPick := 0
    extEnable := 1, extPick := 0, keepHonour := 0, startPhase := start, cureHours := 24
    lockOffLoad := 540, stepCount := 5
    steps :=
      [⟨1, 300, 60⟩, ⟨1, 600, 60⟩, ⟨2, 750, 0⟩, ⟨3, 600, 60⟩, ⟨4, 540, 0⟩, ⟨0, 0, 0⟩, ⟨0, 0, 0⟩,
        ⟨0, 0, 0⟩, ⟨0, 0, 0⟩, ⟨0, 0, 0⟩] }

/-- A good beacon of station 2. -/
def goodBeacon : BeaconIn :=
  { phase := 5, sub := 0, flags := 1, lease := 0, cls := 0, stamp := 0, clock := 9, load := 7, wall := 31,
    roster := [1] }

/-- The state that a command leaves. -/
def after (c : Instr) (s : State) : State :=
  match exec c s with
  | .next t => t
  | .fault _ => s
  | .refused _ => s

/-! ## Ill-formed commands are refused -/

theorem test_badReception_of_a_valid_frame :
    (Instr.badReception (frameBytes 63 2 5 [])).wellFormed = false := by decide +kernel
theorem test_header_destination_zero : (Instr.leave 0 2).wellFormed = false := by decide
theorem test_header_destination_eighty : (Instr.leave 80 2).wellFormed = false := by decide
theorem test_header_source_zero : (Instr.leave 63 0).wellFormed = false := by decide
theorem test_header_source_sixty_three : (Instr.leave 63 63).wellFormed = false := by decide
theorem test_beacon_with_thirteen_numbers :
    (Instr.beacon 63 2 { goodBeacon with roster := List.replicate 13 1 }).wellFormed = false := by decide
theorem test_reply_without_entry : (Instr.reply 63 2 []).wellFormed = false := by decide
theorem test_reply_with_thirteen_entries :
    (Instr.reply 63 2 (List.replicate 13 ⟨1, 1, 1, 0⟩)).wellFormed = false := by decide
theorem test_bind_with_too_few_places :
    (Instr.bind 1 20 { bindIn 1 with steps := [] }).wellFormed = false
      ∧ (Instr.bind 1 20 { bindIn 1 with roster := [] }).wellFormed = false
      ∧ (Instr.bind 1 20 { bindIn 1 with labelChars := [] }).wellFormed = false := by decide
theorem test_queryUnknown_of_a_known_what :
    (Instr.queryUnknown 1 20 1).wellFormed = false ∧ (Instr.queryUnknown 1 20 3).wellFormed = false := by
  decide
theorem test_beaconAgeExpiry_out_of_range :
    (Instr.beaconAgeExpiry 0).wellFormed = false ∧ (Instr.beaconAgeExpiry 63).wellFormed = false := by decide
theorem test_scan_value_out_of_range :
    (Instr.scanPublish { quietScan with jp := 80001 }).wellFormed = false
      ∧ (Instr.scanPublish { quietScan with wp := -51 }).wellFormed = false := by decide
theorem test_scan_rail_inside_the_range :
    (Instr.scanPublish { quietScan with rails := 1 }).wellFormed = false := by decide
theorem test_scan_open_rope_loop_without_pulses :
    (Instr.scanPublish { quietScan with rails := 128, pulses := 1 }).wellFormed = false := by decide
theorem test_wellFormed_commands :
    (Instr.scanPublish { quietScan with jp := 80000, rails := 1 }).wellFormed = true
      ∧ (Instr.bind 1 20 (bindIn 1)).wellFormed = true ∧ (Instr.badReception [1, 2, 3]).wellFormed = true
      ∧ (Instr.beacon 63 2 goodBeacon).wellFormed = true := by decide

/-! ## One or two checks for each command -/

theorem test_namedPressureIsNotWatched :
    (after (.scanPublish { quietScan with gp := 301 })
      { placing .waitGo with
        placement := { (placing .waitGo).placement with breakTime := 9 }
        trip := { Trip.reset with latches := [.sensorFault], named := [.gp] } }).placement.breakTime = 0 := by
  decide +kernel

theorem test_completionTakesCleanDistanceFirst :
    (after .placementComplete
      { placing .payout with
        placement :=
          { (placing .payout).placement with ropeOut := 500, cleanDist := 200, limitCount := 4 } }).placement.limitCount
      = 0 := by
  decide

theorem test_powerOn : after (.powerOn 1 false false) (site .cured) = State.reset := by decide
theorem test_powerOn_closes_an_open_slot :
    (after (.powerOn 1 true false) { State.reset with store := storeOf openSlot }).crew.stage = .storeScan := by
  decide
theorem test_storeScanEnd :
    (after .storeScanEnd (after (.powerOn 1 true false) { State.reset with store := storeOf openSlot })).crew.stage
      = .listen := by decide
theorem test_startListenEnd : (after .startListenEnd State.reset).lif.beacon.isSome = true := by decide
theorem test_go : (after .go (placing .waitGo)).drives.winch = true := by decide
theorem test_go_in_cured : (after .go (site .cured)).lif.ask = some ⟨.ask .advance 1 1, 0⟩ := by decide
theorem test_stop : (after .stop (placing .payout)).placement.sub = some .waitGo := by decide
theorem test_stop_in_a_ramp : (after .stop (testing .ramp .holding)).seq.sub = some .abortUnload := by decide
theorem test_stopRelease :
    (after .stopRelease (after .stop (site .cured))).crew.stopHold.on = false := by decide
theorem test_longStop : (after .longStop (after .stop (site .cured))).crew.phase = .detached := by decide
theorem test_longStop_in_placing :
    (after .longStop (after .stop (placing .payout))).crew.phase = .placing := by decide
theorem test_holdOn : (after .holdOn (placing .payout)).drives.winch = false := by decide
theorem test_holdOn_withdraws :
    (after .holdOn (testing .waitLease .asking)).lif.ask = some ⟨.withdraw 1, 0⟩ := by decide
theorem test_holdOff : (after .holdOff (after .holdOn (placing .payout))).drives.winch = true := by decide
theorem test_keepPinChange : (after (.keepPinChange true) (site .cured)).store.keepPin = true := by decide
theorem test_badReception : (after (.badReception [1, 2, 3]) (site .cured)).lif.rxErrors = 1 := by decide
theorem test_beacon :
    (after (.beacon 63 2 goodBeacon) { site .cured with roster := ⟨[peer .listening], .off⟩ }).roster.entries.map
      Entry.presence = [.present] := by decide
theorem test_beacon_of_another_wall :
    (after (.beacon 63 2 { goodBeacon with wall := 30 }) (site .cured)).roster.entries.map Entry.mismatch
      = [some .wallDiffers] := by decide
theorem test_ask_granted :
    (after (.ask 63 2 1 5 1) (site .cured)).lif.batch.frame = [⟨2, 5, .grant, .none⟩] := by decide
theorem test_ask_deferred :
    (after (.ask 63 2 1 5 1) (grouting .fill)).lease.deferred = [⟨2, .advance, 5⟩] := by decide
theorem test_reply :
    (after (.reply 63 2 [⟨1, 1, 1, 0⟩]) (testing .waitLease .asking)).seq.sub = some .ramp := by decide
theorem test_withdraw :
    (after (.withdraw 63 2 5) (after (.ask 63 2 1 5 1) (grouting .fill))).lease.deferred = [] := by decide
theorem test_leave : (after (.leave 63 2) (site .cured)).roster.entries.map Entry.presence = [.retired] := by
  decide
theorem test_retire :
    (after (.retire 63 20 2) { site .cured with roster := ⟨[peer .lost], .off⟩ }).roster.entries.map
      Entry.presence = [.retired] := by decide
theorem test_alert :
    (after (.alert 63 2 4 2 0) (grouting .fill)).grout.result = some .communicated := by decide
theorem test_reportDiscard :
    after (.reportDiscard 63 2) (site .cured) = (site .cured).finish := by decide
theorem test_frameNotAccepted : (after (.frameNotAccepted 9 2) (site .cured)).lif.rxErrors = 0 := by decide
theorem test_frameNotAccepted_from_the_own_number :
    (after (.frameNotAccepted 9 1) (site .cured)).trip.latches = [.duplicateId] := by decide
theorem test_bind : (after (.bind 1 20 (bindIn 1)) fresh).placement.sub = some .waitGo := by decide
theorem test_bind_refused :
    (after (.bind 1 20 { bindIn 1 with wall := 0 }) fresh).lif.fifo = [⟨20, .bindRefused 2 .range, 0⟩] := by
  decide
theorem test_statusQuery :
    ((after (.statusQuery 1 20) (site .cured)).lif.fifo.map fun r => r.report.payload.length) = [96] := by
  decide
theorem test_recordQuery :
    (after (.recordQuery 1 20 9 0) (site .cured)).lif.fifo = [⟨20, .plain .outOfRange .record, 0⟩] := by decide
theorem test_exportedQuery :
    (after (.exportedQuery 1 20 1 1) (locked .watch none .idle)).store.queue = [.exported 1] := by decide
theorem test_queryUnknown :
    (after (.queryUnknown 1 20 9) (site .cured)).lif.fifo = [⟨20, .plain .outOfRange (.other 9), 0⟩] := by
  decide
theorem test_quietWaitEnd :
    (after .quietWaitEnd (after .startListenEnd State.reset)).wireNow.take 7
      = [0x55, 0x55, 0xD3, 63, 1, 1, 18] := by decide
theorem test_collision : (after .collision (line (.sending (.ask .leave) 0))).lif.ask = some ⟨.leave, 1⟩ := by
  decide
theorem test_backoffEnd : (after .backoffEnd (line (.backingOff 3))).lif.tx = .waitingQuiet := by decide
theorem test_transmitComplete : (after .transmitComplete (line (.sending (.ask .leave) 0))).lif.tx = .free := by
  decide
theorem test_jabberCutoff :
    (after .jabberCutoff (line (.sending (.ask .leave) 0))).trip.latches = [.lineJabber] := by decide
theorem test_beaconTimer : (after .beaconTimer (site .cured)).lif.beacon.isSome = true := by decide
theorem test_beaconAgeExpiry :
    (after (.beaconAgeExpiry 2) (site .cured)).roster.entries.map Entry.presence = [.lost] := by decide
theorem test_askTimer :
    (after .askTimer (testing .waitLease .asking)).lif.ask = some ⟨.ask .advance 1 2, 0⟩ := by decide
theorem test_reaskDelayEnd :
    (after .reaskDelayEnd { site .cured with lease := { Lease.reset with reask := .start 20000000 } }).lease.reask.on
      = false := by decide
theorem test_holdTimerOverrun :
    (after .holdTimerOverrun (testing .ramp .holding)).trip.latches = [.leaseOverrun] := by decide
theorem test_scanPublish :
    (after (.scanPublish { quietScan with pulses := 7 }) (placing .payout)).placement.ropeOut = 7 := by decide +kernel
theorem test_scanPublish_ends_a_ramp :
    (after (.scanPublish { quietScan with jp := 15000 }) (testing .ramp .holding)).seq.sub = some .holdLoad := by
  decide +kernel
theorem test_offTimeEnd :
    (after .offTimeEnd
      { placing .limitOff with placement := { (placing .limitOff).placement with offTime := .start 1000000 } }).placement.sub
      = some .payout := by decide
theorem test_slackFound :
    (after .slackFound
      { placing .payout with placement := { (placing .payout).placement with slackTime := 20 } }).placement.sub
      = some .slack := by decide
theorem test_cleanDistanceReached :
    (after .cleanDistanceReached
      { placing .payout with
        placement := { (placing .payout).placement with cleanDist := 200, limitCount := 4 } }).placement.limitCount
      = 0 := by decide
theorem test_placementComplete :
    (after .placementComplete
      { placing .payout with placement := { (placing .payout).placement with ropeOut := 500 } }).crew.phase
      = .grouting := by decide
theorem test_breakIn :
    (after .breakIn
      { placing .payout with placement := { (placing .payout).placement with breakTime := 10 } }).trip.latches
      = [.breakIn] := by decide
theorem test_fillComplete :
    (after .fillComplete { grouting .fill with grout := { (grouting .fill).grout with volume := 130 } }).grout.sub
      = some .press := by decide
theorem test_volumeLimit :
    (after .volumeLimit { grouting .fill with grout := { (grouting .fill).grout with volume := 400 } }).crew.phase
      = .setting := by decide
theorem test_refusal :
    (after .refusal { grouting .press with grout := { (grouting .press).grout with refusalTime := 600 } }).grout.result
      = some .refusal := by decide
theorem test_headerSag :
    (after .headerSag { grouting .fill with grout := { (grouting .fill).grout with sagTime := 20 } }).grout.sub
      = some .yielding := by decide
theorem test_yieldEnd :
    (after .yieldEnd
      { grouting .yielding with
        grout := { (grouting .yielding).grout with left := some .press, yieldTimer := .start 22000000 } }).grout.sub
      = some .press := by decide
theorem test_cleanTimeReached :
    (after .cleanTimeReached
      { grouting .fill with grout := { (grouting .fill).grout with cleanTime := 600, yieldCount := 2 } }).grout.yieldCount
      = 0 := by decide
theorem test_settingBreakthrough :
    (after .settingBreakthrough
      { site .setting with grout := { Grout.reset with watch := .armed, breakTime := 10 } }).lif.alert.isSome
      = true := by decide
theorem test_setTimerEnd :
    (after .setTimerEnd { site .setting with grout := { Grout.reset with setTimer := .start 9 } }).crew.phase
      = .curing := by decide
theorem test_cureTimerEnd :
    (after .cureTimerEnd { site .curing with grout := { Grout.reset with cureTimer := .start 9 } }).crew.phase
      = .cured := by decide
theorem test_rampTimerLimit : (after .rampTimerLimit (testing .ramp .holding)).seq.sub = some .halted := by decide
theorem test_stepHoldEnd :
    (after .stepHoldEnd (testing .holdLoad .holding)).store.queue = [.point 1 ⟨1, 0, 0, 60⟩] := by decide
theorem test_alignCheck :
    (after .alignCheck
      { testing .holdLoad .holding with seq := { (testing .holdLoad .holding).seq with step := 0 } }).seq.datum
      = some 0 := by decide
theorem test_proofReading :
    (after .proofReading
      { testing .holdLoad .holding with
        seq := { (testing .holdLoad .holding).seq with step := 2, holdTimer := .start 3600000000 } }).seq.sub
      = some .failUnload := by decide
theorem test_seatingEnd : (after .seatingEnd (testing .seating .holding)).seq.sub = some .release := by decide
theorem test_unloadTimerLimit :
    (after .unloadTimerLimit (unloading .release)).trip.latches = [.rampStall]
      ∧ (after .unloadTimerLimit (testing .release .holding)).trip.latches = [] := by decide
theorem test_settleEnd : (after .settleEnd (settled (testing .settle .holding))).crew.phase = .locked := by decide
theorem test_settleEnd_before_a_scan_to_read :
    (after .settleEnd (testing .settle .holding)).seq.sub = some .settle := by decide
theorem test_lowTimeReached :
    (after .lowTimeReached
      { locked .watch none .idle with aft := { (locked .watch none .idle).aft with lowTime := 600 } }).lif.ask
      = some ⟨.ask .restore 2 1, 0⟩ := by decide
theorem test_recoveryTimeReached :
    (after .recoveryTimeReached
      { locked .pending none .asking with aft := { (locked .pending none .asking).aft with recovery := 600 } }).aft.sub
      = some .watch := by decide
theorem test_topupSeatingEnd :
    (after .topupSeatingEnd (locked .topUp (some .seating) .holding)).aft.stage = some .release := by decide
theorem test_topupSettleEnd :
    (after .topupSettleEnd (settled (locked .topUp (some .settle) .holding))).store.queue = [.topUp 1 ⟨0, 0, true⟩] := by
  decide
theorem test_jackOver :
    (after .jackOver { testing .ramp .holding with trip := { Trip.reset with jackTime := 1 } }).trip.latches
      = [.jackOver] := by decide
theorem test_groutOver :
    (after .groutOver { grouting .fill with trip := { Trip.reset with groutTime := 1 } }).trip.latches
      = [.groutOver] := by decide
theorem test_extRunaway :
    (after .extRunaway { testing .holdLoad .holding with trip := { Trip.reset with extTime := 50 } }).trip.latches
      = [.extRunaway] := by decide
theorem test_sensorFault :
    (after (.sensorFault .lc)
      { locked .watch none .idle with scan := { Scan.reset with railTimes := [0, 0, 10, 0, 0, 0, 0, 0] } }).trip.named
      = [.lc] := by decide
theorem test_writeJobComplete :
    (after .writeJobComplete
      { site .cured with store := { storeOf closedSlot with queue := [.exported 1] } }).store.queue = [] := by
  decide

/-! ## Witnesses: states that meet the hypotheses of each statement, clause by clause -/

theorem witness_StepRunsFrontCommand :
    (∃ (s : State) (c : Instr) (rest : List Instr), s.pending = c :: rest)
    ∧ (∃ (s : State), s.pending = []) :=
  ⟨⟨{ State.reset with pending := [.go] }, .go, [], by decide⟩,
    ⟨State.reset, by decide⟩⟩

theorem witness_EndOfEventAndPassingTime :
    (∃ s : State, s.crew.hold = true) ∧ (∃ s : State, s.crew.hold = false)
    ∧ (∃ s : State, s.reliefOpen = true) ∧ (∃ s : State, s.reliefOpen = false) ∧ (∃ t : Timer, t.on = true) :=
  ⟨⟨{ site .cured with crew := { (site .cured).crew with hold := true } }, rfl⟩, ⟨site .cured, rfl⟩,
    ⟨unloading .release, by decide⟩, ⟨testing .release .holding, by decide⟩, ⟨.start 1, rfl⟩⟩

theorem witness_PowerOnScansTheStore :
    (∃ (s : State) (i : Nat), s.store.nv.slots[i]? = some none)
    ∧ (∃ (s : State) (i : Nat) (r : SlotRecord), s.store.nv.slots[i]? = some (some r))
    ∧ (∃ s : State, ∀ r, some r ∈ s.store.nv.slots → r.isOpen = false)
    ∧ (∃ (s : State) (r : SlotRecord), some r ∈ s.store.nv.slots ∧ r.isOpen = true)
    ∧ (∃ (s : State) (pre post : List (Option SlotRecord)) (r : SlotRecord),
        s.crew.stage = .storeScan ∧ s.store.nv.slots = pre ++ some r :: post ∧ r.isOpen = true
        ∧ (∀ q, some q ∈ pre → q.isOpen = false) ∧ (∀ q, some q ∈ post → q.isOpen = false))
    ∧ (∃ (s : State) (pre post : List (Option SlotRecord)) (r : SlotRecord),
        s.crew.stage = .storeScan ∧ s.store.nv.slots = pre ++ some r :: post ∧ r.isOpen = true
        ∧ (∀ q, some q ∈ pre → q.isOpen = false) ∧ (∃ q, some q ∈ post ∧ q.isOpen = true))
    ∧ (∃ s : State, s.crew.stage = .storeScan ∧ ∀ q, some q ∈ s.store.nv.slots → q.isOpen = false)
    ∧ (∃ s : State, s.crew.stage ≠ .storeScan) :=
  ⟨⟨State.reset, 7, rfl⟩, ⟨scanning [some openSlot], 0, openSlot, rfl⟩,
    ⟨scanning [none], by intro r h; cases h with | tail _ h => cases h⟩,
    ⟨scanning [some openSlot], openSlot, .head _, rfl⟩,
    ⟨scanning [none, some openSlot], [none], [], openSlot, rfl, rfl, rfl,
      (by intro r h; cases h with | tail _ h => cases h), (by intro r h; cases h)⟩,
    ⟨scanning [some openSlot, some openSlot], [], [some openSlot], openSlot, rfl, rfl, rfl,
      (by intro r h; cases h), openSlot, .head _, rfl⟩,
    ⟨scanning [none], rfl, by intro r h; cases h with | tail _ h => cases h⟩, ⟨site .cured, by decide⟩⟩

theorem witness_BeaconsAreBuiltAndSent :
    (∃ (s : State), s.crew.stage = .listen ∧ s.crew.listen.on = true)
    ∧ (∃ (s : State), s.crew.stage ≠ .listen)
    ∧ (∃ (s : State), s.lease.state = .idle)
    ∧ (∃ (s : State) (a : _), s.lease.state ≠ .idle ∧ s.lease.ask = some a)
    ∧ (∃ (s : State), s.binding = none)
    ∧ (∃ (s : State) (b : _), s.binding = some b)
    ∧ (∃ (s : State), s.crew.phase = .stressing)
    ∧ (∃ (s : State), s.crew.phase = .locked ∧ s.aft.sub = some .topUp)
    ∧ (∃ (s : State), s.crew.phase = .locked ∧ s.aft.sub ≠ some .topUp)
    ∧ (∃ (s : State), s.crew.phase ≠ .stressing ∧ s.crew.phase ≠ .locked)
    ∧ (∃ (s : State) (x : _), s.crew.phase = .stressing ∧ s.seq.sub = some x)
    ∧ (∃ (s : State) (x : _), s.crew.phase = .locked ∧ s.aft.sub = some x)
    ∧ (∃ (s : State) (x : _), s.crew.phase = .placing ∧ s.placement.sub = some x)
    ∧ (∃ (s : State) (x : _), s.crew.phase = .grouting ∧ s.grout.sub = some x)
    ∧ (∃ (s : State), s.crew.phase ≠ .placing ∧ s.crew.phase ≠ .grouting ∧ s.crew.phase ≠ .stressing ∧
        s.crew.phase ≠ .locked)
    ∧ (∃ (s : State), s.roster.beaconTimer.on = true)
    ∧ (∃ (s : State), s.roster.beaconTimer.on = false) :=
  ⟨⟨State.reset, by decide⟩,
    ⟨site .setup, by decide⟩,
    ⟨State.reset, by decide⟩,
    ⟨testing .waitLease .asking, ⟨.advance, false, 1, 1⟩, by decide⟩,
    ⟨fresh, by decide⟩,
    ⟨site .cured, bnd, by decide⟩,
    ⟨testing .ramp .holding, by decide⟩,
    ⟨locked .topUp (some .lift) .holding, by decide⟩,
    ⟨locked .watch none .idle, by decide⟩,
    ⟨site .cured, by decide⟩,
    ⟨testing .ramp .holding, .ramp, by decide⟩,
    ⟨locked .watch none .idle, .watch, by decide⟩,
    ⟨placing .slack, .slack, by decide⟩,
    ⟨grouting .fill, .fill, by decide⟩,
    ⟨site .cured, by decide⟩,
    ⟨site .cured, by decide⟩,
    ⟨State.reset, by decide⟩⟩

theorem witness_GoStartsPayOut :
    (∃ (s : State), s.crew.stage = .online ∧ s.crew.hold = false ∧ s.held = false ∧ s.crew.phase = .placing
        ∧ (s.placement.sub = some .waitGo ∨ s.placement.sub = some .slack))
    ∧ (∃ (s : State), s.crew.phase = .placing ∧ (s.placement.sub = some .payout ∨ s.placement.sub = some
        .limitOff ∨ s.crew.hold = true ∨ s.held = true)) :=
  ⟨⟨placing .slack, by decide⟩,
    ⟨(placing .limitOff).onCrew fun x => { x with hold := true }, by decide⟩⟩

theorem witness_GoInGroutingAndElsewhere :
    (∃ (s : State), s.crew.stage = .online ∧ s.crew.hold = false ∧ s.held = false ∧ s.crew.phase =
        .grouting ∧ s.grout.sub = some .waitGo)
    ∧ (∃ (s : State) (x : GroutSub), s.crew.stage = .online ∧ s.crew.hold = false ∧ s.held = false ∧
        s.crew.phase = .grouting ∧ s.grout.sub = some .supplyWeak ∧ s.grout.left = some x)
    ∧ (∃ (s : State), (s.crew.stage ≠ .online ∨ s.crew.hold = true ∨ s.held = true ∨ (s.placeIn .waitGo =
        false ∧ s.placeIn .slack = false ∧ s.groutIn .waitGo = false ∧ s.groutIn .supplyWeak = false ∧
        s.crew.phase ≠ .cured))) :=
  ⟨⟨grouting .waitGo, by decide⟩,
    ⟨(grouting .supplyWeak).onGrout fun x => { x with left := some .press }, .press, by decide⟩,
    ⟨State.reset, by decide⟩⟩

theorem witness_GoInCuredStartsATest :
    (∃ (s : State) (n : Nat), s.crew.stage = .online ∧ s.held = false ∧ s.crew.phase = .cured ∧
        s.chooseSlot = some n ∧ s.wouldTake false ∧ s.presentMembers ≠ [] ∧ s.listenOnly = false)
    ∧ (∃ (s : State) (n : Nat), s.crew.stage = .online ∧ s.held = false ∧ s.crew.phase = .cured ∧
        s.chooseSlot = some n ∧ s.wouldTake false ∧ s.presentMembers = [])
    ∧ (∃ (s : State), s.crew.stage = .online ∧ s.crew.hold = false ∧ s.held = false ∧ s.crew.phase = .cured
        ∧ s.chooseSlot = none)
    ∧ (∃ (s : State) (n : Nat), s.crew.stage = .online ∧ s.crew.hold = false ∧ s.held = false ∧
        s.crew.phase = .cured ∧ s.chooseSlot = some n) :=
  ⟨⟨site .cured, 1, by decide⟩,
    ⟨(site .cured).onRoster fun _ => ⟨[peer .retired], .off⟩, 1, by decide⟩,
    ⟨withSlots (List.replicate 8 (some closedSlot)), by decide⟩,
    ⟨site .cured, 1, by decide⟩⟩

theorem witness_RequestsAreCheckedInOrder :
    (∃ (s : State), s.request = none)
    ∧ (∃ (r : Request) (s : State), s.request = some r ∧ s.lease.state ≠ .idle)
    ∧ (∃ (r : Request) (s : State), s.request = some r ∧ s.lease.state = .idle ∧ s.crew.hold = true)
    ∧ (∃ (r : Request) (s : State), s.request = some r ∧ s.lease.state = .idle ∧ s.crew.hold = false ∧
        s.held = true ∧ r.abort = false)
    ∧ (∃ (r : Request) (s : State), s.request = some r ∧ s.lease.state = .idle ∧ s.crew.hold = false ∧
        (s.held = false ∨ r.abort = true) ∧ s.lease.clock = 4294967295#32)
    ∧ (∃ (r : Request) (s : State), s.request = some r ∧ s.lease.state = .idle ∧ s.crew.hold = false ∧
        (s.held = false ∨ r.abort = true) ∧ s.lease.clock ≠ 4294967295#32 ∧ s.allPresent = false)
    ∧ (∃ (r : Request) (s : State), s.request = some r ∧ s.lease.state = .idle ∧ s.crew.hold = false ∧
        s.held = false ∧ s.lease.clock ≠ 4294967295#32 ∧ s.allPresent = true ∧ s.lease.reask.on = true ∧
        r.abort = false)
    ∧ (∃ (r : Request) (s : State), s.request = some r ∧ s.wouldTake r.abort ∧ s.presentMembers ≠ [])
    ∧ (∃ (r : Request) (s : State), s.request = some r ∧ s.wouldTake r.abort ∧ s.presentMembers = [])
    ∧ (∃ (s : State), s.crew.phase = .stressing)
    ∧ (∃ (s : State), s.crew.phase = .locked)
    ∧ (∃ (s : State), s.crew.phase = .stressing ∧ s.seq.sub = some .waitLease)
    ∧ (∃ (s : State), s.crew.phase = .stressing ∧ s.seq.sub = some .abortWait)
    ∧ (∃ (s : State), s.crew.phase = .locked ∧ s.aft.sub = some .pending) :=
  ⟨⟨site .cured, by decide⟩,
    ⟨⟨.advance, false, .taken⟩, testing .waitLease .asking, by decide⟩,
    ⟨⟨.advance, false, .waiting none⟩, ((testing .waitLease .idle).onSeq fun x =>
      { x with request := some ⟨.advance, false, .waiting none⟩ }).onCrew fun x => { x with hold := true },
      by decide⟩,
    ⟨⟨.advance, false, .waiting none⟩, ((testing .waitLease .idle).onSeq fun x =>
      { x with request := some ⟨.advance, false, .waiting none⟩ }).onTrip fun x =>
      { x with latches := [.rampStall] }, by decide⟩,
    ⟨⟨.restore, true, .waiting none⟩, (((testing .abortWait .idle).onSeq fun x =>
      { x with request := some ⟨.restore, true, .waiting none⟩ }).onTrip fun x =>
      { x with latches := [.rampStall] }).onLease fun x => { x with clock := 4294967295 }, by decide⟩,
    ⟨⟨.advance, false, .waiting none⟩, ((testing .waitLease .idle).onSeq fun x =>
      { x with request := some ⟨.advance, false, .waiting none⟩ }).onRoster fun _ => ⟨[peer .lost], .off⟩,
      by decide⟩,
    ⟨⟨.advance, false, .waiting none⟩, ((testing .waitLease .idle).onSeq fun x =>
      { x with request := some ⟨.advance, false, .waiting none⟩ }).onLease fun x =>
      { x with reask := .start 20000000 }, by decide⟩,
    ⟨⟨.restore, true, .waiting none⟩, (((testing .abortWait .idle).onSeq fun x =>
      { x with request := some ⟨.restore, true, .waiting none⟩ }).onTrip fun x =>
      { x with latches := [.rampStall] }).onLease fun x => { x with reask := .start 20000000 }, by decide⟩,
    ⟨⟨.advance, false, .waiting none⟩, ((testing .waitLease .idle).onSeq fun x =>
      { x with request := some ⟨.advance, false, .waiting none⟩ }).onRoster fun _ => ⟨[peer .retired],
      .off⟩, by decide⟩,
    ⟨testing .ramp .holding, by decide⟩,
    ⟨locked .watch none .idle, by decide⟩,
    ⟨testing .waitLease .idle, by decide⟩,
    ⟨testing .abortWait .idle, by decide⟩,
    ⟨locked .pending none .idle, by decide⟩⟩

theorem witness_StopInPlacingAndGrouting :
    (∃ (s : State), s.crew.stage = .online ∧ s.crew.phase = .placing ∧ s.lease.state = .idle ∧
        (s.placement.sub = some .payout ∨ s.placement.sub = some .limitOff ∨ s.placement.sub = some
        .slack))
    ∧ (∃ (s : State), s.crew.stage = .online ∧ s.crew.phase = .placing ∧ s.lease.state = .idle ∧
        s.placement.sub = some .waitGo)
    ∧ (∃ (s : State), s.crew.phase = .placing ∧ s.crew.stopHold.on = true)
    ∧ (∃ (s : State), s.crew.stage = .online ∧ s.crew.phase = .grouting ∧ s.lease.state = .idle ∧
        s.groutBegun = true)
    ∧ (∃ (s : State), s.crew.stage = .online ∧ s.crew.phase = .grouting ∧ s.lease.state = .idle ∧
        s.grout.sub = some .waitGo) :=
  ⟨⟨placing .slack, by decide⟩,
    ⟨placing .waitGo, by decide⟩,
    ⟨(placing .payout).onCrew fun x => { x with stopHold := .start 5000000 }, by decide⟩,
    ⟨grouting .supplyWeak, by decide⟩,
    ⟨grouting .waitGo, by decide⟩⟩

theorem witness_StopInStressing :
    (∃ (s : State), s.crew.stage = .online ∧ s.crew.phase = .stressing ∧ s.lease.state = .holding ∧
        s.waitsWith (some .held) = false ∧ (s.seq.sub = some .ramp ∨ s.seq.sub = some .holdLoad ∨ s.seq.sub
        = some .halted))
    ∧ (∃ (s : State), s.crew.stage = .online ∧ s.crew.phase = .stressing ∧ s.lease.state = .holding ∧
        s.waitsWith (some .held) = false ∧ (s.seq.sub = some .seating ∨ s.seq.sub = some .release ∨
        s.seq.sub = some .settle ∨ s.seq.sub = some .failUnload ∨ s.seq.sub = some .abortUnload))
    ∧ (∃ (s : State) (n : Nat), s.crew.stage = .online ∧ s.crew.phase = .stressing ∧ s.lease.state = .idle
        ∧ ¬s.freesHeld ∧ s.seq.sub = some .waitLease ∧ s.scan.jp < 500 ∧ s.tripAfterPress.named.contains
        .jp = false ∧ s.seq.slot = some n)
    ∧ (∃ (s : State), s.crew.stage = .online ∧ s.crew.phase = .stressing ∧ s.lease.state = .idle ∧
        ¬s.freesHeld ∧ s.seq.sub = some .waitLease ∧ (500 ≤ s.scan.jp ∨ s.tripAfterPress.named.contains .jp
        = true))
    ∧ (∃ (s : State), s.crew.stage = .online ∧ s.crew.phase = .stressing ∧ s.lease.state = .idle ∧
        ¬s.freesHeld ∧ s.seq.sub = some .abortWait)
    ∧ (∃ (s : State), s.crew.stage = .online ∧ s.crew.phase = .stressing ∧ s.lease.state = .asking ∧
        s.waitsWith (some .held) = false ∧ (s.seq.sub = some .waitLease ∨ s.seq.sub = some .abortWait))
    ∧ (∃ (s : State) (n : Nat), s.crew.stage = .online ∧ s.crew.phase = .stressing ∧ s.lease.state = .idle
        ∧ s.freesHeld ∧ s.seq.sub = some .waitLease ∧ s.seq.slot = some n)
    ∧ (∃ (s : State), s.crew.stage = .online ∧ s.crew.phase = .stressing ∧ s.lease.state = .asking ∧
        s.waitsWith (some .held) = false ∧ (s.seq.sub = some .waitLease ∨ s.seq.sub = some .abortWait) ∧
        s.crew.hold = false ∧ s.lease.clock ≠ 4294967295#32 ∧ s.allPresent = true ∧ s.presentMembers ≠ [] ∧
        s.seq.sub = some .waitLease) :=
  ⟨⟨testing .halted .holding, by decide⟩,
    ⟨testing .abortUnload .holding, by decide⟩,
    ⟨(testing .waitLease .idle).onScan fun x => { x with jp := 499 }, 1, by decide⟩,
    ⟨(testing .waitLease .idle).onScan fun x => { x with jp := 500 }, by decide⟩,
    ⟨testing .abortWait .idle, by decide⟩,
    ⟨testing .abortWait .asking, by decide⟩,
    ⟨(((testing .waitLease .idle).onSeq fun x =>
      { x with request := some ⟨.advance, false, .waiting (some .held)⟩ }).onTrip fun x =>
      { x with latches := [.rampStall] }).onScan fun x => { x with jp := 500 }, 1, by decide⟩,
    ⟨testing .waitLease .asking, by decide⟩⟩

theorem witness_StopInLocked :
    (∃ (s : State), s.crew.stage = .online ∧ s.crew.phase = .locked ∧ s.lease.state = .holding ∧
        s.waitsWith (some .held) = false ∧ s.aft.sub = some .topUp ∧ (s.aft.stage = some .lift ∨
        s.aft.stage = some .ramp ∨ s.aft.stage = some .halted))
    ∧ (∃ (s : State), s.crew.stage = .online ∧ s.crew.phase = .locked ∧ s.waitsWith (some .held) = false ∧
        ((s.lease.state = .holding ∧ s.aft.sub = some .topUp ∧ (s.aft.stage = some .seating ∨ s.aft.stage =
        some .release ∨ s.aft.stage = some .settle ∨ s.aft.stage = some .abortUnload)) ∨ (s.lease.state =
        .idle ∧ s.aft.sub = some .watch)))
    ∧ (∃ (s : State), s.crew.stage = .online ∧ s.crew.phase = .locked ∧ s.lease.state = .asking ∧
        s.waitsWith (some .held) = false ∧ s.aft.sub = some .pending ∧ s.crew.hold = false ∧
        s.tripAfterPress.latches = [] ∧ s.lease.clock ≠ 4294967295#32 ∧ s.allPresent = true ∧
        s.lease.reask.on = false ∧ s.presentMembers ≠ [])
    ∧ (∃ (s : State), s.crew.stage = .online ∧ s.crew.phase = .locked ∧ s.lease.state = .asking ∧
        s.waitsWith (some .held) = false ∧ s.aft.sub = some .pending)
    ∧ (∃ (s : State), s.crew.stage = .online ∧ s.crew.phase = .locked ∧ s.lease.state = .idle ∧ s.aft.sub =
        some .pending ∧ s.freesHeld)
    ∧ (∃ (s : State), s.crew.stage = .online ∧ s.crew.phase = .locked ∧ s.lease.state = .idle ∧ s.aft.sub =
        some .pending ∧ ¬s.freesHeld ∧ s.waitsWith (some .storeFull) = false)
    ∧ (∃ (s : State), s.crew.stage = .online ∧ s.crew.phase = .locked ∧ s.lease.state = .idle ∧ s.aft.sub =
        some .pending ∧ s.waitsWith (some .storeFull) = true) :=
  ⟨⟨locked .topUp (some .halted) .holding, by decide⟩,
    ⟨locked .watch none .idle, by decide⟩,
    ⟨locked .pending none .asking, by decide⟩,
    ⟨(locked .pending none .asking).onCrew fun x => { x with hold := true }, by decide⟩,
    ⟨((locked .pending none .idle).onAft fun x =>
      { x with request := some ⟨.restore, false, .waiting (some .held)⟩ }).onTrip fun x =>
      { x with latches := [.rampStall] }, by decide⟩,
    ⟨((locked .pending none .idle).onAft fun x =>
      { x with request := some ⟨.restore, false, .waiting (some .held)⟩ }).onTrip fun x =>
      { x with latches := [.stampEnd] }, by decide⟩,
    ⟨((locked .pending none .idle).onAft fun x =>
      { x with request := some ⟨.restore, false, .waiting (some .storeFull)⟩ }).onTrip fun x =>
      { x with latches := [.rampStall] }, by decide⟩⟩

theorem witness_StopElsewhereOnlyReleases :
    (∃ (s : State), s.crew.stage = .online ∧ s.lease.state = .idle ∧ (s.crew.phase = .setup ∨ s.crew.phase
        = .setting ∨ s.crew.phase = .curing ∨ s.crew.phase = .cured ∨ s.crew.phase = .rejected ∨
        s.crew.phase = .detached))
    ∧ (∃ (s : State), s.crew.stage ≠ .online) :=
  ⟨⟨site .detached, by decide⟩,
    ⟨State.reset, by decide⟩⟩

theorem witness_LongStopDetaches :
    (∃ (s : State), s.crew.stopHold.on = true ∧ s.lease.state = .idle ∧ s.strapFault = false ∧
        (s.crew.phase = .setup ∨ s.crew.phase = .curing ∨ s.crew.phase = .cured ∨ s.crew.phase = .locked ∨
        s.crew.phase = .rejected))
    ∧ (∃ (s : State), s.crew.stopHold.on = true ∧ (s.lease.state ≠ .idle ∨ s.strapFault = true ∨
        s.crew.phase = .placing ∨ s.crew.phase = .grouting ∨ s.crew.phase = .setting ∨ s.crew.phase =
        .stressing ∨ s.crew.phase = .detached))
    ∧ (∃ (s : State), s.crew.stopHold.on = false) :=
  ⟨⟨(site .locked).onCrew fun x => { x with stopHold := .start 5000000 }, by decide⟩,
    ⟨(site .setting).onCrew fun x => { x with stopHold := .start 5000000 }, by decide⟩,
    ⟨site .cured, by decide⟩⟩

theorem witness_HoldPausesAndResumes :
    (∃ (s : State), s.crew.stage = .online ∧ s.crew.hold = false ∧ s.lease.state ≠ .asking)
    ∧ (∃ (s : State) (r : Request), s.crew.stage = .online ∧ s.crew.hold = false ∧ s.lease.state = .asking
        ∧ s.request = some r ∧ s.listenOnly = false)
    ∧ (∃ (s : State) (r : Request), s.crew.stage = .online ∧ s.crew.hold = false ∧ s.lease.state = .asking
        ∧ s.request = some r ∧ s.listenOnly = true)
    ∧ (∃ (s : State), s.crew.stage = .online ∧ s.crew.hold = true ∧ s.waitsWith (some .paused) = false)
    ∧ (∃ (s : State) (r : Request), s.crew.stage = .online ∧ s.crew.hold = true ∧ s.request = some r ∧
        r.status = .waiting (some .paused) ∧ { s with crew := { s.crew with hold := false } }.wouldTake
        r.abort ∧ s.presentMembers ≠ [])
    ∧ (∃ (s : State), s.crew.stage ≠ .online)
    ∧ (∃ (s : State) (r : Request), s.crew.stage = .online ∧ s.crew.hold = true ∧ s.request = some r ∧
        r.status = .waiting (some .paused)) :=
  ⟨⟨placing .payout, by decide⟩,
    ⟨testing .waitLease .asking, ⟨.advance, false, .taken⟩, by decide⟩,
    ⟨(testing .waitLease .asking).onTrip fun x => { x with latches := [.lineJabber] }, ⟨.advance, false,
      .taken⟩, by decide⟩,
    ⟨(site .cured).onCrew fun x => { x with hold := true }, by decide⟩,
    ⟨((testing .waitLease .idle).onSeq fun x =>
      { x with request := some ⟨.advance, false, .waiting (some .paused)⟩ }).onCrew fun x =>
      { x with hold := true }, ⟨.advance, false, .waiting (some .paused)⟩, by decide⟩,
    ⟨State.reset, by decide⟩,
    ⟨(((testing .waitLease .idle).onSeq fun x =>
      { x with request := some ⟨.advance, false, .waiting (some .paused)⟩ }).onCrew fun x =>
      { x with hold := true }).onTrip fun x => { x with latches := [.rampStall] }, ⟨.advance, false,
      .waiting (some .paused)⟩, by decide⟩⟩

theorem witness_FramesThatReachNoBlock :
    (∃ (burst : List Byte) (s : State), s.sending = false ∧ rxFault burst ≠ none)
    ∧ (∃ (burst : List Byte) (s : State), rxFault burst = none ∧ sizeAllowed (burstKind burst)
        (burstPayload burst) = false ∧ s.hears (burstDst burst) (burstSrc burst))
    ∧ (∃ (s : State), s.sending = true)
    ∧ (∃ (c : Instr) (dst src : Byte) (s : State), c.header = some (dst, src) ∧ s.sending = false ∧ s.own ≠
        some src.toNat ∧ s.own ≠ some dst.toNat ∧ dst.toNat ≠ 63 ∧ (∀ g, dst.toNat = 64 + g → g < 16 →
        s.lif.groupMask.getLsbD g = false))
    ∧ (∃ (src : Byte) (s : State), s.sending = false ∧ s.own ≠ some src.toNat)
    ∧ (∃ (c : Instr) (dst src : Byte) (s : State), c.header = some (dst, src) ∧ s.sending = false ∧ s.own =
        some src.toNat ∧ s.latched .duplicateId = false ∧ s.trip.latches = [])
    ∧ (∃ (c : Instr) (dst src : Byte) (s : State), c.header = some (dst, src) ∧ s.sending = false ∧ s.own =
        some src.toNat ∧ s.latched .duplicateId = true)
    ∧ (∃ (c : Instr) (dst src : Byte) (s : State), c.header = some (dst, src) ∧ s.sending = true) :=
  ⟨⟨[1, 2, 3], site .cured, by decide⟩,
    ⟨frameBytes 63 2 6 [], site .cured, by decide +kernel⟩,
    ⟨line (.sending (.ask .leave) 0), by decide⟩,
    ⟨.leave 79 2, 79, 2, site .cured, by decide, by decide, by decide, by decide, by decide, fun g _ _ =>
      BitVec.getLsbD_zero⟩,
    ⟨2, site .cured, by decide⟩,
    ⟨.leave 63 1, 63, 1, site .cured, by decide⟩,
    ⟨.leave 63 1, 63, 1, (site .cured).onTrip fun x => { x with latches := [.duplicateId] }, by decide⟩,
    ⟨.leave 63 1, 63, 1, line (.sending (.ask .leave) 0), by decide⟩⟩

theorem witness_GoodBeaconFromAMember :
    ∃ (dst src : Byte) (b : BeaconIn) (p : Phase) (l : LeaseState) (s : State), s.hears dst src ∧ s.bound =
        true ∧ s.member src.toNat = true ∧ s.lease.state ≠ .asking ∧ s.waitsWith (some
        .neighbourNotPresent) = false ∧ phaseOfCode b.phase.toNat = some p ∧ leaseOfCode b.lease.toNat =
        some l ∧ b.sub.toNat ≤ lastSubCode p ∧ b.cls.toNat ≤ 2 ∧ b.wall = s.par.wall ∧ (∃ x ∈ b.roster,
        s.own = some x.toNat) :=
  ⟨63, 2, goodBeacon, .cured, .idle, site .cured, by decide⟩

theorem witness_OtherBeacons :
    (∃ (dst src : Byte) (b : BeaconIn) (p : Phase) (l : LeaseState) (s : State), s.hears dst src ∧ s.bound
        = true ∧ s.member src.toNat = true ∧ s.lease.state ≠ .asking ∧ s.waitsWith (some
        .neighbourNotPresent) = false ∧ phaseOfCode b.phase.toNat = some p ∧ leaseOfCode b.lease.toNat =
        some l ∧ b.sub.toNat ≤ lastSubCode p ∧ b.cls.toNat ≤ 2 ∧ (b.wall ≠ s.par.wall ∨ ∀ x ∈ b.roster,
        s.own ≠ some x.toNat))
    ∧ (∃ (dst src : Byte) (b : BeaconIn) (s : State), s.hears dst src ∧ (s.bound = false ∨ s.member
        src.toNat = false ∨ phaseOfCode b.phase.toNat = none ∨ leaseOfCode b.lease.toNat = none ∨ 2 <
        b.cls.toNat ∨ ∃ p, phaseOfCode b.phase.toNat = some p ∧ lastSubCode p < b.sub.toNat)) :=
  ⟨⟨63, 2, { goodBeacon with wall := 30 }, .cured, .idle, site .cured, by decide⟩,
    ⟨63, 2, { goodBeacon with cls := 3 }, site .cured, ⟨by decide, .inr (.inr (.inr (.inr (.inl (by
      decide)))))⟩⟩⟩

theorem witness_PresenceChangesReachTheLease :
    (∃ (dst src : Byte) (b : BeaconIn) (p : Phase) (l : LeaseState) (e : Entry) (s : State), s.hears dst
        src ∧ s.bound = true ∧ s.entry src.toNat = some e ∧ phaseOfCode b.phase.toNat = some p ∧
        leaseOfCode b.lease.toNat = some l ∧ b.sub.toNat ≤ lastSubCode p ∧ b.cls.toNat ≤ 2 ∧
        (((e.afterBeacon (if b.wall ≠ s.par.wall then some MismatchReason.wallDiffers else if b.roster.any
        (fun x => s.own == some x.toNat) then none else some .notListed) b p l).presence) = e.presence ∨
        (s.waitsWith (some .neighbourNotPresent) = false ∧ ¬(s.lease.state = .asking ∧ ((e.afterBeacon (if
        b.wall ≠ s.par.wall then some MismatchReason.wallDiffers else if b.roster.any (fun x => s.own ==
        some x.toNat) then none else some .notListed) b p l).presence) = .mismatch ∧ ∃ m ∈
        s.lease.required, m.number = src.toNat))))
    ∧ (∃ (dst src : Byte) (b : BeaconIn) (p : Phase) (l : LeaseState) (e : Entry) (s : State), s.hears dst
        src ∧ s.bound = true ∧ s.entry src.toNat = some e ∧ phaseOfCode b.phase.toNat = some p ∧
        leaseOfCode b.lease.toNat = some l ∧ b.sub.toNat ≤ lastSubCode p ∧ b.cls.toNat ≤ 2 ∧
        ((e.afterBeacon (if b.wall ≠ s.par.wall then some MismatchReason.wallDiffers else if b.roster.any
        (fun x => s.own == some x.toNat) then none else some .notListed) b p l).presence) ≠ e.presence ∧
        s.waitsWith (some .neighbourNotPresent) = false ∧ s.lease.state = .asking ∧ ((e.afterBeacon (if
        b.wall ≠ s.par.wall then some MismatchReason.wallDiffers else if b.roster.any (fun x => s.own ==
        some x.toNat) then none else some .notListed) b p l).presence) = .mismatch ∧ (∃ m ∈
        s.lease.required, m.number = src.toNat))
    ∧ (∃ (dst src : Byte) (b : BeaconIn) (p : Phase) (l : LeaseState) (e : Entry) (r : Request) (s :
        State), s.hears dst src ∧ s.bound = true ∧ s.entry src.toNat = some e ∧ phaseOfCode b.phase.toNat =
        some p ∧ leaseOfCode b.lease.toNat = some l ∧ b.sub.toNat ≤ lastSubCode p ∧ b.cls.toNat ≤ 2 ∧
        ((e.afterBeacon (if b.wall ≠ s.par.wall then some MismatchReason.wallDiffers else if b.roster.any
        (fun x => s.own == some x.toNat) then none else some .notListed) b p l).presence) ≠ e.presence ∧
        s.request = some r ∧ r.status = .waiting (some .neighbourNotPresent) ∧ s.lease.state = .idle)
    ∧ (∃ (dst src : Byte) (e : Entry) (s : State), s.hears dst src ∧ s.lease.state = .idle ∧ s.waitsWith
        (some .neighbourNotPresent) = true ∧ s.entry src.toNat = some e ∧ e.presence ≠ .retired)
    ∧ (∃ (dst src n : Byte) (e : Entry) (s : State), s.hears dst src ∧ s.entry n.toNat = some e ∧
        e.presence = .lost ∧ (∀ x ∈ s.roster.entries, x.number = n.toNat → x = e) ∧ s.lease.state = .idle ∧
        s.waitsWith (some .neighbourNotPresent) = true)
    ∧ (∃ (dst src n : Byte) (e : Entry) (s : State), s.hears dst src ∧ s.entry n.toNat = some e ∧
        e.presence = .lost ∧ (∀ x ∈ s.roster.entries, x.number = n.toNat → x = e) ∧ s.waitsWith (some
        .neighbourNotPresent) = false ∧ ¬(s.lease.state = .asking ∧ ∃ m ∈ s.lease.required, m.number =
        n.toNat))
    ∧ (∃ (dst src n : Byte) (e : Entry) (s : State), s.hears dst src ∧ s.entry n.toNat = some e ∧
        e.presence = .lost ∧ (∀ x ∈ s.roster.entries, x.number = n.toNat → x = e) ∧ s.lease.state = .asking
        ∧ s.waitsWith (some .neighbourNotPresent) = false ∧ (∃ m ∈ s.lease.required, m.number = n.toNat) ∧
        (∃ m ∈ (s.lease.required.filter fun m => m.number != n.toNat), m.mark ≠ .granted))
    ∧ (∃ (dst src n : Byte) (e : Entry) (s : State), s.hears dst src ∧ s.entry n.toNat = some e ∧
        e.presence = .lost ∧ (∀ x ∈ s.roster.entries, x.number = n.toNat → x = e) ∧ s.lease.state = .asking
        ∧ s.waitsWith (some .neighbourNotPresent) = false ∧ (∃ m ∈ s.lease.required, m.number = n.toNat) ∧
        (∀ m ∈ (s.lease.required.filter fun m => m.number != n.toNat), m.mark = .granted))
    ∧ (∃ (n : Byte) (e : Entry) (s : State), s.entry n.toNat = some e ∧ (e.presence = .listening ∨
        e.presence = .present ∨ e.presence = .mismatch) ∧ (∀ x ∈ s.roster.entries, x.number = n.toNat → x =
        e) ∧ s.lease.state = .idle ∧ s.waitsWith (some .neighbourNotPresent) = true) :=
  ⟨⟨63, 2, goodBeacon, .cured, .idle, peer .present, ((testing .waitLease .idle).onSeq fun x =>
      { x with request := some ⟨.advance, false, .waiting (some .neighbourNotPresent)⟩ }).onRoster fun _ =>
      ⟨[peer .present], .off⟩, by decide⟩,
    ⟨63, 2, { goodBeacon with wall := 30 }, .cured, .idle, peer .present, testing .waitLease .asking, by
      decide⟩,
    ⟨63, 2, goodBeacon, .cured, .idle, peer .mismatch, ⟨.advance, false, .waiting (some
      .neighbourNotPresent)⟩, ((testing .waitLease .idle).onSeq fun x =>
      { x with request := some ⟨.advance, false, .waiting (some .neighbourNotPresent)⟩ }).onRoster fun _ =>
      ⟨[peer .mismatch], .off⟩, by decide⟩,
    ⟨63, 2, peer .lost, ((testing .waitLease .idle).onSeq fun x =>
      { x with request := some ⟨.advance, false, .waiting (some .neighbourNotPresent)⟩ }).onRoster fun _ =>
      ⟨[peer .lost], .off⟩, by decide⟩,
    ⟨63, 20, 2, peer .lost, ((testing .waitLease .idle).onSeq fun x =>
      { x with request := some ⟨.advance, false, .waiting (some .neighbourNotPresent)⟩ }).onRoster fun _ =>
      ⟨[peer .lost], .off⟩, by decide⟩,
    ⟨63, 20, 2, peer .lost, (site .cured).onRoster fun _ => ⟨[peer .lost], .off⟩, by decide⟩,
    ⟨63, 20, 2, peer .lost, ((testing .waitLease .asking).onRoster fun _ => ⟨[peer .lost], .off⟩).onLease
      fun x => { x with required := [⟨2, .granted⟩, ⟨3, .deferred⟩] }, by decide⟩,
    ⟨63, 20, 2, peer .lost, ((testing .waitLease .asking).onRoster fun _ => ⟨[peer .lost], .off⟩).onLease
      fun x => { x with required := [⟨2, .unanswered⟩] }, by decide⟩,
    ⟨2, peer .mismatch, ((testing .waitLease .idle).onSeq fun x =>
      { x with request := some ⟨.advance, false, .waiting (some .neighbourNotPresent)⟩ }).onRoster fun _ =>
      ⟨[peer .mismatch], .off⟩, by decide⟩⟩

theorem witness_AsksAndWithdrawsOfNeighbours :
    (∃ (dst src cls : Byte) (stamp : Stamp) (c : AskClass) (s : State) (reason : ReplyReason), s.hears dst
        src ∧ s.bound = true ∧ s.member src.toNat = true ∧ s.crew.phase ≠ .detached ∧ classOfCode cls.toNat
        = some c ∧ (if s.crew.phase = .grouting ∨ s.crew.phase = .setting then some .freshGrout else if
        s.crew.phase = .locked ∧ s.aft.sub = some .pending ∧ c = .advance then some .restorePending else if
        s.lease.state = .holding then some .holding else if s.lease.state = .asking ∧ s.ownOutranks
        src.toNat c stamp = true then some .ahead else none) = some reason)
    ∧ (∃ (dst src cls : Byte) (c : AskClass) (s : State), s.hears dst src ∧ s.bound = true ∧ s.member
        src.toNat = true ∧ s.crew.phase ≠ .detached ∧ classOfCode cls.toNat = some c ∧ (¬(s.crew.phase =
        .grouting ∨ s.crew.phase = .setting)) ∧ ¬(s.crew.phase = .locked ∧ s.aft.sub = some .pending ∧ c =
        .advance) ∧ s.lease.state = .idle)
    ∧ (∃ (dst src cls : Byte) (stamp : Stamp) (c : AskClass) (s : State) (a : _), s.hears dst src ∧ s.bound
        = true ∧ s.member src.toNat = true ∧ s.crew.phase ≠ .detached ∧ classOfCode cls.toNat = some c ∧
        (¬(s.crew.phase = .grouting ∨ s.crew.phase = .setting)) ∧ ¬(s.crew.phase = .locked ∧ s.aft.sub =
        some .pending ∧ c = .advance) ∧ s.lease.state = .asking ∧ s.lease.ask = some a ∧ outranks a.cls
        a.stamp s.ownNumber c stamp src.toNat = false)
    ∧ (∃ (dst src cls : Byte) (s : State), s.hears dst src ∧ (s.bound = false ∨ s.member src.toNat = false
        ∨ s.crew.phase = .detached ∨ classOfCode cls.toNat = none))
    ∧ (∃ (dst src : Byte) (s : State), s.hears dst src)
    ∧ (∃ (e : ReplyEntry) (es : List ReplyEntry), (∃ x ∈ es, x.target = e.target))
    ∧ (∃ (e : ReplyEntry) (es : List ReplyEntry), (∀ x ∈ es, x.target ≠ e.target))
    ∧ (∃ (d : Deferred) (ds : List Deferred), (∃ x ∈ ds, x.number = d.number))
    ∧ (∃ (d : Deferred) (ds : List Deferred), (∀ x ∈ ds, x.number ≠ d.number))
    ∧ (∃ (n : Nat) (ms : List Member), (∃ m ∈ ms, m.number = n))
    ∧ (∃ (n : Nat) (ms : List Member), (∀ m ∈ ms, m.number ≠ n)) :=
  ⟨⟨63, 2, 1, 5, .advance, locked .pending none .asking, .restorePending, by decide⟩,
    ⟨63, 2, 2, .restore, site .cured, by decide⟩,
    ⟨63, 2, 2, 5, .restore, testing .waitLease .asking, ⟨.advance, false, 1, 1⟩, by decide⟩,
    ⟨63, 2, 3, site .cured, by decide⟩,
    ⟨63, 2, site .cured, by decide⟩,
    ⟨⟨2, 5, .grant, .none⟩, [⟨2, 5, .grant, .none⟩], by decide⟩,
    ⟨⟨2, 5, .grant, .none⟩, [⟨3, 5, .grant, .none⟩], by decide⟩,
    ⟨⟨2, .advance, 5⟩, [⟨2, .advance, 5⟩], by decide⟩,
    ⟨⟨2, .advance, 5⟩, [⟨3, .advance, 5⟩], by decide⟩,
    ⟨2, [⟨2, .granted⟩], by decide⟩,
    ⟨3, [⟨2, .granted⟩], by decide⟩⟩

theorem witness_AsksAreRanked :
    (∃ (st1 st2 : Stamp), st1 < st2)
    ∧ (∃ (n1 n2 : Nat), n1 < n2)
    ∧ (∃ (n1 n2 : Nat), n1 ≠ n2)
    ∧ (∃ (s : State) (a : CurrentAsk), s.lease.ask = some a)
    ∧ (∃ (s : State), s.lease.state = .holding ∧ s.freshGrout = false ∧ s.pendingTopUp = false) :=
  ⟨⟨1, 2, by decide⟩,
    ⟨1, 2, by decide⟩,
    ⟨1, 2, by decide⟩,
    ⟨testing .waitLease .asking, ⟨.advance, false, 1, 1⟩, by decide⟩,
    ⟨testing .ramp .holding, by decide⟩⟩

theorem witness_RepliesToTheCurrentAsk :
    (∃ (dst src : Byte) (e : ReplyIn) (a : CurrentAsk) (s : State), s.hears dst src ∧ s.lease.state =
        .asking ∧ s.lease.ask = some a ∧ s.own = some e.target.toNat ∧ e.stamp = a.stamp ∧ (∃ m ∈
        s.lease.required, m.number = src.toNat) ∧ e.verdict = 2)
    ∧ (∃ (dst src : Byte) (e : ReplyIn) (a : CurrentAsk) (s : State), s.hears dst src ∧ s.lease.state =
        .asking ∧ s.lease.ask = some a ∧ s.own = some e.target.toNat ∧ e.stamp = a.stamp ∧ (∃ m ∈
        s.lease.required, m.number = src.toNat) ∧ e.verdict = 1 ∧ (∃ m ∈ s.lease.required, m.number ≠
        src.toNat ∧ m.mark ≠ .granted))
    ∧ (∃ (dst src : Byte) (e : ReplyIn) (a : CurrentAsk) (s : State), s.hears dst src ∧ s.lease.state =
        .asking ∧ s.lease.ask = some a ∧ s.own = some e.target.toNat ∧ e.stamp = a.stamp ∧ (∃ m ∈
        s.lease.required, m.number = src.toNat) ∧ e.verdict = 1 ∧ (∀ m ∈ s.lease.required, m.number ≠
        src.toNat → m.mark = .granted) ∧ s.crew.phase = .stressing ∧ s.seq.sub = some .waitLease)
    ∧ (∃ (dst src : Byte) (e : ReplyIn) (a : CurrentAsk) (s : State), s.hears dst src ∧ s.lease.state =
        .asking ∧ s.lease.ask = some a ∧ s.own = some e.target.toNat ∧ e.stamp = a.stamp ∧ (∃ m ∈
        s.lease.required, m.number = src.toNat) ∧ e.verdict = 1 ∧ (∀ m ∈ s.lease.required, m.number ≠
        src.toNat → m.mark = .granted) ∧ s.crew.phase = .stressing ∧ s.seq.sub = some .abortWait)
    ∧ (∃ (dst src : Byte) (e : ReplyIn) (a : CurrentAsk) (s : State), s.hears dst src ∧ s.lease.state =
        .asking ∧ s.lease.ask = some a ∧ s.own = some e.target.toNat ∧ e.stamp = a.stamp ∧ (∃ m ∈
        s.lease.required, m.number = src.toNat) ∧ e.verdict = 1 ∧ (∀ m ∈ s.lease.required, m.number ≠
        src.toNat → m.mark = .granted) ∧ s.crew.phase = .locked ∧ s.aft.sub = some .pending)
    ∧ (∃ (dst src : Byte) (e : ReplyIn) (s : State), s.hears dst src ∧ (s.lease.state ≠ .asking ∨ s.own ≠
        some e.target.toNat ∨ e.stamp ≠ s.askStamp ∨ (∀ m ∈ s.lease.required, m.number ≠ src.toNat) ∨
        (e.verdict.toNat ≠ 1 ∧ e.verdict.toNat ≠ 2)))
    ∧ (∃ (dst src : Byte) (s : State), s.hears dst src)
    ∧ (∃ (n : Nat) (e : ReplyIn) (s : State), (s.lease.state ≠ .asking ∨ s.own ≠ some e.target.toNat ∨
        e.stamp ≠ s.askStamp ∨ (∀ m ∈ s.lease.required, m.number ≠ n) ∨ (e.verdict.toNat ≠ 1 ∧
        e.verdict.toNat ≠ 2)))
    ∧ (∃ (n : Nat) (e : ReplyIn) (s : State), s.lease.state = .asking ∧ s.own = some e.target.toNat ∧
        e.stamp = s.askStamp ∧ (∃ m ∈ s.lease.required, m.number = n) ∧ e.verdict = 2)
    ∧ (∃ (n : Nat) (e : ReplyIn) (s : State), s.lease.state = .asking ∧ s.own = some e.target.toNat ∧
        e.stamp = s.askStamp ∧ (∃ m ∈ s.lease.required, m.number = n) ∧ e.verdict = 1 ∧ (∃ m ∈
        s.lease.required, m.number ≠ n ∧ m.mark ≠ .granted))
    ∧ (∃ (n : Nat) (e : ReplyIn) (s : State), s.lease.state = .asking ∧ s.own = some e.target.toNat ∧
        e.stamp = s.askStamp ∧ (∃ m ∈ s.lease.required, m.number = n) ∧ e.verdict = 1 ∧ (∀ m ∈
        s.lease.required, m.number ≠ n → m.mark = .granted)) :=
  ⟨⟨63, 2, ⟨1, 1, 2, 1⟩, ⟨.advance, false, 1, 1⟩, testing .waitLease .asking, by decide⟩,
    ⟨63, 2, ⟨1, 1, 1, 0⟩, ⟨.advance, false, 1, 1⟩, (testing .waitLease .asking).onLease fun x =>
      { x with required := [⟨2, .unanswered⟩, ⟨3, .deferred⟩] }, by decide⟩,
    ⟨63, 2, ⟨1, 1, 1, 0⟩, ⟨.advance, false, 1, 1⟩, testing .waitLease .asking, by decide⟩,
    ⟨63, 2, ⟨1, 1, 1, 0⟩, ⟨.restore, true, 1, 1⟩, testing .abortWait .asking, by decide⟩,
    ⟨63, 2, ⟨1, 1, 1, 0⟩, ⟨.restore, false, 1, 1⟩, locked .pending none .asking, by decide⟩,
    ⟨63, 2, ⟨1, 1, 3, 0⟩, testing .waitLease .asking, by decide⟩,
    ⟨63, 2, testing .waitLease .asking, by decide⟩,
    ⟨2, ⟨1, 1, 3, 0⟩, testing .waitLease .asking, by decide⟩,
    ⟨2, ⟨1, 1, 2, 1⟩, testing .waitLease .asking, by decide⟩,
    ⟨2, ⟨1, 1, 1, 0⟩, (testing .waitLease .asking).onLease fun x =>
      { x with required := [⟨2, .unanswered⟩, ⟨3, .deferred⟩] }, by decide⟩,
    ⟨2, ⟨1, 1, 1, 0⟩, testing .waitLease .asking, by decide⟩⟩

theorem witness_LeaveAndRetireSettleEntries :
    (∃ (dst src : Byte) (s : State), s.hears dst src)
    ∧ (∃ (dst src : Byte) (s : State), s.hears dst src ∧ (∀ x ∈ s.roster.entries, x.number = src.toNat →
        x.presence = .retired))
    ∧ (∃ (dst src n : Byte) (e : Entry) (s : State), s.hears dst src ∧ s.entry n.toNat = some e ∧
        e.presence = .lost ∧ (∀ x ∈ s.roster.entries, x.number = n.toNat → x = e))
    ∧ (∃ (dst src n : Byte) (s : State), s.hears dst src ∧ (∀ x ∈ s.roster.entries, x.number = n.toNat →
        x.presence ≠ .lost))
    ∧ (∃ (dst src n : Byte) (s : State), s.hears dst src ∧ s.own = some n.toNat ∧ s.member n.toNat = false) :=
  ⟨⟨63, 2, site .cured, by decide⟩,
    ⟨63, 2, (site .cured).onRoster fun _ => ⟨[peer .retired], .off⟩, by decide⟩,
    ⟨63, 20, 2, peer .lost, (site .cured).onRoster fun _ => ⟨[peer .lost], .off⟩, by decide⟩,
    ⟨63, 20, 2, site .cured, by decide⟩,
    ⟨63, 20, 1, site .cured, by decide⟩⟩

theorem witness_PresenceLossWithdrawsTheAsk :
    (∃ (n : Byte) (e : Entry) (s : State), s.entry n.toNat = some e ∧ (e.presence = .listening ∨ e.presence
        = .present ∨ e.presence = .mismatch) ∧ (∀ x ∈ s.roster.entries, x.number = n.toNat → x = e) ∧
        s.waitsWith (some .neighbourNotPresent) = false ∧ s.lease.state = .asking ∧ (∃ m ∈
        s.lease.required, m.number = n.toNat))
    ∧ (∃ (n : Byte) (e : Entry) (s : State), s.entry n.toNat = some e ∧ (e.presence = .listening ∨
        e.presence = .present ∨ e.presence = .mismatch) ∧ (∀ x ∈ s.roster.entries, x.number = n.toNat → x =
        e) ∧ s.waitsWith (some .neighbourNotPresent) = false ∧ (s.lease.state ≠ .asking ∨ (∀ m ∈
        s.lease.required, m.number ≠ n.toNat)))
    ∧ (∃ (n : Byte) (e : Entry) (r : Request) (s : State), s.lease.state = .asking ∧ s.request = some r ∧
        s.waitsWith (some .neighbourNotPresent) = false ∧ s.entry n.toNat = some e ∧ (e.presence =
        .listening ∨ e.presence = .present ∨ e.presence = .mismatch) ∧ (∀ x ∈ s.roster.entries, x.number =
        n.toNat → x = e) ∧ (∃ m ∈ s.lease.required, m.number = n.toNat))
    ∧ (∃ (dst src : Byte) (e : Entry) (s : State), s.hears dst src ∧ s.waitsWith (some
        .neighbourNotPresent) = false ∧ s.entry src.toNat = some e ∧ e.presence ≠ .retired ∧ s.lease.state
        = .asking ∧ (∃ m ∈ s.lease.required, m.number = src.toNat) ∧ (∃ m ∈ (s.lease.required.filter fun m
        => m.number != src.toNat), m.mark ≠ .granted))
    ∧ (∃ (dst src : Byte) (e : Entry) (s : State), s.hears dst src ∧ s.waitsWith (some
        .neighbourNotPresent) = false ∧ s.entry src.toNat = some e ∧ e.presence ≠ .retired ∧ s.lease.state
        = .asking ∧ (∃ m ∈ s.lease.required, m.number = src.toNat) ∧ (∀ m ∈ (s.lease.required.filter fun m
        => m.number != src.toNat), m.mark = .granted))
    ∧ (∃ (dst src : Byte) (e : Entry) (s : State), s.hears dst src ∧ s.waitsWith (some
        .neighbourNotPresent) = false ∧ s.entry src.toNat = some e ∧ e.presence ≠ .retired ∧ (s.lease.state
        ≠ .asking ∨ (∀ m ∈ s.lease.required, m.number ≠ src.toNat)))
    ∧ (∃ (n : Byte) (s : State), (∀ e, s.entry n.toNat = some e → e.presence = .lost ∨ e.presence =
        .retired)) :=
  ⟨⟨2, peer .listening, (testing .waitLease .asking).onRoster fun _ => ⟨[peer .listening], .off⟩, by
      decide⟩,
    ⟨2, peer .present, (testing .waitLease .asking).onLease fun x =>
      { x with required := [⟨3, .unanswered⟩] }, by decide⟩,
    ⟨2, peer .present, ⟨.advance, false, .taken⟩, testing .waitLease .asking, by decide⟩,
    ⟨63, 2, peer .present, (testing .waitLease .asking).onLease fun x =>
      { x with required := [⟨2, .granted⟩, ⟨3, .deferred⟩] }, by decide⟩,
    ⟨63, 2, peer .present, (testing .waitLease .asking).onLease fun x =>
      { x with required := [⟨2, .unanswered⟩] }, by decide⟩,
    ⟨63, 2, peer .present, (testing .waitLease .asking).onLease fun x =>
      { x with required := [⟨3, .unanswered⟩] }, by decide⟩,
    ⟨9, site .cured, by intro e h; cases h⟩⟩

theorem witness_AlertsFromMembers :
    (∃ (dst src cause phase : Byte) (c : AlertCause) (p : Phase) (s : State), s.hears dst src ∧ s.bound =
        true ∧ s.member src.toNat = true ∧ causeOfCode cause.toNat = some c ∧ phaseOfCode phase.toNat =
        some p ∧ (c ≠ .breakthrough ∨ s.groutBegun = false))
    ∧ (∃ (dst src cause phase : Byte) (c : AlertCause) (p : Phase) (s : State), s.hears dst src ∧ s.bound =
        true ∧ s.member src.toNat = true ∧ causeOfCode cause.toNat = some c ∧ phaseOfCode phase.toNat =
        some p ∧ c = .breakthrough ∧ s.groutBegun = true)
    ∧ (∃ (dst src cause phase : Byte) (s : State), s.hears dst src ∧ (s.bound = false ∨ s.member src.toNat
        = false ∨ causeOfCode cause.toNat = none ∨ phaseOfCode phase.toNat = none)) :=
  ⟨⟨63, 2, 12, 7, .lossExcess, .locked, grouting .fill, by decide⟩,
    ⟨63, 2, 4, 2, .breakthrough, .grouting, grouting .supplyWeak, by decide⟩,
    ⟨63, 2, 13, 2, site .cured, by decide⟩⟩

theorem witness_BindRefusedAndQueriesNotTaken :
    (∃ (dst src : Byte) (s : State), s.hears dst src ∧ s.takes dst ∧ (s.bound = true ∨ s.crew.phase ≠
        .setup))
    ∧ (∃ (dst src : Byte) (b : BindIn) (i : Nat) (r : RefusalReason) (s : State), s.hears dst src ∧ s.takes
        dst ∧ s.bound = false ∧ s.crew.phase = .setup ∧ validate s.ownNumber b = some (i, r))
    ∧ (∃ (c : Instr) (dst src : Byte) (s : State), ((∃ b, c = .bind dst src b) ∨ c = .statusQuery dst src ∨
        (∃ x p, c = .recordQuery dst src x p) ∨ (∃ x n, c = .exportedQuery dst src x n) ∨ ∃ w, c =
        .queryUnknown dst src w) ∧ s.hears dst src ∧ s.own = some dst.toNat ∧ (4 ≤ s.lif.fifo.length ∨
        s.listenOnly = true ∨ s.crew.stage ≠ .online))
    ∧ (∃ (c : Instr) (dst src : Byte) (s : State), ((∃ b, c = .bind dst src b) ∨ c = .statusQuery dst src ∨
        (∃ x p, c = .recordQuery dst src x p) ∨ (∃ x n, c = .exportedQuery dst src x n) ∨ ∃ w, c =
        .queryUnknown dst src w) ∧ s.hears dst src ∧ s.own ≠ some dst.toNat) :=
  ⟨⟨1, 20, site .cured, by decide⟩,
    ⟨1, 20, { bindIn 1 with wall := 0 }, 2, .range, fresh, by decide +kernel⟩,
    ⟨.statusQuery 1 20, 1, 20, (site .cured).onLif fun x =>
      { x with fifo := [⟨20, .freeSlot 1, 0⟩, ⟨20, .freeSlot 1, 0⟩, ⟨20, .freeSlot 1, 0⟩, ⟨20, .freeSlot 1, 0⟩] },
      ⟨.inr (.inl rfl), by decide⟩⟩,
    ⟨.statusQuery 63 20, 63, 20, site .cured, ⟨.inr (.inl rfl), by decide⟩⟩⟩

theorem witness_BindTakesEffect :
    (∃ (dst src : Byte) (b : BindIn) (s : State), s.hears dst src ∧ s.takes dst ∧ s.bound = false ∧
        s.crew.phase = .setup ∧ validate s.ownNumber b = none ∧ b.startPhase ≠ 1)
    ∧ (∃ (dst src : Byte) (b : BindIn) (s : State), s.hears dst src ∧ s.takes dst ∧ s.bound = false ∧
        s.crew.phase = .setup ∧ validate s.ownNumber b = none ∧ b.startPhase ≠ 2 ∧ b.startPhase ≠ 4)
    ∧ (∃ (dst src : Byte) (b : BindIn) (s : State), s.hears dst src ∧ s.takes dst ∧ s.bound = false ∧
        s.crew.phase = .setup ∧ validate s.ownNumber b = none ∧ b.startPhase ≠ 7)
    ∧ (∃ (dst src : Byte) (b : BindIn) (s : State), s.hears dst src ∧ s.takes dst ∧ s.bound = false ∧
        s.crew.phase = .setup ∧ validate s.ownNumber b = none ∧ b.startPhase = 1)
    ∧ (∃ (dst src : Byte) (b : BindIn) (s : State), s.hears dst src ∧ s.takes dst ∧ s.bound = false ∧
        s.crew.phase = .setup ∧ validate s.ownNumber b = none ∧ b.startPhase = 2)
    ∧ (∃ (dst src : Byte) (b : BindIn) (s : State), s.hears dst src ∧ s.takes dst ∧ s.bound = false ∧
        s.crew.phase = .setup ∧ validate s.ownNumber b = none ∧ b.startPhase = 4)
    ∧ (∃ (dst src : Byte) (b : BindIn) (s : State), s.hears dst src ∧ s.takes dst ∧ s.bound = false ∧
        s.crew.phase = .setup ∧ validate s.ownNumber b = none ∧ b.startPhase = 5)
    ∧ (∃ (dst src : Byte) (b : BindIn) (s : State), s.hears dst src ∧ s.takes dst ∧ s.bound = false ∧
        s.crew.phase = .setup ∧ validate s.ownNumber b = none ∧ b.startPhase = 7) :=
  ⟨⟨1, 20, bindIn 7, fresh, by decide +kernel⟩,
    ⟨1, 20, bindIn 1, fresh, by decide +kernel⟩,
    ⟨1, 20, bindIn 5, fresh, by decide +kernel⟩,
    ⟨1, 20, bindIn 1, fresh, by decide +kernel⟩,
    ⟨1, 20, bindIn 2, fresh, by decide +kernel⟩,
    ⟨1, 20, bindIn 4, fresh, by decide +kernel⟩,
    ⟨1, 20, bindIn 5, fresh, by decide +kernel⟩,
    ⟨1, 20, bindIn 7, fresh, by decide +kernel⟩⟩

theorem witness_AcceptedBindIsInRange :
    (∃ (own : Nat) (b : BindIn), b.ok = true ∧ validate own b = none ∧ b.startPhase = 4)
    ∧ (∃ (own : Nat) (b : BindIn), b.ok = true ∧ validate own b = none ∧ b.startPhase = 7)
    ∧ (∃ (own : Nat) (b : BindIn) (i : Nat) (x : StepIn), b.ok = true ∧ validate own b = none
        ∧ (b.steps.take b.stepCount.toNat)[i]? = some x)
    ∧ (∃ (own : Nat) (b : BindIn), b.ok = true ∧ validate own b = some (2, .range)) :=
  ⟨⟨1, bindIn 4, by decide +kernel⟩, ⟨1, bindIn 7, by decide +kernel⟩,
    ⟨1, bindIn 1, 4, ⟨4, 540, 0⟩, by decide +kernel⟩,
    ⟨1, { bindIn 1 with wall := 0 }, by decide +kernel⟩⟩

theorem witness_QueriesAreAnsweredAsTheStateStands :
    (∃ (dst src : Byte) (s : State), s.hears dst src ∧ s.takes dst)
    ∧ (∃ (dst src slot part : Byte) (s : State), s.hears dst src ∧ s.takes dst ∧ (8 < slot.toNat ∨
        part.toNat ≤ 3 ∨ slot.toNat = 0))
    ∧ (∃ (dst src slot part : Byte) (s : State), s.hears dst src ∧ s.takes dst ∧ 1 ≤ slot.toNat ∧
        slot.toNat ≤ 8 ∧ 3 < part.toNat)
    ∧ (∃ (dst src : Byte) (s : State), s.hears dst src ∧ s.takes dst)
    ∧ (∃ (dst src slot : Byte) (number : Half) (a : Report) (s : State), s.hears dst src ∧ s.takes dst ∧
        ((a = .plain .outOfRange .exported ∧ (slot.toNat = 0 ∨ 8 < slot.toNat)) ∨ (1 ≤ slot.toNat ∧
        slot.toNat ≤ 8 ∧ ((a = .plain .notClosed .exported ∧ ∀ r, s.store.image.slot slot.toNat = some r →
        r.isOpen = true) ∨ ∃ r, s.store.image.slot slot.toNat = some r ∧ r.isOpen = false ∧ ((a = .plain
        .numberMismatch .exported ∧ r.number ≠ number) ∨ (a = .exportedOk slot.toNat number ∧ r.number =
        number ∧ r.exported = true) ∨ (a = .plain .busy .exported ∧ r.number = number ∧ r.exported = false
        ∧ s.store.queue ≠ []))))))
    ∧ (∃ (dst src slot : Byte) (r : SlotRecord) (s : State), s.hears dst src ∧ s.takes dst ∧ 1 ≤ slot.toNat
        ∧ slot.toNat ≤ 8 ∧ s.store.image.slot slot.toNat = some r ∧ r.isOpen = false ∧ r.exported = false ∧
        s.store.queue = [] ∧ (s.pendingTopUp = false ∨ s.waitsWith (some .storeFull) = false))
    ∧ (∃ (dst src slot : Byte) (r : SlotRecord) (s : State), s.hears dst src ∧ s.takes dst ∧ 1 ≤ slot.toNat
        ∧ slot.toNat ≤ 8 ∧ s.store.image.slot slot.toNat = some r ∧ r.isOpen = false ∧ r.exported = false ∧
        s.store.queue = []) :=
  ⟨⟨1, 20, site .cured, by decide⟩,
    ⟨1, 20, 8, 3, site .cured, by decide⟩,
    ⟨1, 20, 8, 4, site .cured, by decide⟩,
    ⟨1, 20, site .cured, by decide⟩,
    ⟨1, 20, 9, 1, .plain .outOfRange .exported, site .cured, ⟨by decide, by decide, .inl ⟨rfl, by decide⟩⟩⟩,
    ⟨1, 20, 1, closedSlot, locked .watch none .idle, by decide⟩,
    ⟨1, 20, 1, closedSlot, ((locked .pending none .idle).onAft fun x =>
      { x with request := some ⟨.restore, false, .waiting (some .storeFull)⟩ }).onStore fun _ => storeOf
      closedSlot, by decide⟩⟩

theorem witness_ReportsShowTheState :
    (∃ s : State, ∀ r, some r ∈ s.store.image.slots → r.isOpen = false)
    ∧ (∃ (s : State) (pre post : List (Option SlotRecord)) (r : SlotRecord),
        s.store.image.slots = pre ++ some r :: post ∧ r.isOpen = true
        ∧ (∀ q, some q ∈ pre → q.isOpen = false)) :=
  ⟨⟨withSlots (List.replicate 8 (some closedSlot)), by
      intro r h; cases List.eq_of_mem_replicate h; rfl⟩,
    ⟨withSlots [none, some openSlot], [none], [], openSlot, by decide, by decide, by simp⟩⟩

theorem witness_TransmitterTakesAndEndsFrames :
    (∃ (s : State), s.lif.tx = .waitingQuiet ∧ s.lif.batch.frame ≠ [])
    ∧ (∃ (s : State) (f : _), s.lif.tx = .waitingQuiet ∧ s.lif.batch.frame = [] ∧ s.lif.ask = some f)
    ∧ (∃ (s : State) (f : _), s.lif.tx = .waitingQuiet ∧ s.lif.batch.frame = [] ∧ s.lif.ask = none ∧
        s.lif.alert = some f)
    ∧ (∃ (s : State) (r rest : _), s.lif.tx = .waitingQuiet ∧ s.lif.batch.frame = [] ∧ s.lif.ask = none ∧
        s.lif.alert = none ∧ s.lif.fifo = r :: rest)
    ∧ (∃ (s : State) (f : _), s.lif.tx = .waitingQuiet ∧ s.lif.batch.frame = [] ∧ s.lif.ask = none ∧
        s.lif.alert = none ∧ s.lif.fifo = [] ∧ s.lif.beacon = some f)
    ∧ (∃ (s : State), s.lif.tx = .waitingQuiet ∧ s.lif.batch.frame = [] ∧ s.lif.ask = none ∧ s.lif.alert =
        none ∧ s.lif.fifo = [] ∧ s.lif.beacon = none)
    ∧ (∃ (s : State), s.lif.tx ≠ .waitingQuiet)
    ∧ (∃ (k : Nat) (s : State), s.lif.tx = .backingOff k)
    ∧ (∃ (f : OutFrame) (n : Nat) (s : State), s.lif.tx = .sending f n ∧ (∀ dst r, f ≠ .report dst r))
    ∧ (∃ (dst : Byte) (r : Report) (n : Nat) (s : State), s.lif.tx = .sending (.report dst r) n)
    ∧ (∃ (f : OutFrame) (n : Nat) (s : State), s.lif.tx = .sending f n ∧ s.latched .lineJabber = false) :=
  ⟨⟨(line .waitingQuiet).onLif fun x => { x with batch := ⟨[⟨2, 5, .grant, .none⟩], 0⟩ }, by decide⟩,
    ⟨(line .waitingQuiet).onLif fun x => { x with ask := some ⟨.leave, 0⟩ }, ⟨.leave, 0⟩, by decide⟩,
    ⟨(line .waitingQuiet).onLif fun x => { x with alert := some ⟨⟨.jackOver, .locked, 9⟩, 0⟩ },
      ⟨⟨.jackOver, .locked, 9⟩, 0⟩, by decide⟩,
    ⟨(line .waitingQuiet).onLif fun x => { x with fifo := [⟨20, .freeSlot 1, 0⟩] }, ⟨20, .freeSlot 1, 0⟩,
      [], by decide⟩,
    ⟨(line .waitingQuiet).onLif fun x => { x with beacon := some ⟨(site .cured).buildBeacon, 0⟩ }, ⟨(site
      .cured).buildBeacon, 0⟩, by decide⟩,
    ⟨line .waitingQuiet, by decide⟩,
    ⟨line .free, by decide⟩,
    ⟨3, line (.backingOff 3), by decide⟩,
    ⟨.ask .leave, 0, line (.sending (.ask .leave) 0), ⟨by decide, fun _ _ h => nomatch h⟩⟩,
    ⟨20, .freeSlot 1, 0, line (.sending (.report 20 (.freeSlot 1)) 0), by decide⟩,
    ⟨.ask .leave, 0, line (.sending (.ask .leave) 0), by decide⟩⟩

theorem witness_CollisionReturnsTheFrame :
    (∃ (f : OutFrame) (n : Nat) (s : State), s.lif.tx = .sending f n ∧ n + 1 < 12 ∧ s.listenOnly = false ∧
        (((List.range 16).foldl (fun x _ => rngStep x) s.lif.rng).toNat % 2 ^ min (n + 1) 6) ≠ 0)
    ∧ (∃ (f : OutFrame) (n : Nat) (s : State) (dst r x rest : _), s.lif.tx = .sending f n ∧ n + 1 < 12 ∧
        s.listenOnly = false ∧ f = .report dst r ∧ s.lif.fifo = x :: rest)
    ∧ (∃ (f : OutFrame) (n : Nat) (s : State), s.lif.tx = .sending f n ∧ n + 1 < 12 ∧ s.listenOnly = false
        ∧ (∀ dst r, f ≠ .report dst r))
    ∧ (∃ (f : OutFrame) (s : State) (dst r : _), s.lif.tx = .sending f 11 ∧ s.listenOnly = false ∧ f =
        .report dst r)
    ∧ (∃ (f : OutFrame) (s : State), s.lif.tx = .sending f 11 ∧ s.listenOnly = false ∧ (∀ dst r, f ≠
        .report dst r))
    ∧ (∃ (s : State), s.sending = false)
    ∧ (∃ (f : OutFrame) (n : Nat) (s : State), s.lif.tx = .sending f n ∧ s.listenOnly = true) :=
  ⟨⟨.ask .leave, 10, line (.sending (.ask .leave) 10), by decide⟩,
    ⟨.report 20 (.freeSlot 1), 0, (line (.sending (.report 20 (.freeSlot 1)) 0)).onLif fun x =>
      { x with fifo := [⟨20, .freeSlot 1, 0⟩] }, 20, .freeSlot 1, ⟨20, .freeSlot 1, 0⟩, [], by decide⟩,
    ⟨.ask .leave, 0, line (.sending (.ask .leave) 0), ⟨by decide, by decide, by decide, fun _ _ h =>
      nomatch h⟩⟩,
    ⟨.report 20 (.freeSlot 1), line (.sending (.report 20 (.freeSlot 1)) 11), 20, .freeSlot 1, by decide⟩,
    ⟨.ask .leave, line (.sending (.ask .leave) 11), ⟨by decide, by decide, fun _ _ h => nomatch h⟩⟩,
    ⟨line .free, by decide⟩,
    ⟨.ask .leave, 11, (line (.sending (.ask .leave) 11)).onTrip fun x =>
      { x with latches := [.lineJabber] }, by decide⟩⟩

theorem witness_BackoffGenerator :
    (∃ (i : _), i < 15)
    ∧ (∃ (f : OutFrame) (n : Nat) (s : State), s.lif.tx = .sending f n ∧ s.listenOnly = false)
    ∧ (∃ (c : Instr) (s t : State), c ≠ .collision ∧ (∀ a b d, c ≠ .powerOn a b d) ∧ exec c s = .next t)
    ∧ (∃ (r1 r2 : Half), r1 ≠ r2)
    ∧ (∃ (r : Half), r ≠ 0) :=
  ⟨⟨14, by decide⟩,
    ⟨.ask .leave, 11, line (.sending (.ask .leave) 11), by decide⟩,
    ⟨.go, site .cured, after .go (site .cured), by decide, (by intro a b d h; cases h), rfl⟩,
    ⟨1, 2, by decide⟩,
    ⟨32768, by decide⟩⟩

theorem witness_SentFramesPassTheReceiveChecks :
    (∃ (dst src : Byte) (payload : List Byte), 1 ≤ dst.toNat ∧ dst.toNat ≤ 79 ∧ 1 ≤ src.toNat ∧ src.toNat ≤
        62 ∧ payload.length ≤ 200)
    ∧ (∃ (x y : Byte) (pre post : List Byte), x ≠ y ∧ (pre ++ x :: post).length ≤ 200)
    ∧ (∃ (f : OutFrame) (n : Nat) (s : State), s.lif.tx = .sending f n)
    ∧ (∃ (f : OutFrame) (n own : Nat) (s : State), s.lif.tx = .sending f n ∧ s.own = some own ∧ (∀ es, f =
        .reply es → 1 ≤ es.length ∧ es.length ≤ 12) ∧ (∀ b, f = .beacon b → b.roster.length ≤ 12) ∧ (∀ dst
        r, f = .report dst r → 1 ≤ dst.toNat ∧ dst.toNat ≤ 62) ∧ (∀ dst slot ps, f = .report dst (.points
        slot ps) → ps.length ≤ 12) ∧ (∀ dst slot es, f = .report dst (.topUps slot es) → es.length ≤ 3) ∧
        (∀ dst r, f = .report dst (.status r) → r.roster.length ≤ 12)) :=
  ⟨⟨79, 62, List.replicate 200 0, by decide +kernel⟩,
    ⟨0, 1, List.replicate 199 0, [], by decide +kernel⟩,
    ⟨.ask .leave, 0, line (.sending (.ask .leave) 0), by decide⟩,
    ⟨.report 20 (.freeSlot 1), 0, 1, line (.sending (.report 20 (.freeSlot 1)) 0), by decide, by decide, by
      simp, by simp, by simp, by simp, by simp, by simp⟩⟩

theorem witness_LeaseTimersRunOut :
    (∃ (a : CurrentAsk) (s : State), s.lease.askTimer.on = true ∧ s.lease.state = .asking ∧ s.lease.ask =
        some a ∧ (∃ m ∈ s.lease.required, m.mark = .unanswered) ∧ a.count < 4)
    ∧ (∃ (a : CurrentAsk) (s : State), s.lease.askTimer.on = true ∧ s.lease.state = .asking ∧ s.lease.ask =
        some a ∧ (∀ m ∈ s.lease.required, m.mark ≠ .unanswered))
    ∧ (∃ (a : CurrentAsk) (r : Request) (s : State), s.lease.askTimer.on = true ∧ s.lease.state = .asking ∧
        s.lease.ask = some a ∧ (∃ m ∈ s.lease.required, m.mark = .unanswered) ∧ a.count = 4 ∧ a.abort =
        false ∧ s.request = some r)
    ∧ (∃ (a : CurrentAsk) (s : State), s.lease.askTimer.on = true ∧ s.lease.state = .asking ∧ s.lease.ask =
        some a ∧ (∃ m ∈ s.lease.required, m.mark = .unanswered) ∧ a.count = 4 ∧ a.abort = true)
    ∧ (∃ (s : State), s.lease.reask.on = true ∧ s.waitsWith (some .askBackoff) = false)
    ∧ (∃ (r : Request) (s : State), s.lease.reask.on = true ∧ s.request = some r ∧ r.status = .waiting
        (some .askBackoff) ∧ { s with lease := { s.lease with reask := .off } }.wouldTake r.abort ∧
        s.presentMembers ≠ [])
    ∧ (∃ (s : State), s.lease.hold.on = true ∧ s.lease.state = .holding ∧ s.latched .leaseOverrun = false ∧
        s.trip.latches = [])
    ∧ (∃ (s : State), s.lease.hold.on = true ∧ s.lease.state = .holding ∧ s.latched .leaseOverrun = false ∧
        s.listenOnly = false)
    ∧ (∃ (r : Request) (s : State), s.lease.reask.on = true ∧ s.request = some r ∧ r.status = .waiting
        (some .askBackoff)) :=
  ⟨⟨⟨.advance, false, 1, 3⟩, (testing .waitLease .asking).onLease fun x =>
      { x with ask := some ⟨.advance, false, 1, 3⟩ }, by decide⟩,
    ⟨⟨.advance, false, 1, 1⟩, (testing .waitLease .asking).onLease fun x =>
      { x with required := [⟨2, .deferred⟩] }, by decide⟩,
    ⟨⟨.advance, false, 1, 4⟩, ⟨.advance, false, .taken⟩, (testing .waitLease .asking).onLease fun x =>
      { x with ask := some ⟨.advance, false, 1, 4⟩ }, by decide⟩,
    ⟨⟨.restore, true, 1, 4⟩, (testing .abortWait .asking).onLease fun x =>
      { x with ask := some ⟨.restore, true, 1, 4⟩ }, by decide⟩,
    ⟨(site .cured).onLease fun x => { x with reask := .start 20000000 }, by decide⟩,
    ⟨⟨.advance, false, .waiting (some .askBackoff)⟩, ((testing .waitLease .idle).onSeq fun x =>
      { x with request := some ⟨.advance, false, .waiting (some .askBackoff)⟩ }).onLease fun x =>
      { x with reask := .start 20000000 }, by decide⟩,
    ⟨testing .ramp .holding, by decide⟩,
    ⟨testing .ramp .holding, by decide⟩,
    ⟨⟨.advance, false, .waiting (some .askBackoff)⟩, (((testing .waitLease .idle).onSeq fun x =>
      { x with request := some ⟨.advance, false, .waiting (some .askBackoff)⟩ }).onLease fun x =>
      { x with reask := .start 20000000 }).onTrip fun x => { x with latches := [.rampStall] }, by decide⟩⟩

theorem witness_ALatchSets :
    (∃ (l : Latch) (s : State), s.latched l = false ∧ s.lease.state = .asking ∧ s.askAbort = false
      ∧ s.listenOnly = false ∧ ¬(l = .lineJabber ∨ l = .duplicateId))
    ∧ (∃ (l : Latch) (s : State), s.lease.state = .asking ∧ s.askAbort = false ∧ (l = .lineJabber ∨ l = .duplicateId))
    ∧ (∃ (l : Latch) (s : State), s.latched l = false ∧ s.lease.state = .asking ∧ s.askAbort = true)
    ∧ (∃ (l : Latch) (s : State), s.latched l = false ∧ s.lease.state ≠ .asking)
    ∧ (∃ (l : Latch) (s : State), s.latched l = false ∧ s.crew.phase = .placing ∧ s.placement.sub = some .payout)
    ∧ (∃ (l : Latch) (s : State), s.latched l = false ∧ s.crew.phase = .grouting)
    ∧ (∃ (l : Latch) (s : State), s.latched l = false ∧ s.crew.phase = .stressing ∧ s.seq.sub = some .ramp)
    ∧ (∃ (l : Latch) (s : State), s.latched l = false ∧ s.crew.phase = .locked ∧ s.aft.sub = some .topUp
      ∧ s.aft.stage = some .lift)
    ∧ (∃ (l : Latch) (s : State), s.latched l = true) :=
  ⟨⟨.jackOver, testing .waitLease .asking, by decide⟩, ⟨.duplicateId, testing .waitLease .asking, by decide⟩,
    ⟨.stampEnd, testing .abortWait .asking, by decide⟩, ⟨.stampEnd, site .cured, by decide⟩,
    ⟨.winchJam, placing .payout, by decide⟩, ⟨.groutOver, grouting .fill, by decide⟩,
    ⟨.rampStall, testing .ramp .holding, by decide⟩,
    ⟨.rampStall, locked .topUp (some .lift) .holding, by decide⟩,
    ⟨.jackOver, { site .cured with trip := { Trip.reset with latches := [.jackOver] } }, by decide⟩⟩

theorem witness_ScanBringsTripsDue :
    (∃ (s : State), s.inUse .jp = true ∧ s.latched .jackOver = false ∧ 1 ≤ s.trip.jackTime)
    ∧ (∃ (s : State), s.crew.phase = .grouting ∧ s.latched .groutOver = false ∧ 1 ≤ s.trip.groutTime ∧
        s.par.groutScans ≤ s.trip.groutTime)
    ∧ (∃ (s : State) (last first : Int) (rest : List Int), s.crew.phase = .stressing ∧ s.seq.sub = some
        .holdLoad ∧ s.latched .extRunaway = false ∧ 1 ≤ s.trip.extTime ∧ s.par.extScans ≤ s.trip.extTime ∧
        s.trip.window = last :: rest ∧ s.trip.window[60]? = some first)
    ∧ (∃ (s : State), s.crew.phase = .placing ∧ s.latched .breakIn = false ∧ 10 ≤ s.placement.breakTime)
    ∧ (∃ (c : Channel) (s : State), s.inUse c = true ∧ s.named c = false ∧ 10 ≤ s.railTime c ∧ s.listenOnly
        = false)
    ∧ (∃ (s : State), (s.inUse .jp = false ∨ s.latched .jackOver = true ∨ s.trip.jackTime = 0))
    ∧ (∃ (s : State), (s.crew.phase ≠ .grouting ∨ s.latched .groutOver = true ∨ s.trip.groutTime <
        s.par.groutScans))
    ∧ (∃ (s : State), (s.seqIn .holdLoad = false ∨ s.latched .extRunaway = true ∨ s.trip.extTime <
        s.par.extScans))
    ∧ (∃ (s : State), (s.crew.phase ≠ .placing ∨ s.latched .breakIn = true ∨ s.placement.breakTime < 10))
    ∧ (∃ (s : State) (c : _), (s.inUse c = false ∨ s.named c = true ∨ s.railTime c < 10)) :=
  ⟨⟨(testing .ramp .holding).onTrip fun x => { x with jackTime := 1 }, by decide⟩,
    ⟨(grouting .fill).onTrip fun x => { x with groutTime := 1 }, by decide⟩,
    ⟨(testing .holdLoad .holding).onTrip fun x =>
      { x with extTime := 50, window := 30 :: List.replicate 60 5 }, 30, 5, List.replicate 60 5, by decide⟩,
    ⟨(placing .payout).onPlacement fun x => { x with breakTime := 10 }, by decide⟩,
    ⟨.lc, (locked .watch none .idle).onScan fun x => { x with railTimes := [0, 0, 10, 0, 0, 0, 0, 0] }, by
      decide⟩,
    ⟨site .cured, by decide⟩,
    ⟨site .cured, by decide⟩,
    ⟨site .cured, by decide⟩,
    ⟨site .cured, by decide⟩,
    ⟨site .cured, .lc, by decide⟩⟩

theorem witness_ScanPublishesItsValues :
    ∃ (s : State), (s.crew.phase = .setup ∨ s.crew.phase = .curing ∨ s.crew.phase = .cured ∨ s.crew.phase =
        .rejected ∨ s.crew.phase = .detached) :=
  ⟨site .detached, by decide⟩

theorem witness_ScanMeasuresAndHandsOn :
    (∃ (v : ScanSet) (s : State), ((s.takeOverdue.finish.elapse 100000).publish v).latchDue = false)
    ∧ (∃ (v : ScanSet) (s : State), ((s.takeOverdue.finish.elapse 100000).publish v).latchDue = true)
    ∧ (∃ (s : State), s.latchDue = false)
    ∧ (∃ (s : State), s.latchDue = false ∧ s.breakInDue = false ∧ (s.crew.phase = .placing →
        s.placement.cleanDist < 200 ∧ s.placement.slackTime < 20) ∧ s.placementDue = false ∧ s.volumeDue =
        false ∧ s.refusalDue = false ∧ s.fillDue = false ∧ (s.crew.phase = .grouting → s.grout.sagTime < 20
        ∧ s.grout.cleanTime < 600) ∧ (s.crew.phase = .setting → s.grout.breakTime < 10) ∧ s.lowDue = false
        ∧ s.recoveryDue = false ∧ s.seq.jack.readDue = false ∧ s.aft.jack.readDue = false)
    ∧ (∃ (s : State), (s.crew.phase = .setup ∨ s.crew.phase = .curing ∨ s.crew.phase = .cured ∨
        s.crew.phase = .rejected ∨ s.crew.phase = .detached))
    ∧ (∃ (s : State), s.volumeDue = true)
    ∧ (∃ (s : State), s.seq.jack.readDue = true)
    ∧ (∃ (s : State), s.seq.jack.readDue = false)
    ∧ (∃ (s : State), s.aft.jack.readDue = true)
    ∧ (∃ (s : State), s.aft.jack.readDue = false) :=
  ⟨⟨quietScan, site .setting, by decide +kernel⟩,
    ⟨{ quietScan with jp := 50001 }, testing .ramp .holding, by decide +kernel⟩,
    ⟨testing .ramp .holding, by decide⟩,
    ⟨testing .ramp .holding, by decide⟩,
    ⟨site .cured, by decide⟩,
    ⟨(grouting .fill).onGrout fun x => { x with volume := 400 }, by decide⟩,
    ⟨(testing .settle .holding).onSeq fun x => { x with jack := { jack with readDue := true } }, by decide⟩,
    ⟨testing .settle .holding, by decide⟩,
    ⟨(locked .topUp (some .settle) .holding).onAft fun x =>
      { x with jack := { jack with readDue := true } }, by decide⟩,
    ⟨locked .topUp (some .settle) .holding, by decide⟩⟩

theorem witness_ScanInPlacing :
    (∃ (v : ScanSet) (s : State), s.crew.phase = .placing ∧ v.rails = 0 ∧ s.scan.railTimes = [0, 0, 0, 0,
        0, 0, 0, 0] ∧ s.trip.named = [] ∧ s.placement.breakTime < 10 ∧ s.placement.ropeOut <
        s.par.tendonLength ∧ s.placement.slackTime < 20 ∧ (¬(s.placement.sub = some .payout ∧ s.crew.hold =
        false ∧ s.held = false ∧ (min 65535 (s.placement.ropeOut + v.pulses.toNat)) < s.par.tendonLength ∧
        ((if (s.par.breakthrough : Int) < v.gp then s.placement.breakTime + 1 else 0) < 10 ∨ s.latched
        .breakIn = true))))
    ∧ (∃ (v : ScanSet) (s : State), s.crew.phase = .placing ∧ v.rails = 0 ∧ s.scan.railTimes = [0, 0, 0, 0,
        0, 0, 0, 0] ∧ s.trip.named = [] ∧ s.placement.breakTime < 10 ∧ s.placement.ropeOut <
        s.par.tendonLength ∧ s.placement.slackTime < 20 ∧ (s.placement.sub = some .payout ∧ s.crew.hold =
        false ∧ s.held = false ∧ (min 65535 (s.placement.ropeOut + v.pulses.toNat)) < s.par.tendonLength ∧
        ((if (s.par.breakthrough : Int) < v.gp then s.placement.breakTime + 1 else 0) < 10 ∨ s.latched
        .breakIn = true)) ∧ v.wp ≤ (s.par.pullLimit : Int))
    ∧ (∃ (v : ScanSet) (s : State), s.crew.phase = .placing ∧ v.rails = 0 ∧ s.scan.railTimes = [0, 0, 0, 0,
        0, 0, 0, 0] ∧ s.trip.named = [] ∧ s.placement.breakTime < 10 ∧ s.placement.ropeOut <
        s.par.tendonLength ∧ s.placement.slackTime < 20 ∧ (s.placement.sub = some .payout ∧ s.crew.hold =
        false ∧ s.held = false ∧ (min 65535 (s.placement.ropeOut + v.pulses.toNat)) < s.par.tendonLength ∧
        ((if (s.par.breakthrough : Int) < v.gp then s.placement.breakTime + 1 else 0) < 10 ∨ s.latched
        .breakIn = true)) ∧ (s.par.pullLimit : Int) < v.wp ∧ ((if 200 ≤ (if s.placement.sub = some .payout
        then min 200 (s.placement.cleanDist + v.pulses.toNat) else s.placement.cleanDist) then 0 else (if
        200 ≤ s.placement.cleanDist then 0 else s.placement.limitCount)) + 1) < 5)
    ∧ (∃ (v : ScanSet) (s : State), s.crew.phase = .placing ∧ v.rails = 0 ∧ s.scan.railTimes = [0, 0, 0, 0,
        0, 0, 0, 0] ∧ s.trip.named = [] ∧ s.placement.breakTime < 10 ∧ s.placement.ropeOut <
        s.par.tendonLength ∧ s.placement.slackTime < 20 ∧ (s.placement.sub = some .payout ∧ s.crew.hold =
        false ∧ s.held = false ∧ (min 65535 (s.placement.ropeOut + v.pulses.toNat)) < s.par.tendonLength ∧
        ((if (s.par.breakthrough : Int) < v.gp then s.placement.breakTime + 1 else 0) < 10 ∨ s.latched
        .breakIn = true)) ∧ (s.par.pullLimit : Int) < v.wp ∧ 5 ≤ ((if 200 ≤ (if s.placement.sub = some
        .payout then min 200 (s.placement.cleanDist + v.pulses.toNat) else s.placement.cleanDist) then 0
        else (if 200 ≤ s.placement.cleanDist then 0 else s.placement.limitCount)) + 1))
    ∧ (∃ (v : ScanSet) (s : State), s.crew.phase = .placing ∧ v.rails = 0 ∧ s.scan.railTimes = [0, 0, 0, 0,
        0, 0, 0, 0] ∧ s.trip.named = [] ∧ s.placement.breakTime < 10 ∧ s.placement.ropeOut <
        s.par.tendonLength ∧ s.placement.slackTime < 20 ∧ s.lease.state ≠ .asking)
    ∧ (∃ (v : ScanSet) (s : State), s.crew.phase = .placing ∧ v.rails = 0 ∧ s.scan.railTimes = [0, 0, 0, 0,
        0, 0, 0, 0] ∧ s.trip.named = [] ∧ s.placement.breakTime < 10 ∧ s.placement.ropeOut <
        s.par.tendonLength ∧ s.placement.slackTime < 20 ∧ ((s.placement.sub = some .payout ∧ s.crew.hold =
        false ∧ s.held = false ∧ (min 65535 (s.placement.ropeOut + v.pulses.toNat)) < s.par.tendonLength ∧
        ((if (s.par.breakthrough : Int) < v.gp then s.placement.breakTime + 1 else 0) < 10 ∨ s.latched
        .breakIn = true)) → (s.par.pullLimit : Int) < v.wp → ((if 200 ≤ (if s.placement.sub = some .payout
        then min 200 (s.placement.cleanDist + v.pulses.toNat) else s.placement.cleanDist) then 0 else (if
        200 ≤ s.placement.cleanDist then 0 else s.placement.limitCount)) + 1) < 5))
    ∧ (∃ (v : ScanSet) (s : State), s.crew.phase = .placing ∧ v.rails = 0 ∧ s.scan.railTimes = [0, 0, 0, 0,
        0, 0, 0, 0] ∧ s.trip.named = [] ∧ s.placement.breakTime < 10 ∧ s.placement.ropeOut <
        s.par.tendonLength ∧ s.placement.slackTime < 20 ∧ (s.placement.sub = some .payout ∧ s.crew.hold =
        false ∧ s.held = false ∧ (min 65535 (s.placement.ropeOut + v.pulses.toNat)) < s.par.tendonLength ∧
        ((if (s.par.breakthrough : Int) < v.gp then s.placement.breakTime + 1 else 0) < 10 ∨ s.latched
        .breakIn = true)) ∧ (s.par.pullLimit : Int) < v.wp)
    ∧ (∃ (v : ScanSet) (s : State), s.crew.phase = .placing ∧ v.rails = 0 ∧ s.scan.railTimes = [0, 0, 0, 0,
        0, 0, 0, 0] ∧ s.trip.named = [] ∧ s.placement.breakTime < 10 ∧ s.placement.ropeOut <
        s.par.tendonLength ∧ s.placement.slackTime < 20 ∧ (s.placement.sub = some .payout ∧ s.crew.hold =
        false ∧ s.held = false ∧ (min 65535 (s.placement.ropeOut + v.pulses.toNat)) < s.par.tendonLength ∧
        ((if (s.par.breakthrough : Int) < v.gp then s.placement.breakTime + 1 else 0) < 10 ∨ s.latched
        .breakIn = true)) ∧ (s.par.pullLimit : Int) < v.wp ∧ 5 ≤ ((if 200 ≤ (if s.placement.sub = some
        .payout then min 200 (s.placement.cleanDist + v.pulses.toNat) else s.placement.cleanDist) then 0
        else (if 200 ≤ s.placement.cleanDist then 0 else s.placement.limitCount)) + 1) ∧ s.latched
        .winchJam = false ∧ s.listenOnly = false)
    ∧ (∃ (v : ScanSet) (s : State), s.crew.phase = .placing ∧ v.rails = 0 ∧ s.scan.railTimes = [0, 0, 0, 0,
        0, 0, 0, 0] ∧ s.trip.named = [] ∧ s.placement.breakTime < 10 ∧ s.placement.ropeOut <
        s.par.tendonLength ∧ s.placement.slackTime < 20 ∧ (s.placement.sub = some .payout ∧ s.crew.hold =
        false ∧ s.held = false ∧ (min 65535 (s.placement.ropeOut + v.pulses.toNat)) < s.par.tendonLength ∧
        ((if (s.par.breakthrough : Int) < v.gp then s.placement.breakTime + 1 else 0) < 10 ∨ s.latched
        .breakIn = true)) ∧ (s.par.pullLimit : Int) < v.wp ∧ 5 ≤ ((if 200 ≤ (if s.placement.sub = some
        .payout then min 200 (s.placement.cleanDist + v.pulses.toNat) else s.placement.cleanDist) then 0
        else (if 200 ≤ s.placement.cleanDist then 0 else s.placement.limitCount)) + 1) ∧ s.trip.latches =
        [])
    ∧ (∃ (s : State), s.crew.phase = .placing ∧ s.named .gp = true ∧ s.breakInDue = false ∧ s.placementDue
        = false) :=
  ⟨⟨quietScan, ((placing .payout).onPlacement fun x =>
      { x with ropeOut := 499, cleanDist := 199, slackTime := 19, breakTime := 9 }).onCrew fun x =>
      { x with hold := true }, by decide⟩,
    ⟨{ quietScan with wp := 180, pulses := 1 }, (placing .payout).onPlacement fun x =>
      { x with ropeOut := 498, cleanDist := 199, slackTime := 19, breakTime := 9 }, by decide⟩,
    ⟨{ quietScan with wp := 181 }, (placing .payout).onPlacement fun x =>
      { x with limitCount := 4, cleanDist := 200 }, by decide⟩,
    ⟨{ quietScan with wp := 181 }, (placing .payout).onPlacement fun x => { x with limitCount := 4 }, by
      decide⟩,
    ⟨quietScan, placing .payout, by decide⟩,
    ⟨quietScan, placing .payout, by decide⟩,
    ⟨{ quietScan with wp := 181 }, placing .payout, by decide⟩,
    ⟨{ quietScan with wp := 181 }, (placing .payout).onPlacement fun x => { x with limitCount := 4 }, by
      decide⟩,
    ⟨{ quietScan with wp := 181, gp := 301 }, (placing .payout).onPlacement fun x =>
      { x with limitCount := 4, breakTime := 8 }, by decide⟩,
    ⟨((placing .payout).onPlacement fun x => { x with breakTime := 9 }).onTrip fun x =>
      { x with latches := [.sensorFault], named := [.gp] }, by decide⟩⟩

theorem witness_ScanInGrouting :
    ∃ (v : ScanSet) (s : State), s.crew.phase = .grouting ∧ v.rails = 0 ∧ s.scan.railTimes = [0, 0, 0, 0,
        0, 0, 0, 0] ∧ v.gp ≤ (s.par.groutMax : Int) ∧ s.trip.groutTime = 0 ∧ s.volumeDue = false ∧
        s.refusalDue = false ∧ s.fillDue = false ∧ s.grout.sagTime < 20 :=
  ⟨{ quietScan with gp := 1500, hp := 299 }, ((grouting .press).onGrout fun x =>
    { x with sagTime := 19, cleanTime := 599, volume := 399, refusalTime := 599 }).onDrives fun x =>
    { x with valve := .modulated, lamp := .slowBlink }, by decide⟩

theorem witness_ScanInARamp :
    (∃ (v : ScanSet) (s : State) (n : _), s.crew.phase = .stressing ∧ s.seq.sub = some .ramp ∧ v.rails = 0
        ∧ s.scan.railTimes = [0, 0, 0, 0, 0, 0, 0, 0] ∧ v.jp ≤ (s.par.maxJack : Int) ∧ s.trip.jackTime = 0
        ∧ ((v.jp.toNat * s.par.ramArea / 10000) ≤ s.stepTarget + max (s.par.designLoad / 100) 2 ∧
        s.stepTarget ≤ (v.jp.toNat * s.par.ramArea / 10000) + max (s.par.designLoad / 100) 2) ∧ s.stepIs
        .lockOff = true ∧ s.seq.slot = some n)
    ∧ (∃ (v : ScanSet) (s : State), s.crew.phase = .stressing ∧ s.seq.sub = some .ramp ∧ v.rails = 0 ∧
        s.scan.railTimes = [0, 0, 0, 0, 0, 0, 0, 0] ∧ v.jp ≤ (s.par.maxJack : Int) ∧ s.trip.jackTime = 0 ∧
        ((v.jp.toNat * s.par.ramArea / 10000) ≤ s.stepTarget + max (s.par.designLoad / 100) 2 ∧
        s.stepTarget ≤ (v.jp.toNat * s.par.ramArea / 10000) + max (s.par.designLoad / 100) 2) ∧ s.stepIs
        .lockOff = false ∧ s.seq.step = 0)
    ∧ (∃ (v : ScanSet) (s : State), s.crew.phase = .stressing ∧ s.seq.sub = some .ramp ∧ v.rails = 0 ∧
        s.scan.railTimes = [0, 0, 0, 0, 0, 0, 0, 0] ∧ v.jp ≤ (s.par.maxJack : Int) ∧ s.trip.jackTime = 0 ∧
        ((v.jp.toNat * s.par.ramArea / 10000) ≤ s.stepTarget + max (s.par.designLoad / 100) 2 ∧
        s.stepTarget ≤ (v.jp.toNat * s.par.ramArea / 10000) + max (s.par.designLoad / 100) 2) ∧ s.stepIs
        .lockOff = false ∧ s.stepIs .proof = true)
    ∧ (∃ (v : ScanSet) (s : State) (p : _), s.crew.phase = .stressing ∧ s.seq.sub = some .ramp ∧ v.rails =
        0 ∧ s.scan.railTimes = [0, 0, 0, 0, 0, 0, 0, 0] ∧ v.jp ≤ (s.par.maxJack : Int) ∧ s.trip.jackTime =
        0 ∧ ((v.jp.toNat * s.par.ramArea / 10000) ≤ s.stepTarget + max (s.par.designLoad / 100) 2 ∧
        s.stepTarget ≤ (v.jp.toNat * s.par.ramArea / 10000) + max (s.par.designLoad / 100) 2) ∧ s.stepIs
        .lockOff = false ∧ s.planStep = some p ∧ p.kind ≠ .proof)
    ∧ (∃ (v : ScanSet) (s : State), s.crew.phase = .stressing ∧ s.seq.sub = some .ramp ∧ v.rails = 0 ∧
        s.scan.railTimes = [0, 0, 0, 0, 0, 0, 0, 0] ∧ v.jp ≤ (s.par.maxJack : Int) ∧ s.trip.jackTime = 0 ∧
        ¬((v.jp.toNat * s.par.ramArea / 10000) ≤ s.stepTarget + max (s.par.designLoad / 100) 2 ∧
        s.stepTarget ≤ (v.jp.toNat * s.par.ramArea / 10000) + max (s.par.designLoad / 100) 2))
    ∧ (∃ (v : ScanSet) (s : State), s.crew.phase = .stressing ∧ s.seq.sub = some .holdLoad ∧ s.calmAt v ∧
        s.trip.extTime + 1 < s.par.extScans)
    ∧ (∃ (v : ScanSet) (s : State), s.crew.phase = .stressing ∧ s.calmAt v ∧ (s.seq.sub = some .waitLease ∨
        s.seq.sub = some .abortWait ∨ s.seq.sub = some .seating ∨ s.seq.sub = some .halted)) :=
  ⟨⟨{ quietScan with jp := 27300 }, (testing .ramp .holding).onSeq fun x => { x with step := 4 }, 1, by
      decide⟩,
    ⟨{ quietScan with jp := 3300 }, (testing .ramp .holding).onSeq fun x => { x with step := 0 }, by
      decide⟩,
    ⟨{ quietScan with jp := 37500 }, (testing .ramp .holding).onSeq fun x => { x with step := 2 }, by
      decide⟩,
    ⟨{ quietScan with jp := 15000 }, testing .ramp .holding, ⟨.load, 300, 60⟩, by decide⟩,
    ⟨{ quietScan with jp := 50000 }, testing .ramp .holding, by decide⟩,
    ⟨{ quietScan with ext := 30 }, (testing .holdLoad .holding).onTrip fun x => { x with extTime := 48 },
      by decide⟩,
    ⟨quietScan, testing .abortWait .idle, by decide⟩⟩

theorem witness_ScanInAnUnload :
    (∃ (v : ScanSet) (s : State), s.crew.phase = .stressing ∧ s.calmAt v ∧ (s.seq.sub = some .release ∨
        s.seq.sub = some .failUnload ∨ s.seq.sub = some .abortUnload) ∧ (500 ≤ v.jp ∨ s.named .jp = true))
    ∧ (∃ (v : ScanSet) (s : State), s.crew.phase = .stressing ∧ s.calmAt v ∧ s.seq.sub = some .release ∧
        v.jp < 500 ∧ s.named .jp = false)
    ∧ (∃ (v : ScanSet) (s : State) (n : Nat) (x : FailVerdict), s.crew.phase = .stressing ∧ s.calmAt v ∧
        s.seq.sub = some .failUnload ∧ v.jp < 500 ∧ s.named .jp = false ∧ s.seq.slot = some n ∧
        s.seq.verdict = some x ∧ s.lease.state = .holding ∧ s.request.map Request.status = some .taken)
    ∧ (∃ (v : ScanSet) (s : State) (n : Nat) (x : AbortReason), s.crew.phase = .stressing ∧ s.calmAt v ∧
        s.seq.sub = some .abortUnload ∧ v.jp < 500 ∧ s.named .jp = false ∧ s.seq.slot = some n ∧
        s.seq.abort = some x ∧ s.lease.state = .holding ∧ s.request.map Request.status = some .taken)
    ∧ (∃ (v : ScanSet) (s : State), s.crew.phase = .stressing ∧ s.calmAt v ∧ s.seq.sub = some .settle ∧
        s.seq.jack.readDue = false ∧ (s.named .lc = true ∨ s.seq.jack.settled = false ∧
        (s.seq.jack.settle.on = false ∨ s.seq.jack.settle.elapsed + 100000 < s.seq.jack.settle.limit)))
    ∧ (∃ (v : ScanSet) (s : State), s.crew.phase = .stressing ∧ s.calmAt v ∧ s.seq.sub = some .settle ∧
        s.seq.jack.readDue = false ∧ s.named .lc = false ∧ s.seq.jack.settled = false ∧
        s.seq.jack.settle.on = true ∧ s.seq.jack.settle.limit ≤ s.seq.jack.settle.elapsed + 100000)
    ∧ (∃ (v : ScanSet) (s : State) (n : Nat), s.crew.phase = .stressing ∧ s.calmAt v ∧ s.seq.sub = some
        .settle ∧ s.seq.jack.readDue = false ∧ s.named .lc = false ∧ s.seq.jack.settled = true ∧ s.seq.slot
        = some n ∧ s.lease.state = .holding ∧ s.request.map Request.status = some .taken) :=
  ⟨⟨{ quietScan with jp := 500 }, testing .release .holding, by decide⟩,
    ⟨{ quietScan with jp := 499 }, testing .release .holding, by decide⟩,
    ⟨quietScan, (testing .failUnload .holding).onSeq fun x => { x with verdict := some .failCreep }, 1,
      .failCreep, by decide⟩,
    ⟨quietScan, (testing .abortUnload .holding).onSeq fun x => { x with abort := some .stop }, 1, .stop, by
      decide⟩,
    ⟨quietScan, testing .settle .holding, by decide⟩,
    ⟨quietScan, (testing .settle .holding).onSeq fun x =>
      { x with jack := { jack with settle := ⟨true, 59900000, 60000000⟩ } }, by decide⟩,
    ⟨quietScan, (testing .settle .holding).onSeq fun x => { x with jack := { jack with settled := true } },
      1, by decide⟩⟩

theorem witness_ScanInLocked :
    (∃ (v : ScanSet) (s : State), s.crew.phase = .locked ∧ v.rails = 0 ∧ s.scan.railTimes = [0, 0, 0, 0, 0,
        0, 0, 0] ∧ s.aft.sub = some .watch ∧ s.aft.lossExcess = true)
    ∧ (∃ (v : ScanSet) (s : State), s.crew.phase = .locked ∧ v.rails = 0 ∧ s.scan.railTimes = [0, 0, 0, 0,
        0, 0, 0, 0] ∧ s.aft.sub = some .watch ∧ s.aft.lossExcess = false ∧ s.aft.lowTime <
        s.par.topUpScans)
    ∧ (∃ (v : ScanSet) (s : State), s.crew.phase = .locked ∧ v.rails = 0 ∧ s.scan.railTimes = [0, 0, 0, 0,
        0, 0, 0, 0] ∧ s.aft.sub = some .pending ∧ s.aft.recovery < s.par.topUpScans)
    ∧ (∃ (v : ScanSet) (s : State), s.crew.phase = .locked ∧ s.aft.sub = some .topUp ∧ s.calmAt v ∧
        s.aft.stage = some .lift ∧ ((v.jp.toNat * s.par.ramArea / 10000) ≤ (if s.aft.stage = some .lift
        then s.aft.before else s.lockTarget) + (max (s.par.designLoad / 100) 2) ∧ (if s.aft.stage = some
        .lift then s.aft.before else s.lockTarget) ≤ (v.jp.toNat * s.par.ramArea / 10000) + (max
        (s.par.designLoad / 100) 2)))
    ∧ (∃ (v : ScanSet) (s : State), s.crew.phase = .locked ∧ s.aft.sub = some .topUp ∧ s.calmAt v ∧
        s.aft.stage = some .lift ∧ ¬((v.jp.toNat * s.par.ramArea / 10000) ≤ (if s.aft.stage = some .lift
        then s.aft.before else s.lockTarget) + (max (s.par.designLoad / 100) 2) ∧ (if s.aft.stage = some
        .lift then s.aft.before else s.lockTarget) ≤ (v.jp.toNat * s.par.ramArea / 10000) + (max
        (s.par.designLoad / 100) 2)))
    ∧ (∃ (v : ScanSet) (s : State), s.crew.phase = .locked ∧ s.aft.sub = some .topUp ∧ s.calmAt v ∧
        s.aft.stage = some .ramp ∧ ((v.jp.toNat * s.par.ramArea / 10000) ≤ (if s.aft.stage = some .lift
        then s.aft.before else s.lockTarget) + (max (s.par.designLoad / 100) 2) ∧ (if s.aft.stage = some
        .lift then s.aft.before else s.lockTarget) ≤ (v.jp.toNat * s.par.ramArea / 10000) + (max
        (s.par.designLoad / 100) 2)))
    ∧ (∃ (v : ScanSet) (s : State), s.crew.phase = .locked ∧ s.aft.sub = some .topUp ∧ s.calmAt v ∧
        s.aft.stage = some .ramp ∧ ¬((v.jp.toNat * s.par.ramArea / 10000) ≤ (if s.aft.stage = some .lift
        then s.aft.before else s.lockTarget) + (max (s.par.designLoad / 100) 2) ∧ (if s.aft.stage = some
        .lift then s.aft.before else s.lockTarget) ≤ (v.jp.toNat * s.par.ramArea / 10000) + (max
        (s.par.designLoad / 100) 2)))
    ∧ (∃ (v : ScanSet) (s : State), s.crew.phase = .locked ∧ s.aft.sub = some .topUp ∧ s.calmAt v ∧
        (s.aft.stage = some .release ∨ s.aft.stage = some .abortUnload) ∧ (500 ≤ v.jp ∨ s.named .jp =
        true))
    ∧ (∃ (v : ScanSet) (s : State), s.crew.phase = .locked ∧ s.aft.sub = some .topUp ∧ s.calmAt v ∧
        s.aft.stage = some .release ∧ v.jp < 500 ∧ s.named .jp = false)
    ∧ (∃ (v : ScanSet) (s : State) (n : Nat), s.crew.phase = .locked ∧ s.aft.sub = some .topUp ∧ s.calmAt v
        ∧ s.aft.stage = some .abortUnload ∧ v.jp < 500 ∧ s.named .jp = false ∧ s.aft.slot = some n ∧
        s.lease.state = .holding ∧ s.request.map Request.status = some .taken)
    ∧ (∃ (v : ScanSet) (s : State), s.crew.phase = .locked ∧ s.aft.sub = some .topUp ∧ s.calmAt v ∧
        s.aft.stage = some .settle ∧ s.aft.jack.readDue = false ∧ (s.named .lc = true ∨ s.aft.jack.settled
        = false ∧ (s.aft.jack.settle.on = false ∨ s.aft.jack.settle.elapsed + 100000 <
        s.aft.jack.settle.limit)))
    ∧ (∃ (v : ScanSet) (s : State), s.crew.phase = .locked ∧ s.aft.sub = some .topUp ∧ s.calmAt v ∧
        s.aft.stage = some .settle ∧ s.aft.jack.readDue = false ∧ s.named .lc = false ∧ s.aft.jack.settled
        = false ∧ s.aft.jack.settle.on = true ∧ s.aft.jack.settle.limit ≤ s.aft.jack.settle.elapsed +
        100000)
    ∧ (∃ (v : ScanSet) (s : State) (n : Nat), s.crew.phase = .locked ∧ s.aft.sub = some .topUp ∧ s.calmAt v
        ∧ s.aft.stage = some .settle ∧ s.aft.jack.readDue = false ∧ s.named .lc = false ∧
        s.aft.jack.settled = true ∧ s.aft.slot = some n ∧ s.lease.state = .holding ∧ s.request.map
        Request.status = some .taken)
    ∧ (∃ (v : ScanSet) (s : State), s.crew.phase = .locked ∧ s.aft.sub = some .topUp ∧ s.calmAt v ∧
        (s.aft.stage = some .seating ∨ s.aft.stage = some .halted)) :=
  ⟨⟨quietScan, (locked .watch none .idle).onAft fun x => { x with lossExcess := true }, by decide⟩,
    ⟨quietScan, (locked .watch none .idle).onAft fun x => { x with lowTime := 599 }, by decide⟩,
    ⟨quietScan, (locked .pending none .asking).onAft fun x => { x with recovery := 599 }, by decide⟩,
    ⟨{ quietScan with jp := 25000 }, (locked .topUp (some .lift) .holding).onAft fun x =>
      { x with before := 500 }, by decide⟩,
    ⟨{ quietScan with jp := 20000 }, (locked .topUp (some .lift) .holding).onAft fun x =>
      { x with before := 500 }, by decide⟩,
    ⟨{ quietScan with jp := 27300 }, locked .topUp (some .ramp) .holding, by decide⟩,
    ⟨{ quietScan with jp := 27350 }, locked .topUp (some .ramp) .holding, by decide⟩,
    ⟨{ quietScan with jp := 500 }, locked .topUp (some .abortUnload) .holding, by decide⟩,
    ⟨{ quietScan with jp := 499 }, locked .topUp (some .release) .holding, by decide⟩,
    ⟨quietScan, locked .topUp (some .abortUnload) .holding, 1, by decide⟩,
    ⟨quietScan, locked .topUp (some .settle) .holding, by decide⟩,
    ⟨quietScan, (locked .topUp (some .settle) .holding).onAft fun x =>
      { x with jack := { jack with settle := ⟨true, 59900000, 60000000⟩ } }, by decide⟩,
    ⟨quietScan, (locked .topUp (some .settle) .holding).onAft fun x =>
      { x with jack := { jack with settled := true } }, 1, by decide⟩,
    ⟨quietScan, locked .topUp (some .halted) .holding, by decide⟩⟩

theorem witness_PlacementEvents :
    (∃ (s : State), s.placement.offTime.on = true ∧ s.crew.phase = .placing ∧ s.placement.sub = some
        .limitOff ∧ s.crew.hold = false)
    ∧ (∃ (s : State), s.crew.hold = true)
    ∧ (∃ (s : State), s.crew.phase = .placing ∧ s.placement.sub = some .payout ∧ 20 ≤
        s.placement.slackTime)
    ∧ (∃ (s : State), s.crew.phase = .placing ∧ 200 ≤ s.placement.cleanDist)
    ∧ (∃ (s : State), s.crew.phase = .placing ∧ s.par.tendonLength ≤ s.placement.ropeOut ∧
        (s.placement.breakTime < 10 ∨ s.latched .breakIn = true)) :=
  ⟨⟨(placing .limitOff).onPlacement fun x => { x with offTime := .start 1000000 }, by decide⟩,
    ⟨(site .cured).onCrew fun x => { x with hold := true }, by decide⟩,
    ⟨(placing .payout).onPlacement fun x => { x with slackTime := 20 }, by decide⟩,
    ⟨(placing .payout).onPlacement fun x => { x with cleanDist := 200 }, by decide⟩,
    ⟨(placing .payout).onPlacement fun x => { x with ropeOut := 500, breakTime := 9 }, by decide⟩⟩

theorem witness_GroutingEvents :
    (∃ (s : State), s.crew.phase = .grouting ∧ s.grout.sub = some .fill ∧ s.grout.testsOpen = true ∧
        s.par.holeVolume * s.par.fillFactor / 10 ≤ s.grout.volume ∧ s.grout.volume < 10 *
        s.par.volumeLimit)
    ∧ (∃ (r : GroutResult) (c : Instr) (s : State), s.crew.phase = .grouting ∧ s.grout.testsOpen = true ∧
        ((c = .volumeLimit ∧ r = .volumeLimit ∧ (s.grout.sub = some .fill ∨ s.grout.sub = some .press) ∧ 10
        * s.par.volumeLimit ≤ s.grout.volume) ∨ (c = .refusal ∧ r = .refusal ∧ s.grout.sub = some .press ∧
        s.grout.volume < 10 * s.par.volumeLimit ∧ 600 * s.par.refusalTime ≤ s.grout.refusalTime)))
    ∧ (∃ (s : State), s.crew.phase = .grouting ∧ (s.grout.sub = some .fill ∨ s.grout.sub = some .press) ∧
        20 ≤ s.grout.sagTime ∧ s.volumeDue = false ∧ s.refusalDue = false ∧ s.fillDue = false)
    ∧ (∃ (x : GroutSub) (s : State), s.grout.yieldTimer.on = true ∧ s.crew.phase = .grouting ∧ s.grout.sub
        = some .yielding ∧ s.grout.left = some x)
    ∧ (∃ (s : State), s.crew.phase = .grouting ∧ (s.grout.sub = some .fill ∨ s.grout.sub = some .press) ∧
        600 ≤ s.grout.cleanTime) :=
  ⟨⟨(grouting .fill).onGrout fun x => { x with volume := 130 }, by decide⟩,
    ⟨.refusal, .refusal, (grouting .press).onGrout fun x => { x with volume := 399, refusalTime := 600 },
      by decide⟩,
    ⟨(grouting .press).onGrout fun x => { x with sagTime := 20, yieldCount := 3 }, by decide⟩,
    ⟨.press, (grouting .yielding).onGrout fun x =>
      { x with left := some .press, yieldTimer := .start 22000000 }, by decide⟩,
    ⟨(grouting .fill).onGrout fun x => { x with cleanTime := 600 }, by decide⟩⟩

theorem witness_SettingAndCuring :
    (∃ (s : State), s.crew.phase = .setting ∧ s.grout.watch = .armed ∧ 10 ≤ s.grout.breakTime)
    ∧ (∃ (s : State), s.grout.setTimer.on = true ∧ s.crew.phase = .setting ∧ s.lease.state = .idle)
    ∧ (∃ (s : State), s.grout.cureTimer.on = true ∧ s.crew.phase = .curing)
    ∧ (∃ (v : ScanSet) (s : State), s.crew.phase = .setting ∧ v.rails = 0 ∧ s.scan.railTimes = [0, 0, 0, 0,
        0, 0, 0, 0] ∧ s.grout.breakTime < 10) :=
  ⟨⟨(site .setting).onGrout fun x => { x with watch := .armed, breakTime := 10 }, by decide⟩,
    ⟨(site .setting).onGrout fun x => { x with setTimer := .start 9 }, by decide⟩,
    ⟨(site .curing).onGrout fun x => { x with cureTimer := .start 9 }, by decide⟩,
    ⟨{ quietScan with gp := 301 }, (site .setting).onGrout fun x =>
      { x with watch := .armed, breakTime := 9 }, by decide⟩⟩

theorem witness_HoldsOfATestEnd :
    (∃ (n : Nat) (s : State), s.crew.phase = .stressing ∧ s.seq.sub = some .holdLoad ∧ s.seq.holdTimer.on =
        true ∧ (s.stepIs .load = true ∨ s.stepIs .unload = true) ∧ s.seq.slot = some n ∧ s.lease.state =
        .holding ∧ s.request.map Request.status = some .taken)
    ∧ (∃ (n : Nat) (s : State), s.crew.phase = .stressing ∧ s.seq.sub = some .holdLoad ∧ s.seq.step = 0 ∧
        s.seq.holdTimer.on = true ∧ s.seq.slot = some n ∧ ((s.scan.ext - s.seq.alignRead).natAbs < 20 ∨ 9 ≤
        s.seq.checks) ∧ s.lease.state = .holding ∧ s.request.map Request.status = some .taken)
    ∧ (∃ (s : State), s.crew.phase = .stressing ∧ s.seq.sub = some .holdLoad ∧ s.seq.step = 0 ∧
        s.seq.holdTimer.on = true ∧ 20 ≤ (s.scan.ext - s.seq.alignRead).natAbs ∧ s.seq.checks < 9)
    ∧ (∃ (s : State), { s with lease := { s.lease with state := .idle } }.wouldTake false ∧
        s.presentMembers ≠ [] ∧ s.crew.phase = .stressing ∧ s.listenOnly = false) :=
  ⟨⟨1, testing .holdLoad .holding, by decide⟩,
    ⟨1, (testing .holdLoad .holding).onSeq fun x => { x with step := 0, alignRead := 19 }, by decide⟩,
    ⟨(testing .holdLoad .holding).onSeq fun x => { x with step := 0, alignRead := 20, checks := 8 }, by
      decide⟩,
    ⟨testing .ramp .holding, by decide⟩⟩

theorem witness_ProofReadingsAndTheirChecks :
    (∃ (n k mark : Nat) (s : State), s.crew.phase = .stressing ∧ s.seq.sub = some .holdLoad ∧ s.stepIs
        .proof = true ∧ s.seq.holdTimer.on = true ∧ s.seq.slot = some n ∧ s.seq.readings = k ∧ [60, 120,
        180, 300, 600, 900, 1200, 1800, 2700, 3600][k]? = some mark ∧ (k < 6 ∨ s.seq.extended = true) ∧
        s.lease.state = .holding ∧ s.request.map Request.status = some .taken ∧ (k ≠ 0 ∧ k ≠ 5 ∧ k ≠ 9 ∨ k
        = 0 ∧ (s.par.extMin : Int) ≤ s.testExt ∧ s.testExt ≤ (s.par.extMax : Int)))
    ∧ (∃ (n k mark : Nat) (s : State), s.crew.phase = .stressing ∧ s.seq.sub = some .holdLoad ∧ s.stepIs
        .proof = true ∧ s.seq.holdTimer.on = true ∧ s.seq.slot = some n ∧ s.seq.readings = k ∧ [60, 120,
        180, 300, 600, 900, 1200, 1800, 2700, 3600][k]? = some mark ∧ (k < 6 ∨ s.seq.extended = true) ∧
        s.lease.state = .holding ∧ s.request.map Request.status = some .taken ∧ k = 0 ∧ (s.testExt <
        (s.par.extMin : Int) ∨ (s.par.extMax : Int) < s.testExt))
    ∧ (∃ (n k mark : Nat) (s : State), s.crew.phase = .stressing ∧ s.seq.sub = some .holdLoad ∧ s.stepIs
        .proof = true ∧ s.seq.holdTimer.on = true ∧ s.seq.slot = some n ∧ s.seq.readings = k ∧ [60, 120,
        180, 300, 600, 900, 1200, 1800, 2700, 3600][k]? = some mark ∧ (k < 6 ∨ s.seq.extended = true) ∧
        s.lease.state = .holding ∧ s.request.map Request.status = some .taken ∧ k = 5 ∧ (s.par.creepLimit :
        Int) < s.testExt - s.seq.ext5.getD 0)
    ∧ (∃ (n k mark : Nat) (s : State), s.crew.phase = .stressing ∧ s.seq.sub = some .holdLoad ∧ s.stepIs
        .proof = true ∧ s.seq.holdTimer.on = true ∧ s.seq.slot = some n ∧ s.seq.readings = k ∧ [60, 120,
        180, 300, 600, 900, 1200, 1800, 2700, 3600][k]? = some mark ∧ (k < 6 ∨ s.seq.extended = true) ∧
        s.lease.state = .holding ∧ s.request.map Request.status = some .taken ∧ k = 9 ∧ (s.par.creepLimit :
        Int) < s.testExt - s.seq.ext15.getD 0)
    ∧ (∃ (n k mark : Nat) (s : State), s.crew.phase = .stressing ∧ s.seq.sub = some .holdLoad ∧ s.stepIs
        .proof = true ∧ s.seq.holdTimer.on = true ∧ s.seq.slot = some n ∧ s.seq.readings = k ∧ [60, 120,
        180, 300, 600, 900, 1200, 1800, 2700, 3600][k]? = some mark ∧ (k < 6 ∨ s.seq.extended = true) ∧
        s.lease.state = .holding ∧ s.request.map Request.status = some .taken ∧ (k = 5 ∧ s.testExt -
        s.seq.ext5.getD 0 ≤ (s.par.creepLimit : Int) ∨ k = 9 ∧ s.testExt - s.seq.ext15.getD 0 ≤
        (s.par.creepLimit : Int))) :=
  ⟨⟨1, 3, 300, ((testing .holdLoad .holding).onSeq fun x => { x with step := 2, readings := 3 }).onScan fun
      x => { x with ext := 2000 }, by decide⟩,
    ⟨1, 0, 60, ((testing .holdLoad .holding).onSeq fun x => { x with step := 2 }).onScan fun x =>
      { x with ext := 1999 }, by decide⟩,
    ⟨1, 5, 900, ((testing .holdLoad .holding).onSeq fun x =>
      { x with step := 2, readings := 5, ext5 := some 1899 }).onScan fun x => { x with ext := 2000 }, by
      decide⟩,
    ⟨1, 9, 3600, ((testing .holdLoad .holding).onSeq fun x =>
      { x with step := 2, readings := 9, extended := true, ext15 := some 1899 }).onScan fun x =>
      { x with ext := 2000 }, by decide⟩,
    ⟨1, 9, 3600, ((testing .holdLoad .holding).onSeq fun x =>
      { x with step := 2, readings := 9, extended := true, ext15 := some 1900 }).onScan fun x =>
      { x with ext := 2000 }, by decide⟩⟩

theorem witness_RampAndUnloadLimitsLatch :
    (∃ (s : State), s.crew.hold = false ∧ s.crew.phase = .stressing ∧ s.seq.sub = some .ramp ∧
        s.seq.jack.ramp.on = true)
    ∧ (∃ (s : State), s.crew.hold = false ∧ s.crew.phase = .stressing ∧ s.seq.sub = some .ramp ∧
        s.seq.jack.ramp.on = true ∧ s.lease.state = .holding ∧ s.latched .rampStall = false ∧
        s.trip.latches = [])
    ∧ (∃ (s : State), s.crew.hold = false ∧ s.crew.phase = .locked ∧ s.aft.sub = some .topUp ∧ (s.aft.stage
        = some .lift ∨ s.aft.stage = some .ramp) ∧ s.aft.jack.ramp.on = true)
    ∧ (∃ (s : State), s.crew.hold = false ∧ s.crew.phase = .stressing ∧ (s.seq.sub = some .release ∨
        s.seq.sub = some .failUnload ∨ s.seq.sub = some .abortUnload) ∧ s.seq.jack.unload.on = true ∧
        s.seq.jack.lower = true ∧ s.lease.state = .holding ∧ s.latched .rampStall = false)
    ∧ (∃ (s : State), s.crew.hold = false ∧ s.crew.phase = .locked ∧ s.aft.sub = some .topUp ∧ (s.aft.stage
        = some .release ∨ s.aft.stage = some .abortUnload) ∧ s.aft.jack.unload.on = true ∧ s.aft.jack.lower
        = true ∧ s.lease.state = .holding ∧ s.latched .rampStall = false)
    ∧ (∃ (s : State), s.crew.hold = true)
    ∧ (∃ (s : State), s.reliefOpen = false) :=
  ⟨⟨testing .ramp .holding, by decide⟩,
    ⟨testing .ramp .holding, by decide⟩,
    ⟨locked .topUp (some .lift) .holding, by decide⟩,
    ⟨(testing .failUnload .holding).onSeq fun x => { x with jack := { jack with lower := true } }, by
      decide⟩,
    ⟨(locked .topUp (some .abortUnload) .holding).onAft fun x =>
      { x with jack := { jack with lower := true } }, by decide⟩,
    ⟨(site .cured).onCrew fun x => { x with hold := true }, by decide⟩,
    ⟨testing .release .holding, by decide⟩⟩

theorem witness_LockOffSeatsAndSettles :
    (∃ (s : State), s.crew.phase = .stressing ∧ s.seq.sub = some .seating ∧ s.seq.jack.seating.on = true)
    ∧ (∃ (n : Nat) (s : State), s.crew.phase = .stressing ∧ s.seq.sub = some .settle ∧ s.seq.jack.settle.on
        = true ∧ s.seq.jack.readDue = true ∧ s.seq.slot = some n ∧ s.lease.state = .holding ∧ s.request.map
        Request.status = some .taken)
    ∧ (∃ (s : State), s.crew.phase = .stressing ∧ s.seq.sub = some .settle ∧ s.seq.jack.settle.on = true ∧
        s.seq.jack.readDue = false)
    ∧ (∃ (s : State), s.crew.phase = .stressing)
    ∧ (∃ (s : State), (s.scan.lc.toNat * 100 < s.stepTarget * (100 - s.par.lockTol))) :=
  ⟨⟨testing .seating .holding, by decide⟩,
    ⟨1, (testing .settle .holding).onSeq fun x =>
      { x with step := 4, jack := { jack with readDue := true } }, by decide⟩,
    ⟨testing .settle .holding, by decide⟩,
    ⟨testing .settle .holding, by decide⟩,
    ⟨((testing .settle .holding).onSeq fun x => { x with step := 4 }).onScan fun x => { x with lc := 512 },
      by decide⟩⟩

theorem witness_AftercareEvents :
    (∃ (n : Nat) (s : State), s.crew.phase = .locked ∧ s.aft.sub = some .watch ∧ s.aft.lossExcess = false ∧
        0 < s.aft.lowTime ∧ s.par.topUpScans ≤ s.aft.lowTime ∧ s.aft.count < 3 ∧ s.aft.slot = some n ∧
        s.wouldTake false ∧ s.presentMembers ≠ [])
    ∧ (∃ (n : Nat) (s : State), s.crew.phase = .locked ∧ s.aft.sub = some .watch ∧ s.aft.lossExcess = false
        ∧ 0 < s.aft.lowTime ∧ s.par.topUpScans ≤ s.aft.lowTime ∧ s.aft.count = 3 ∧ s.aft.slot = some n)
    ∧ (∃ (s : State), s.crew.phase = .locked ∧ s.aft.sub = some .pending ∧ 0 < s.aft.recovery ∧
        s.par.topUpScans ≤ s.aft.recovery ∧ s.lease.state = .idle)
    ∧ (∃ (s : State), s.crew.phase = .locked ∧ s.aft.sub = some .topUp ∧ s.aft.stage = some .seating ∧
        s.aft.jack.seating.on = true)
    ∧ (∃ (n : Nat) (s : State), s.crew.phase = .locked ∧ s.aft.sub = some .topUp ∧ s.aft.stage = some
        .settle ∧ s.aft.jack.settle.on = true ∧ s.aft.jack.readDue = true ∧ s.aft.slot = some n ∧
        s.lease.state = .holding ∧ s.request.map Request.status = some .taken)
    ∧ (∃ (s : State), s.crew.phase = .locked ∧ s.aft.sub = some .topUp ∧ s.aft.stage = some .settle ∧
        s.aft.jack.settle.on = true ∧ s.aft.jack.readDue = false)
    ∧ (∃ (s : State), s.crew.phase = .locked ∧ s.aft.sub = some .watch ∧ s.aft.lossExcess = false ∧ 0 <
        s.aft.lowTime ∧ s.par.topUpScans ≤ s.aft.lowTime ∧ s.aft.count < 3 ∧ s.aft.slot ≠ none)
    ∧ (∃ (s : State) (m : _), s.crew.phase = .locked ∧ s.aft.sub = some .watch ∧ s.aft.lossExcess = false ∧
        0 < s.aft.lowTime ∧ s.par.topUpScans ≤ s.aft.lowTime ∧ s.aft.count < 3 ∧ s.aft.slot = none ∧
        s.chooseSlot = some m)
    ∧ (∃ (s : State), s.crew.phase = .locked ∧ s.aft.sub = some .watch ∧ s.aft.lossExcess = false ∧ 0 <
        s.aft.lowTime ∧ s.par.topUpScans ≤ s.aft.lowTime ∧ s.aft.count < 3 ∧ s.aft.slot = none ∧
        s.chooseSlot = none)
    ∧ (∃ (s : State), s.crew.phase = .locked ∧ s.aft.sub = some .watch ∧ s.aft.lossExcess = false ∧ 0 <
        s.aft.lowTime ∧ s.par.topUpScans ≤ s.aft.lowTime ∧ s.aft.count = 3 ∧ s.aft.slot = none)
    ∧ (∃ (s : State), s.crew.phase = .locked ∧ s.aft.sub = some .pending ∧ 0 < s.aft.recovery ∧
        s.par.topUpScans ≤ s.aft.recovery ∧ s.lease.state = .asking ∧ s.listenOnly = false)
    ∧ (∃ (s : State), s.crew.phase = .locked ∧ s.aft.sub = some .pending ∧ s.lease.state = .asking ∧ 0 <
        s.aft.recovery ∧ s.par.topUpScans ≤ s.aft.recovery ∧ s.listenOnly = true) :=
  ⟨⟨1, (locked .watch none .idle).onAft fun x => { x with lowTime := 600, count := 2 }, by decide⟩,
    ⟨1, (locked .watch none .idle).onAft fun x => { x with lowTime := 600, count := 3 }, by decide⟩,
    ⟨(locked .pending none .idle).onAft fun x => { x with recovery := 600 }, by decide⟩,
    ⟨locked .topUp (some .seating) .holding, by decide⟩,
    ⟨1, (locked .topUp (some .settle) .holding).onAft fun x =>
      { x with jack := { jack with readDue := true } }, by decide⟩,
    ⟨locked .topUp (some .settle) .holding, by decide⟩,
    ⟨(locked .watch none .idle).onAft fun x => { x with lowTime := 600, count := 2 }, by decide⟩,
    ⟨(locked .watch none .idle).onAft fun x => { x with lowTime := 600, count := 2, slot := none }, 2, by
      decide⟩,
    ⟨((locked .watch none .idle).onAft fun x => { x with lowTime := 600, slot := none }).onStore fun x =>
      { x with image := { Contents.factory with slots := List.replicate 8 (some closedSlot) } }, by decide⟩,
    ⟨(locked .watch none .idle).onAft fun x => { x with lowTime := 600, count := 3, slot := none }, by
      decide⟩,
    ⟨(locked .pending none .asking).onAft fun x => { x with recovery := 600 }, by decide⟩,
    ⟨((locked .pending none .asking).onAft fun x => { x with recovery := 600 }).onTrip fun x =>
      { x with latches := [.lineJabber] }, by decide⟩⟩

theorem witness_StorePinQueueAndRetries :
    (∃ (j : Job) (rest : List Job) (s : State), s.store.queue = j :: rest)
    ∧ (∃ (s : State), s.store.queue = [])
    ∧ (∃ (s : State), (s.pendingTopUp = false ∨ s.waitsWith (some .storeFull) = false))
    ∧ (∃ (j : Job) (s : State), acceptsJob s.store.image j = true ∧ s.store.queue.length < 4)
    ∧ (∃ (j : Job) (s : State), acceptsJob s.store.image j = false)
    ∧ (∃ (s : State), (s.pendingTopUp = false ∨ s.waitsWith (some .storeFull) = false))
    ∧ (∃ (s : State), s.crew.phase = .locked ∧ s.aft.sub = some .pending ∧ s.waitsWith (some .storeFull) =
        true ∧ s.aft.slot = none ∧ s.chooseSlot = none)
    ∧ (∃ (n : Nat) (s : State), s.crew.phase = .locked ∧ s.aft.sub = some .pending ∧ s.lease.state = .idle
        ∧ s.waitsWith (some .storeFull) = true ∧ s.aft.slot = none ∧ s.chooseSlot = some n ∧
        (s.aft.recovery = 0 ∨ s.aft.recovery < s.par.topUpScans))
    ∧ (∃ (n : Nat) (s : State), s.crew.phase = .locked ∧ s.aft.sub = some .pending ∧ s.lease.state = .idle
        ∧ s.waitsWith (some .storeFull) = true ∧ s.aft.slot = none ∧ s.chooseSlot = some n ∧ 0 <
        s.aft.recovery ∧ s.par.topUpScans ≤ s.aft.recovery) :=
  ⟨⟨.exported 1, [], (site .cured).onStore fun _ => { storeOf closedSlot with queue := [.exported 1] }, by
      decide⟩,
    ⟨site .cured, by decide⟩,
    ⟨site .cured, by decide⟩,
    ⟨.exported 1, (site .cured).onStore fun _ =>
      { storeOf closedSlot with queue := [.exported 1, .exported 1, .exported 1] }, by decide⟩,
    ⟨.exported 1, site .cured, by decide⟩,
    ⟨site .cured, by decide⟩,
    ⟨((locked .pending none .idle).onAft fun x =>
      { x with request := some ⟨.restore, false, .waiting (some .storeFull)⟩, slot := none }).onStore fun x
      => { x with image := { Contents.factory with slots := List.replicate 8 (some closedSlot) } }, by
      decide⟩,
    ⟨2, (locked .pending none .idle).onAft fun x =>
      { x with request := some ⟨.restore, false, .waiting (some .storeFull)⟩, slot := none }, by decide⟩,
    ⟨2, (locked .pending none .idle).onAft fun x =>
      { x with request := some ⟨.restore, false, .waiting (some .storeFull)⟩, slot := none, recovery := 600 },
      by decide⟩⟩

theorem witness_SlotsAreChosenAndOpened :
    (∃ s : State, s.chooseSlot = some 8 ∧ s.store.image.slots[7]? = some none)
    ∧ (∃ s : State, s.chooseSlot = some 2 ∧ ∀ x ∈ s.store.image.slots, x ≠ none)
    ∧ (∃ s : State, s.chooseSlot = some 3 ∧ ∀ x ∈ s.store.image.slots, slotAborted x = false ∧ x ≠ none)
    ∧ (∃ s : State, s.chooseSlot = none)
    ∧ (∃ (n : Nat) (s : State), 1 ≤ n ∧ n ≤ 8 ∧ s.store.image.slots.length = 8) :=
  ⟨⟨withSlots (List.replicate 7 (some closedSlot) ++ [none]), by decide⟩,
    ⟨withSlots [some closedSlot, some { closedSlot with verdict := some (.aborted .stop) }], by decide⟩,
    ⟨withSlots
        [some closedSlot, some { closedSlot with exported := true, label := [66], number := 9 },
          some { closedSlot with exported := true, label := [66], number := 2 }], by decide⟩,
    ⟨withSlots (List.replicate 8 (some closedSlot)), by decide⟩, ⟨8, site .cured, by decide⟩⟩

theorem witness_StoreStaysSound :
    (∃ (c : Instr) (s t : State), (∀ a b d, c ≠ .powerOn a b d) ∧ c ≠ .storeScanEnd ∧ exec c s = .next t
      ∧ s.store.sound)
    ∧ (∃ (s t : State), exec .storeScanEnd s = .next t ∧ s.storeStands ∧ s.crew.stage = .storeScan)
    ∧ (∃ (c : Instr) (s t : State), exec c s = .next t ∧ s.storeStands ∧ s.crew.stage = .online) :=
  ⟨⟨.writeJobComplete, locked .watch none .idle, _, (by intro a b d h; cases h), by decide, rfl,
      rfl, by decide, by decide⟩,
    ⟨after (.powerOn 1 true false) { State.reset with store := storeOf openSlot }, _, rfl,
      ⟨.inl rfl, rfl, rfl, by decide⟩, by decide⟩,
    ⟨.go, site .cured, _, rfl, ⟨rfl, by decide, by decide⟩, by decide⟩⟩

theorem witness_DeferredListIsAnswered :
    (∃ (c : Instr) (s t : State), exec c s = .next t ∧ s.listAnswered)
    ∧ (∃ (c : Instr) (s t : State), exec c s = .next t ∧ s.onePerNeighbour) :=
  ⟨⟨.go, { grouting .fill with lease := { Lease.reset with deferred := [⟨2, .advance, 5⟩] } }, _, rfl,
      by intro _ h; cases h⟩,
    ⟨.go, site .cured, _, rfl, by decide, by decide, by intro es n h; cases h⟩⟩

theorem witness_LeaseFitsTheWork :
    (∃ (c : Instr) (s t : State), exec c s = .next t ∧ s.leaseFits ∧ s.lease.state = .idle)
    ∧ (∃ (c : Instr) (s t : State), exec c s = .next t ∧ s.leaseFits ∧ s.lease.state = .asking)
    ∧ (∃ (c : Instr) (s t : State), exec c s = .next t ∧ s.leaseFits ∧ s.lease.state = .holding) :=
  ⟨⟨.go, testing .waitLease .idle, _, rfl, ⟨by decide, by decide, by decide⟩, rfl⟩,
    ⟨.go, locked .pending none .asking, _, rfl, ⟨by decide, by decide, by decide⟩, rfl⟩,
    ⟨.go, testing .ramp .holding, _, rfl, ⟨by decide, by decide, by decide⟩, rfl⟩⟩

theorem witness_BindingRosterAndClockStand :
    ∃ (c : Instr) (s t : State) (b : Binding), (∀ a b d, c ≠ .powerOn a b d) ∧ exec c s = .next t
      ∧ s.binding = some b :=
  ⟨.go, site .cured, _, bnd, (by intro a b d h; cases h), rfl, rfl⟩

end Sys2Proof.Tests
end

/-! SUPPORT. The backoff generator (R9): its step and its draw as functions of the register, and that no operation
but the collision and power-on writes the register: one lemma per operation, in the order of the model's files. -/

namespace Sys2Proof.Machine

/-! ## The step and the draw (R9) -/

/-- The positions above the least significant take the bit one place below. -/
theorem rngStep_getLsbD_succ (r : Half) {i : Nat} (hi : i < 15) :
    (rngStep r).getLsbD (i + 1) = r.getLsbD i := by
  have hbit (b : Bool) : (if b then 1#16 else 0#16).getLsbD (i + 1) = false := by
    cases b <;> simp [BitVec.getLsbD_one]
  simp only [rngStep, BitVec.getLsbD_or, BitVec.getLsbD_shiftLeft, hbit]
  simp [show i + 1 < 16 by omega]

/-- The least significant position takes the exclusive-or of positions 16, 14, 13 and 11. -/
theorem rngStep_getLsbD_zero (r : Half) :
    (rngStep r).getLsbD 0 = (((r.getLsbD 15 ^^ r.getLsbD 13) ^^ r.getLsbD 12) ^^ r.getLsbD 10) := by
  have hbit (b : Bool) : (if b then 1#16 else 0#16).getLsbD 0 = b := by cases b <;> rfl
  simp only [rngStep, BitVec.getLsbD_or, BitVec.getLsbD_shiftLeft, hbit]
  simp

/-- A step loses nothing: positions 1 to 15 stand one place higher, and position 16 is recovered from the new
least significant bit. -/
theorem rngStep_injective : Function.Injective rngStep := by
  intro r1 r2 h
  have hlow (i : Nat) (hi : i < 15) : r1.getLsbD i = r2.getLsbD i := by
    rw [← rngStep_getLsbD_succ r1 hi, h, rngStep_getLsbD_succ r2 hi]
  have htop : r1.getLsbD 15 = r2.getLsbD 15 := by
    have h0 := congrArg (fun r => r.getLsbD 0) h
    simpa only [rngStep_getLsbD_zero, hlow 13 (by decide), hlow 12 (by decide), hlow 10 (by decide),
      Bool.xor_left_inj] using h0
  refine BitVec.eq_of_getLsbD_eq fun i hi => ?_
  rcases Nat.lt_succ_iff_lt_or_eq.1 hi with hi | rfl
  · exact hlow i hi
  · exact htop

theorem rngStep_zero : rngStep 0 = 0 := by decide

theorem rngStep_ne_zero {r : Half} (hr : r ≠ 0) : rngStep r ≠ 0 := fun h =>
  hr (rngStep_injective (h.trans rngStep_zero.symm))

/-- A draw is the step taken sixteen times. -/
theorem rngDraw_eq_iterate (r : Half) : rngDraw r = rngStep^[16] r := by
  simp [rngDraw, List.foldl_const]

theorem rngDraw_injective : Function.Injective rngDraw := by
  rw [show rngDraw = rngStep^[16] from funext rngDraw_eq_iterate]
  exact rngStep_injective.iterate 16

/-- The load at power-on (R9). -/
theorem Lif.reset_rng_toNat (straps : BitVec 6) :
    (Lif.reset straps).rng.toNat =
      if 1 ≤ straps.toNat ∧ straps.toNat ≤ 62 then 40000 + straps.toNat else 40000 := by
  have hlt := straps.isLt
  have h0 : straps = 0 ↔ straps.toNat = 0 := by rw [← BitVec.toNat_inj]; rfl
  have h63 : straps = 63 ↔ straps.toNat = 63 := by rw [← BitVec.toNat_inj]; rfl
  simp only [Lif.reset, h0, h63]
  split
  · rw [if_neg (by omega)]; rfl
  · rw [if_pos (by omega), BitVec.toNat_add, BitVec.toNat_setWidth]
    show (40000 + straps.toNat % 65536) % 65536 = 40000 + straps.toNat
    omega

/-! ## The end of an event, time, slots and the store -/

theorem State.startTx_lif_of_busy {s : State} (h : s.lif.tx ≠ .free) : s.startTx.lif = s.lif := by
  unfold State.startTx
  rw [if_neg (by simp [h])]

/-- The end of an event leaves a transmitter that is at work (R7). -/
theorem State.finish_lif_of_busy {s : State} (h : s.lif.tx ≠ .free) : s.finish.lif = s.lif := by
  rw [State.finish_lif, State.startTx_lif_of_busy (s := s.clearTimes) h]
  rfl

@[simp] theorem State.startTx_lif_rng (s : State) : s.startTx.lif.rng = s.lif.rng := by
  unfold State.startTx; split <;> rfl

@[simp] theorem State.finish_lif_rng (s : State) : s.finish.lif.rng = s.lif.rng := by
  rw [State.finish_lif, State.startTx_lif_rng]; rfl

@[simp] theorem State.expire_lif_rng (t : Timer) (s : State) : (s.expire t).lif.rng = s.lif.rng := rfl

@[simp] theorem State.handOver_lif_rng (j : Job) (s : State) : (s.handOver j).lif.rng = s.lif.rng := by
  unfold State.handOver; split <;> rfl

@[simp] theorem State.openSlot_lif_rng (k : SlotKind) (n : Nat) (s : State) :
    (s.openSlot k n).lif.rng = s.lif.rng := State.handOver_lif_rng _ s

@[simp] theorem State.placeAsk_lif_rng (f : AskFrame) (s : State) : (s.placeAsk f).lif.rng = s.lif.rng := by
  unfold State.placeAsk; split <;> rfl

@[simp] theorem State.placeAlert_lif_rng (a : Alert) (s : State) : (s.placeAlert a).lif.rng = s.lif.rng := by
  unfold State.placeAlert; split <;> rfl

@[simp] theorem State.placeBeacon_lif_rng (b : Beacon) (s : State) :
    (s.placeBeacon b).lif.rng = s.lif.rng := by
  unfold State.placeBeacon; split <;> rfl

@[simp] theorem State.addReply_lif_rng (e : ReplyEntry) (s : State) : (s.addReply e).lif.rng = s.lif.rng := by
  unfold State.addReply; split <;> rfl

@[simp] theorem State.pushReport_lif_rng (dst : Byte) (r : Report) (s : State) :
    (s.pushReport dst r).lif.rng = s.lif.rng := rfl

@[simp] theorem State.restartQuiet_lif_rng (s : State) : s.restartQuiet.lif.rng = s.lif.rng := rfl

/-! ## The lease -/

@[simp] theorem State.raiseClock_lif_rng (v : Stamp) (s : State) : (s.raiseClock v).lif.rng = s.lif.rng := rfl

@[simp] theorem State.grantThose_lif_rng (p : Deferred → Bool) (s : State) :
    (s.grantThose p).lif.rng = s.lif.rng := by
  rw [State.grantThose_eq]

@[simp] theorem State.grantDeferred_lif_rng (s : State) : s.grantDeferred.lif.rng = s.lif.rng := by
  unfold State.grantDeferred; split_ifs <;> simp

@[simp] theorem State.toIdle_lif_rng (s : State) : s.toIdle.lif.rng = s.lif.rng := by
  simp [State.toIdle]

@[simp] theorem State.setRequest_lif_rng (r : Option Request) (s : State) :
    (s.setRequest r).lif.rng = s.lif.rng := by
  unfold State.setRequest; split_ifs <;> rfl

@[simp] theorem State.setStatus_lif_rng (st : RequestStatus) (s : State) :
    (s.setStatus st).lif.rng = s.lif.rng := State.setRequest_lif_rng _ s

@[simp] theorem State.withdrawFor_lif_rng (h : HoldReason) (s : State) :
    (s.withdrawFor h).lif.rng = s.lif.rng := by
  unfold State.withdrawFor; split <;> simp

@[simp] theorem State.withdrawGone_lif_rng (s : State) : s.withdrawGone.lif.rng = s.lif.rng := by
  unfold State.withdrawGone; split <;> simp

/-! ## Latches -/

@[simp] theorem State.blocksAtLatch_lif_rng (s : State) : s.blocksAtLatch.lif.rng = s.lif.rng := rfl

@[simp] theorem State.announce_lif_rng (s : State) : s.announce.lif.rng = s.lif.rng := by
  unfold State.announce; split <;> simp

@[simp] theorem Lif.dropSlots_rng (l : Lif) : l.dropSlots.rng = l.rng := rfl

@[simp] theorem State.setLatch_lif_rng (l : Latch) (v : Half) (ch : Option Channel) (s : State) :
    (s.setLatch l v ch).lif.rng = s.lif.rng := by
  unfold State.setLatch; dsimp only; split <;> simp

@[simp] theorem State.latch_lif_rng (l : Latch) (v : Half) (s : State) : (s.latch l v).lif.rng = s.lif.rng := by
  unfold State.latch; split <;> simp

@[simp] theorem State.nameChannel_lif_rng (c : Channel) (s : State) :
    (s.nameChannel c).lif.rng = s.lif.rng := by
  unfold State.nameChannel; split <;> simp

/-! ## Requests -/

@[simp] theorem State.enterUnload_lif_rng (x : SeqSub) (s : State) : (s.enterUnload x).lif.rng = s.lif.rng := rfl

@[simp] theorem State.enterTopUpUnload_lif_rng (x : TopUpStage) (s : State) :
    (s.enterTopUpUnload x).lif.rng = s.lif.rng := rfl

@[simp] theorem State.toldHolding_lif_rng (s : State) : s.toldHolding.lif.rng = s.lif.rng := by
  unfold State.toldHolding; split_ifs <;> rfl

@[simp] theorem State.enterHolding_lif_rng (s : State) : s.enterHolding.lif.rng = s.lif.rng := by
  simp [State.enterHolding]

@[simp] theorem State.sendAsk_lif_rng (s : State) : s.sendAsk.lif.rng = s.lif.rng := by
  unfold State.sendAsk; split <;> simp

@[simp] theorem State.take_lif_rng (r : Request) (s : State) : (s.take r).lif.rng = s.lif.rng := by
  unfold State.take; dsimp only; split <;> simp

@[simp] theorem State.present_lif_rng (s : State) : s.present.lif.rng = s.lif.rng := by
  unfold State.present
  split
  · rfl
  · split <;> simp

@[simp] theorem State.presentWaiting_lif_rng (h : Option HoldReason) (s : State) :
    (s.presentWaiting h).lif.rng = s.lif.rng := by
  unfold State.presentWaiting; split <;> simp

@[simp] theorem State.ask_lif_rng (cls : AskClass) (abort : Bool) (s : State) :
    (s.ask cls abort).lif.rng = s.lif.rng := by
  simp [State.ask]

@[simp] theorem State.release_lif_rng (s : State) : s.release.lif.rng = s.lif.rng := by
  unfold State.release; split_ifs <;> simp

@[simp] theorem State.checkComplete_lif_rng (s : State) : s.checkComplete.lif.rng = s.lif.rng := by
  unfold State.checkComplete; split <;> simp

/-! ## Presence, the phase and receiving -/

@[simp] theorem State.leaseHearsPresence_lif_rng (n : Nat) (new : Presence) (s : State) :
    (s.leaseHearsPresence n new).lif.rng = s.lif.rng := by
  unfold State.leaseHearsPresence; dsimp only; split_ifs <;> simp

@[simp] theorem State.presenceChanged_lif_rng (n : Nat) (old new : Presence) (s : State) :
    (s.presenceChanged n old new).lif.rng = s.lif.rng := by
  unfold State.presenceChanged; split_ifs <;> simp

@[simp] theorem State.changeEntry_lif_rng (n : Nat) (f : Entry → Entry) (s : State) :
    (s.changeEntry n f).lif.rng = s.lif.rng := by
  unfold State.changeEntry; split <;> simp

@[simp] theorem State.toPhase_lif_rng (p : Phase) (s : State) : (s.toPhase p).lif.rng = s.lif.rng := rfl

theorem State.receive_lif_rng (dst src : Byte) {act : State → State} (s : State)
    (h : ∀ t, (act t).lif.rng = t.lif.rng) : (s.receive dst src act).lif.rng = s.lif.rng := by
  unfold State.receive; dsimp only; split_ifs <;> simp [h]

theorem State.takeQuery_lif_rng (dst : Byte) {act : State → State} (s : State)
    (h : ∀ t, (act t).lif.rng = t.lif.rng) : (s.takeQuery dst act).lif.rng = s.lif.rng := by
  unfold State.takeQuery; split_ifs <;> simp [h]

/-- A query that is heard and taken. -/
theorem State.receiveQuery_lif_rng (dst src : Byte) {act : State → State} (s : State)
    (h : ∀ t, (act t).lif.rng = t.lif.rng) :
    (s.receive dst src fun t => t.takeQuery dst act).lif.rng = s.lif.rng :=
  s.receive_lif_rng dst src fun t => t.takeQuery_lif_rng dst h

/-! ## Placement -/

@[simp] theorem State.limitEvent_lif_rng (s : State) : s.limitEvent.lif.rng = s.lif.rng := by
  unfold State.limitEvent; dsimp only; split <;> simp

@[simp] theorem State.limitAndSlack_lif_rng (s : State) : s.limitAndSlack.lif.rng = s.lif.rng := by
  unfold State.limitAndSlack; split <;> simp

@[simp] theorem State.countRope_lif_rng (rise : Nat) (s : State) : (s.countRope rise).lif.rng = s.lif.rng := rfl

@[simp] theorem State.placementScan_lif_rng (rise : Nat) (s : State) :
    (s.placementScan rise).lif.rng = s.lif.rng := by
  unfold State.placementScan; dsimp only; split_ifs <;> simp

@[simp] theorem State.breakInEvent_lif_rng (s : State) : s.breakInEvent.lif.rng = s.lif.rng := by
  unfold State.breakInEvent; split <;> simp

@[simp] theorem State.cleanDistanceEvent_lif_rng (s : State) : s.cleanDistanceEvent.lif.rng = s.lif.rng := by
  unfold State.cleanDistanceEvent; split <;> rfl

@[simp] theorem State.slackEvent_lif_rng (s : State) : s.slackEvent.lif.rng = s.lif.rng := by
  unfold State.slackEvent; split <;> rfl

@[simp] theorem State.placementEvent_lif_rng (s : State) : s.placementEvent.lif.rng = s.lif.rng := by
  unfold State.placementEvent; split <;> simp [State.completePlacement]

@[simp] theorem State.offTimeEnd_lif_rng (s : State) : s.offTimeEnd.lif.rng = s.lif.rng := by
  unfold State.offTimeEnd; split <;> rfl

/-! ## The grout controller -/

@[simp] theorem State.countGrout_lif_rng (s : State) : s.countGrout.lif.rng = s.lif.rng := by
  unfold State.countGrout; split <;> rfl

@[simp] theorem State.modulate_lif_rng (s : State) : s.modulate.lif.rng = s.lif.rng := by
  unfold State.modulate; split <;> rfl

@[simp] theorem State.measureHeader_lif_rng (s : State) : s.measureHeader.lif.rng = s.lif.rng := by
  unfold State.measureHeader; split <;> rfl

@[simp] theorem State.groutScan_lif_rng (s : State) : s.groutScan.lif.rng = s.lif.rng := by
  unfold State.groutScan; dsimp only; split <;> simp

@[simp] theorem State.settingScan_lif_rng (s : State) : s.settingScan.lif.rng = s.lif.rng := rfl

@[simp] theorem State.endGrouting_lif_rng (r : GroutResult) (s : State) :
    (s.endGrouting r).lif.rng = s.lif.rng := by
  simp [State.endGrouting]

@[simp] theorem State.volumeEvent_lif_rng (s : State) : s.volumeEvent.lif.rng = s.lif.rng := by
  unfold State.volumeEvent; split <;> simp

@[simp] theorem State.refusalEvent_lif_rng (s : State) : s.refusalEvent.lif.rng = s.lif.rng := by
  unfold State.refusalEvent; split_ifs <;> simp

@[simp] theorem State.fillEvent_lif_rng (s : State) : s.fillEvent.lif.rng = s.lif.rng := by
  unfold State.fillEvent; split_ifs <;> simp

@[simp] theorem State.sagEvent_lif_rng (s : State) : s.sagEvent.lif.rng = s.lif.rng := by
  unfold State.sagEvent; split <;> simp

@[simp] theorem State.yieldEnd_lif_rng (s : State) : s.yieldEnd.lif.rng = s.lif.rng := by
  unfold State.yieldEnd; split <;> rfl

@[simp] theorem State.cleanTimeEvent_lif_rng (s : State) : s.cleanTimeEvent.lif.rng = s.lif.rng := by
  unfold State.cleanTimeEvent; split <;> rfl

@[simp] theorem State.groutStop_lif_rng (s : State) : s.groutStop.lif.rng = s.lif.rng := by
  unfold State.groutStop; split <;> simp

@[simp] theorem State.noteAlert_lif_rng (n : Nat) (c : AlertCause) (p : Phase) (s : State) :
    (s.noteAlert n c p).lif.rng = s.lif.rng := rfl

@[simp] theorem State.hearAlert_lif_rng (src cause phase : Byte) (s : State) :
    (s.hearAlert src cause phase).lif.rng = s.lif.rng := by
  unfold State.hearAlert
  split
  · dsimp only; split_ifs <;> simp
  · rfl

@[simp] theorem State.settingEvent_lif_rng (s : State) : s.settingEvent.lif.rng = s.lif.rng := by
  unfold State.settingEvent; split <;> simp

@[simp] theorem State.setEnd_lif_rng (s : State) : s.setEnd.lif.rng = s.lif.rng := by
  unfold State.setEnd; split <;> simp [State.toCuring]

@[simp] theorem State.cureEnd_lif_rng (s : State) : s.cureEnd.lif.rng = s.lif.rng := by
  unfold State.cureEnd; split <;> rfl

/-! ## The aftercare monitor -/

@[simp] theorem State.enterLocked_lif_rng (target : Nat) (slot : Option Nat) (s : State) :
    (s.enterLocked target slot).lif.rng = s.lif.rng := rfl

@[simp] theorem State.openTopUpSlot_lif_rng (s : State) : s.openTopUpSlot.lif.rng = s.lif.rng := by
  unfold State.openTopUpSlot; split <;> simp

@[simp] theorem State.askSlot_lif_rng (s : State) : s.askSlot.lif.rng = s.lif.rng := by
  unfold State.askSlot; dsimp only; split <;> simp

@[simp] theorem State.raiseLossExcess_lif_rng (s : State) : s.raiseLossExcess.lif.rng = s.lif.rng := by
  unfold State.raiseLossExcess; dsimp only; split <;> simp

@[simp] theorem State.lowEvent_lif_rng (s : State) : s.lowEvent.lif.rng = s.lif.rng := by
  unfold State.lowEvent; split_ifs <;> simp [State.enterPending]

@[simp] theorem State.recoveryEvent_lif_rng (s : State) : s.recoveryEvent.lif.rng = s.lif.rng := by
  unfold State.recoveryEvent; split <;> simp

@[simp] theorem State.retryStoreFull_lif_rng (s : State) : s.retryStoreFull.lif.rng = s.lif.rng := by
  unfold State.retryStoreFull State.retrySlot; dsimp only; split_ifs <;> simp

@[simp] theorem State.endTopUp_lif_rng (after : Nat) (ok : Bool) (s : State) :
    (s.endTopUp after ok).lif.rng = s.lif.rng := by
  unfold State.endTopUp; dsimp only; split <;> simp

@[simp] theorem State.topUpRampScan_lif_rng (lift : Bool) (s : State) :
    (s.topUpRampScan lift).lif.rng = s.lif.rng := by
  unfold State.topUpRampScan; split_ifs <;> rfl

@[simp] theorem State.topUpSettleScan_lif_rng (s : State) : s.topUpSettleScan.lif.rng = s.lif.rng := by
  unfold State.topUpSettleScan; split_ifs <;> simp [State.completeTopUp]

@[simp] theorem State.stageScan_lif_rng (x : TopUpStage) (s : State) :
    (s.stageScan x).lif.rng = s.lif.rng := by
  cases x with
  | lift | ramp | settle => simp [State.stageScan]
  | seating | halted => rfl
  | release => unfold State.stageScan; dsimp only; split <;> rfl
  | abortUnload => unfold State.stageScan; dsimp only; split <;> simp [State.abortTopUp, State.lowerTopUp]

@[simp] theorem State.aftScan_lif_rng (s : State) : s.aftScan.lif.rng = s.lif.rng := by
  unfold State.aftScan
  split
  · rfl
  · rfl
  · rfl
  · split <;> simp

@[simp] theorem State.topUpSeatingEnd_lif_rng (s : State) : s.topUpSeatingEnd.lif.rng = s.lif.rng := by
  unfold State.topUpSeatingEnd; split <;> rfl

@[simp] theorem State.topUpSettleEnd_lif_rng (s : State) : s.topUpSettleEnd.lif.rng = s.lif.rng := by
  unfold State.topUpSettleEnd; dsimp only; split_ifs <;> simp [State.completeTopUp]

@[simp] theorem State.topUpReadEvent_lif_rng (s : State) : s.topUpReadEvent.lif.rng = s.lif.rng := by
  unfold State.topUpReadEvent; split <;> simp

@[simp] theorem State.aftStop_lif_rng (asked : Bool) (s : State) : (s.aftStop asked).lif.rng = s.lif.rng := by
  unfold State.aftStop; split_ifs <;> simp

/-! ## The sequencer -/

@[simp] theorem State.handTest_lif_rng (job : Nat → Job) (s : State) : (s.handTest job).lif.rng = s.lif.rng := by
  unfold State.handTest; split <;> simp

@[simp] theorem State.addPoint_lif_rng (load : Nat) (ext : Int) (s : State) :
    (s.addPoint load ext).lif.rng = s.lif.rng := State.handTest_lif_rng _ s

@[simp] theorem State.closeTest_lif_rng (v : Option Verdict) (residual : Option Nat) (s : State) :
    (s.closeTest v residual).lif.rng = s.lif.rng := by
  unfold State.closeTest; split <;> simp

@[simp] theorem State.endTest_lif_rng (v : Option Verdict) (residual : Option Nat) (p : Phase) (s : State) :
    (s.endTest v residual p).lif.rng = s.lif.rng := by
  simp [State.endTest]

@[simp] theorem State.endFailed_lif_rng (s : State) : s.endFailed.lif.rng = s.lif.rng :=
  State.endTest_lif_rng _ _ _ s

@[simp] theorem State.endAborted_lif_rng (s : State) : s.endAborted.lif.rng = s.lif.rng :=
  State.endTest_lif_rng _ _ _ s

@[simp] theorem State.completeLockOff_lif_rng (s : State) : s.completeLockOff.lif.rng = s.lif.rng := by
  unfold State.completeLockOff; dsimp only; split <;> simp

@[simp] theorem State.waitLease_lif_rng (s : State) : s.waitLease.lif.rng = s.lif.rng := by
  simp [State.waitLease]

@[simp] theorem State.nextStep_lif_rng (s : State) : s.nextStep.lif.rng = s.lif.rng := by
  simp [State.nextStep]

@[simp] theorem State.startTest_lif_rng (slot : Nat) (s : State) : (s.startTest slot).lif.rng = s.lif.rng := by
  simp [State.startTest]

@[simp] theorem State.rampScan_lif_rng (s : State) : s.rampScan.lif.rng = s.lif.rng := by
  unfold State.rampScan State.rampEnd; split_ifs <;> simp [State.enterHoldLoad]

@[simp] theorem State.settleScan_lif_rng (s : State) : s.settleScan.lif.rng = s.lif.rng := by
  unfold State.settleScan; split_ifs <;> simp

@[simp] theorem State.seqScan_lif_rng (s : State) : s.seqScan.lif.rng = s.lif.rng := by
  unfold State.seqScan
  split
  case h_1 => exact s.rampScan_lif_rng
  case h_3 => split <;> rfl
  case h_4 | h_5 => split <;> simp [State.lowerTest]
  case h_6 => exact s.settleScan_lif_rng
  all_goals rfl

@[simp] theorem State.stepHoldEnd_lif_rng (s : State) : s.stepHoldEnd.lif.rng = s.lif.rng := by
  unfold State.stepHoldEnd; split <;> simp

@[simp] theorem State.holdTo_lif_rng (mark : Nat) (s : State) : (s.holdTo mark).lif.rng = s.lif.rng := rfl

@[simp] theorem State.alignCheck_lif_rng (s : State) : s.alignCheck.lif.rng = s.lif.rng := by
  unfold State.alignCheck; dsimp only; split_ifs <;> simp [State.alignEnd]

@[simp] theorem State.failProof_lif_rng (v : FailVerdict) (s : State) : (s.failProof v).lif.rng = s.lif.rng := rfl

@[simp] theorem State.proofCheck_lif_rng (reading : Nat) (s : State) :
    (s.proofCheck reading).lif.rng = s.lif.rng := by
  unfold State.proofCheck; split_ifs <;> simp

@[simp] theorem State.proofReading_lif_rng (s : State) : s.proofReading.lif.rng = s.lif.rng := by
  unfold State.proofReading
  split
  · rfl
  · split <;> simp [State.takeReading]

@[simp] theorem State.rampTimerLimit_lif_rng (s : State) : s.rampTimerLimit.lif.rng = s.lif.rng := by
  unfold State.rampTimerLimit; split <;> simp

@[simp] theorem State.spendUnload_lif_rng (s : State) : s.spendUnload.lif.rng = s.lif.rng := by
  unfold State.spendUnload; split <;> rfl

@[simp] theorem State.unloadTimerLimit_lif_rng (s : State) : s.unloadTimerLimit.lif.rng = s.lif.rng := by
  unfold State.unloadTimerLimit; split <;> simp

@[simp] theorem State.seatingEnd_lif_rng (s : State) : s.seatingEnd.lif.rng = s.lif.rng := by
  unfold State.seatingEnd; split <;> rfl

@[simp] theorem State.settleEnd_lif_rng (s : State) : s.settleEnd.lif.rng = s.lif.rng := by
  unfold State.settleEnd; dsimp only; split_ifs <;> simp

@[simp] theorem State.settleReadEvent_lif_rng (s : State) : s.settleReadEvent.lif.rng = s.lif.rng := by
  unfold State.settleReadEvent; split <;> simp

@[simp] theorem State.fixAbort_lif_rng (s : State) : s.fixAbort.lif.rng = s.lif.rng := rfl

@[simp] theorem State.abortWait_lif_rng (s : State) : s.abortWait.lif.rng = s.lif.rng := by
  simp [State.abortWait]

@[simp] theorem State.seqStop_lif_rng (asked : Bool) (s : State) : (s.seqStop asked).lif.rng = s.lif.rng := by
  unfold State.seqStop; dsimp only; split_ifs <;> simp

/-! ## The trip monitor -/

@[simp] theorem State.sensorEvent_lif_rng (c : Channel) (s : State) : (s.sensorEvent c).lif.rng = s.lif.rng := by
  unfold State.sensorEvent; split <;> simp

@[simp] theorem State.jackOverEvent_lif_rng (s : State) : s.jackOverEvent.lif.rng = s.lif.rng := by
  unfold State.jackOverEvent; split <;> simp

@[simp] theorem State.groutOverEvent_lif_rng (s : State) : s.groutOverEvent.lif.rng = s.lif.rng := by
  unfold State.groutOverEvent; split <;> simp

@[simp] theorem State.extRunawayEvent_lif_rng (s : State) : s.extRunawayEvent.lif.rng = s.lif.rng := by
  unfold State.extRunawayEvent; split <;> simp

@[simp] theorem State.takeLatches_lif_rng (s : State) : s.takeLatches.lif.rng = s.lif.rng := by
  simp [State.takeLatches, allChannels]

/-! ## The phase machine -/

@[simp] theorem State.curedGo_lif_rng (s : State) : s.curedGo.lif.rng = s.lif.rng := by
  unfold State.curedGo; split <;> simp

@[simp] theorem State.goPress_lif_rng (s : State) : s.goPress.lif.rng = s.lif.rng := by
  unfold State.goPress
  split_ifs <;> simp [State.placementGo, State.groutGo, State.supplyGo]

@[simp] theorem State.pressRelease_lif_rng (s : State) : s.pressRelease.lif.rng = s.lif.rng := by
  unfold State.pressRelease; dsimp only; split <;> simp

@[simp] theorem State.ownerStop_lif_rng (asked : Bool) (s : State) :
    (s.ownerStop asked).lif.rng = s.lif.rng := by
  unfold State.ownerStop; split <;> simp

@[simp] theorem State.pressOwner_lif_rng (s : State) : s.pressOwner.lif.rng = s.lif.rng := by
  simp [State.pressOwner]

@[simp] theorem State.pressWork_lif_rng (s : State) : s.pressWork.lif.rng = s.lif.rng := by
  unfold State.pressWork; dsimp only; split_ifs <;> simp

@[simp] theorem State.stopPress_lif_rng (s : State) : s.stopPress.lif.rng = s.lif.rng := by
  unfold State.stopPress; split <;> simp

@[simp] theorem State.detach_lif_rng (s : State) : s.detach.lif.rng = s.lif.rng := by
  simp [State.detach]

@[simp] theorem State.longStop_lif_rng (s : State) : s.longStop.lif.rng = s.lif.rng := by
  unfold State.longStop; dsimp only; split_ifs <;> simp

@[simp] theorem State.restartWatches_lif_rng (s : State) : s.restartWatches.lif.rng = s.lif.rng := rfl

@[simp] theorem State.holdOn_lif_rng (s : State) : s.holdOn.lif.rng = s.lif.rng := by
  unfold State.holdOn; dsimp only; split <;> simp

@[simp] theorem State.holdOff_lif_rng (s : State) : s.holdOff.lif.rng = s.lif.rng := by
  unfold State.holdOff; dsimp only; split <;> simp

/-! ## The line interface -/

@[simp] theorem State.badReception_lif_rng (burst : List Byte) (s : State) :
    (s.badReception burst).lif.rng = s.lif.rng := by
  unfold State.badReception
  split
  · split <;> rfl
  · refine State.receive_lif_rng _ _ s fun t => ?_
    split <;> rfl

/-- The selector's choice leaves the generator. -/
theorem Lif.select_rng {l l' : Lif} {f : OutFrame} {n : Nat} (h : l.select = some (f, n, l')) :
    l'.rng = l.rng := by
  unfold Lif.select at h
  repeat' split at h
  all_goals cases h <;> rfl

@[simp] theorem Lif.quietEnd_rng (l : Lif) : l.quietEnd.rng = l.rng := by
  unfold Lif.quietEnd
  split
  · rfl
  · next h => exact (Lif.select_rng h :)

@[simp] theorem State.quietWaitEnd_lif_rng (s : State) : s.quietWaitEnd.lif.rng = s.lif.rng := by
  unfold State.quietWaitEnd; split <;> simp

@[simp] theorem State.backoffEnd_lif_rng (s : State) : s.backoffEnd.lif.rng = s.lif.rng := by
  unfold State.backoffEnd; split <;> rfl

@[simp] theorem Lif.lose_rng (f : OutFrame) (l : Lif) : (l.lose f).rng = l.rng := by cases f <;> rfl

@[simp] theorem State.transmitComplete_lif_rng (s : State) : s.transmitComplete.lif.rng = s.lif.rng := by
  unfold State.transmitComplete; split <;> simp

@[simp] theorem State.jabberCutoff_lif_rng (s : State) : s.jabberCutoff.lif.rng = s.lif.rng := by
  unfold State.jabberCutoff; split <;> simp

/-! ## The lease's commands -/

@[simp] theorem State.deferAsk_lif_rng (src : Nat) (cls : AskClass) (stamp : Stamp) (reason : ReplyReason)
    (s : State) : (s.deferAsk src cls stamp reason).lif.rng = s.lif.rng := by
  simp [State.deferAsk]

@[simp] theorem State.grantAsk_lif_rng (src : Nat) (stamp : Stamp) (s : State) :
    (s.grantAsk src stamp).lif.rng = s.lif.rng := by
  unfold State.grantAsk; dsimp only; split <;> simp

@[simp] theorem State.hearAsk_lif_rng (src cls : Byte) (stamp : Stamp) (s : State) :
    (s.hearAsk src cls stamp).lif.rng = s.lif.rng := by
  unfold State.hearAsk
  dsimp only
  split
  · rfl
  · split
    · split <;> simp
    · rfl

@[simp] theorem State.hearReplyEntry_lif_rng (src : Nat) (s : State) (e : ReplyIn) :
    (s.hearReplyEntry src e).lif.rng = s.lif.rng := by
  unfold State.hearReplyEntry
  split
  · split <;> simp [State.mark]
  · rfl

/-- Operations that leave the generator leave it when taken one after another. -/
theorem foldl_lif_rng {α : Type} {op : State → α → State} (h : ∀ s a, (op s a).lif.rng = s.lif.rng)
    (as : List α) (s : State) : (as.foldl op s).lif.rng = s.lif.rng := by
  induction as generalizing s with
  | nil => rfl
  | cons a as ih => rw [List.foldl_cons, ih, h]

@[simp] theorem State.hearReply_lif_rng (src : Byte) (es : List ReplyIn) (s : State) :
    (s.hearReply src es).lif.rng = s.lif.rng := by
  unfold State.hearReply
  rw [foldl_lif_rng (State.hearReplyEntry_lif_rng _)]
  exact foldl_lif_rng (fun t e => t.raiseClock_lif_rng e.stamp) es s

@[simp] theorem State.hearWithdraw_lif_rng (src : Byte) (stamp : Stamp) (s : State) :
    (s.hearWithdraw src stamp).lif.rng = s.lif.rng := by
  unfold State.hearWithdraw; dsimp only; split <;> rfl

@[simp] theorem State.lapse_lif_rng (s : State) : s.lapse.lif.rng = s.lif.rng := by
  unfold State.lapse; dsimp only; split_ifs <;> simp

@[simp] theorem State.askTimeout_lif_rng (s : State) : s.askTimeout.lif.rng = s.lif.rng := by
  unfold State.askTimeout; split_ifs <;> simp

@[simp] theorem State.askTimerEnd_lif_rng (s : State) : s.askTimerEnd.lif.rng = s.lif.rng := by
  unfold State.askTimerEnd; split <;> simp

@[simp] theorem State.reaskEnd_lif_rng (s : State) : s.reaskEnd.lif.rng = s.lif.rng := by
  unfold State.reaskEnd; split <;> simp

@[simp] theorem State.holdOverrun_lif_rng (s : State) : s.holdOverrun.lif.rng = s.lif.rng := by
  unfold State.holdOverrun; split <;> simp

/-! ## A scan -/

@[simp] theorem State.takeOverdue_lif_rng (s : State) : s.takeOverdue.lif.rng = s.lif.rng := by
  simp [State.takeOverdue]

@[simp] theorem State.consume_lif_rng (rise : Nat) (s : State) : (s.consume rise).lif.rng = s.lif.rng := by
  unfold State.consume; split <;> simp

@[simp] theorem State.publish_lif_rng (v : ScanSet) (s : State) : (s.publish v).lif.rng = s.lif.rng := by
  unfold State.publish State.keepTrusted State.measureTrips; split <;> rfl

@[simp] theorem State.scanEffect_lif_rng (v : ScanSet) (s : State) : (s.scanEffect v).lif.rng = s.lif.rng := by
  unfold State.scanEffect; dsimp only; split_ifs <;> simp

/-! ## The roster, the record store, start-up and the BIND -/

@[simp] theorem State.sendBeacon_lif_rng (s : State) : s.sendBeacon.lif.rng = s.lif.rng := by
  simp [State.sendBeacon]

@[simp] theorem State.beaconDue_lif_rng (s : State) : s.beaconDue.lif.rng = s.lif.rng := by
  unfold State.beaconDue; split <;> simp

@[simp] theorem State.hearBeacon_lif_rng (src : Byte) (b : BeaconIn) (s : State) :
    (s.hearBeacon src b).lif.rng = s.lif.rng := by
  unfold State.hearBeacon
  split
  · rfl
  · split <;> simp

@[simp] theorem State.ageExpiry_lif_rng (n : Nat) (s : State) : (s.ageExpiry n).lif.rng = s.lif.rng := by
  unfold State.ageExpiry
  split
  · rfl
  · split <;> simp

@[simp] theorem State.answerStatus_lif_rng (src : Byte) (s : State) :
    (s.answerStatus src).lif.rng = s.lif.rng := rfl

@[simp] theorem State.answerRecord_lif_rng (src : Byte) (slot part : Nat) (s : State) :
    (s.answerRecord src slot part).lif.rng = s.lif.rng := by
  unfold State.answerRecord; dsimp only; split <;> rfl

@[simp] theorem State.answerExported_lif_rng (src : Byte) (slot : Nat) (number : Half) (s : State) :
    (s.answerExported src slot number).lif.rng = s.lif.rng := by
  unfold State.answerExported; dsimp only; split <;> simp

@[simp] theorem State.keepChange_lif_rng (high : Bool) (s : State) : (s.keepChange high).lif.rng = s.lif.rng := by
  unfold State.keepChange; split <;> simp

@[simp] theorem State.storeScanEnd_lif_rng (s : State) : s.storeScanEnd.lif.rng = s.lif.rng := by
  unfold State.storeScanEnd; dsimp only; split_ifs <;> rfl

@[simp] theorem State.listenEnd_lif_rng (s : State) : s.listenEnd.lif.rng = s.lif.rng := by
  unfold State.listenEnd; split <;> simp

@[simp] theorem State.enterStart_lif_rng (p : Phase) (s : State) : (s.enterStart p).lif.rng = s.lif.rng := by
  unfold State.enterStart; split <;> simp [State.openInstallation]

@[simp] theorem State.decideBind_lif_rng (src : Byte) (b : BindIn) (s : State) :
    (s.decideBind src b).lif.rng = s.lif.rng := by
  unfold State.decideBind
  split
  · rfl
  · split <;> simp [State.acceptBind]

/-! ## The commands -/

/-- Every command but COLLISION and POWER_ON is an event that leaves the generator, and its closing (R9). -/
theorem exec_closes_event_keeping_rng (c : Instr) (s : State) (hc : c ≠ .collision)
    (hp : ∀ a b d, c ≠ .powerOn a b d) : ∃ u : State, exec c s = .next u.finish ∧ u.lif.rng = s.lif.rng := by
  cases c with
  | collision => exact absurd rfl hc
  | powerOn a b d => exact absurd rfl (hp a b d)
  | startListenEnd => exact ⟨_, rfl, s.listenEnd_lif_rng⟩
  | go => exact ⟨_, rfl, s.goPress_lif_rng⟩
  | stop => exact ⟨_, rfl, s.stopPress_lif_rng⟩
  | stopRelease => exact ⟨_, rfl, rfl⟩
  | longStop => exact ⟨_, rfl, s.longStop_lif_rng⟩
  | holdOn => exact ⟨_, rfl, s.holdOn_lif_rng⟩
  | holdOff => exact ⟨_, rfl, s.holdOff_lif_rng⟩
  | keepPinChange high => exact ⟨_, rfl, s.keepChange_lif_rng high⟩
  | badReception burst => exact ⟨_, rfl, s.badReception_lif_rng burst⟩
  | beacon dst src b => exact ⟨_, rfl, s.receive_lif_rng dst src (State.hearBeacon_lif_rng src b)⟩
  | ask dst src cls stamp count =>
    exact ⟨_, rfl, s.receive_lif_rng dst src (State.hearAsk_lif_rng src cls stamp)⟩
  | reply dst src entries => exact ⟨_, rfl, s.receive_lif_rng dst src (State.hearReply_lif_rng src entries)⟩
  | withdraw dst src stamp =>
    exact ⟨_, rfl, s.receive_lif_rng dst src (State.hearWithdraw_lif_rng src stamp)⟩
  | leave dst src => exact ⟨_, rfl, s.receive_lif_rng dst src (State.changeEntry_lif_rng _ _)⟩
  | retire dst src number => exact ⟨_, rfl, s.receive_lif_rng dst src (State.changeEntry_lif_rng _ _)⟩
  | alert dst src cause phase value =>
    exact ⟨_, rfl, s.receive_lif_rng dst src (State.hearAlert_lif_rng src cause phase)⟩
  | reportDiscard dst src => exact ⟨_, rfl, s.receive_lif_rng dst src fun _ => rfl⟩
  | frameNotAccepted dst src => exact ⟨_, rfl, s.receive_lif_rng dst src fun _ => rfl⟩
  | bind dst src b => exact ⟨_, rfl, s.receiveQuery_lif_rng dst src (State.decideBind_lif_rng src b)⟩
  | statusQuery dst src => exact ⟨_, rfl, s.receiveQuery_lif_rng dst src (State.answerStatus_lif_rng src)⟩
  | recordQuery dst src slot part =>
    exact ⟨_, rfl, s.receiveQuery_lif_rng dst src (State.answerRecord_lif_rng src slot.toNat part.toNat)⟩
  | exportedQuery dst src slot number =>
    exact ⟨_, rfl, s.receiveQuery_lif_rng dst src (State.answerExported_lif_rng src slot.toNat number)⟩
  | queryUnknown dst src what =>
    exact ⟨_, rfl, s.receiveQuery_lif_rng dst src (State.pushReport_lif_rng src _)⟩
  | quietWaitEnd => exact ⟨_, rfl, s.quietWaitEnd_lif_rng⟩
  | backoffEnd => exact ⟨_, rfl, s.backoffEnd_lif_rng⟩
  | transmitComplete => exact ⟨_, rfl, s.transmitComplete_lif_rng⟩
  | jabberCutoff => exact ⟨_, rfl, s.jabberCutoff_lif_rng⟩
  | beaconTimer => exact ⟨_, rfl, s.beaconDue_lif_rng⟩
  | beaconAgeExpiry number => exact ⟨_, rfl, s.ageExpiry_lif_rng number.toNat⟩
  | askTimer => exact ⟨_, rfl, s.askTimerEnd_lif_rng⟩
  | reaskDelayEnd => exact ⟨_, rfl, s.reaskEnd_lif_rng⟩
  | holdTimerOverrun => exact ⟨_, rfl, s.holdOverrun_lif_rng⟩
  | scanPublish v =>
    exact ⟨_, rfl, by
      rw [State.scanEffect_lif_rng, State.elapse_lif_rng, State.finish_lif_rng, State.takeOverdue_lif_rng]⟩
  | offTimeEnd => exact ⟨_, rfl, s.offTimeEnd_lif_rng⟩
  | slackFound => exact ⟨_, rfl, s.slackEvent_lif_rng⟩
  | cleanDistanceReached => exact ⟨_, rfl, s.cleanDistanceEvent_lif_rng⟩
  | placementComplete => exact ⟨_, rfl, s.placementEvent_lif_rng⟩
  | breakIn => exact ⟨_, rfl, s.breakInEvent_lif_rng⟩
  | fillComplete => exact ⟨_, rfl, s.fillEvent_lif_rng⟩
  | volumeLimit => exact ⟨_, rfl, s.volumeEvent_lif_rng⟩
  | refusal => exact ⟨_, rfl, s.refusalEvent_lif_rng⟩
  | headerSag => exact ⟨_, rfl, s.sagEvent_lif_rng⟩
  | yieldEnd => exact ⟨_, rfl, s.yieldEnd_lif_rng⟩
  | cleanTimeReached => exact ⟨_, rfl, s.cleanTimeEvent_lif_rng⟩
  | settingBreakthrough => exact ⟨_, rfl, s.settingEvent_lif_rng⟩
  | setTimerEnd => exact ⟨_, rfl, s.setEnd_lif_rng⟩
  | cureTimerEnd => exact ⟨_, rfl, s.cureEnd_lif_rng⟩
  | rampTimerLimit => exact ⟨_, rfl, s.rampTimerLimit_lif_rng⟩
  | stepHoldEnd => exact ⟨_, rfl, s.stepHoldEnd_lif_rng⟩
  | alignCheck => exact ⟨_, rfl, s.alignCheck_lif_rng⟩
  | proofReading => exact ⟨_, rfl, s.proofReading_lif_rng⟩
  | seatingEnd => exact ⟨_, rfl, s.seatingEnd_lif_rng⟩
  | unloadTimerLimit => exact ⟨_, rfl, s.unloadTimerLimit_lif_rng⟩
  | settleEnd => exact ⟨_, rfl, s.settleEnd_lif_rng⟩
  | lowTimeReached => exact ⟨_, rfl, s.lowEvent_lif_rng⟩
  | recoveryTimeReached => exact ⟨_, rfl, s.recoveryEvent_lif_rng⟩
  | topupSeatingEnd => exact ⟨_, rfl, s.topUpSeatingEnd_lif_rng⟩
  | topupSettleEnd => exact ⟨_, rfl, s.topUpSettleEnd_lif_rng⟩
  | jackOver => exact ⟨_, rfl, s.jackOverEvent_lif_rng⟩
  | groutOver => exact ⟨_, rfl, s.groutOverEvent_lif_rng⟩
  | extRunaway => exact ⟨_, rfl, s.extRunawayEvent_lif_rng⟩
  | sensorFault ch => exact ⟨_, rfl, s.sensorEvent_lif_rng ch⟩
  | writeJobComplete => exact ⟨_, rfl, rfl⟩
  | storeScanEnd => exact ⟨_, rfl, s.storeScanEnd_lif_rng⟩

theorem exec_lif_rng_of_not_draw {c : Instr} {s t : State} (hc : c ≠ .collision)
    (hp : ∀ a b d, c ≠ .powerOn a b d) (h : exec c s = .next t) : t.lif.rng = s.lif.rng := by
  obtain ⟨u, hu, hrng⟩ := exec_closes_event_keeping_rng c s hc hp
  cases hu.symm.trans h
  rw [State.finish_lif_rng, hrng]

/-! ## The collision (R8, R9, R15) -/

/-- The straps stay as sampled while a collided frame goes back, is lost or is discarded. -/
theorem Lif.putBack_straps (f : OutFrame) (n : Nat) (l : Lif) : (l.putBack f n).straps = l.straps := by
  cases f with
  | reply | report => rfl
  | ask | alert | beacon => simp only [Lif.putBack]; split <;> rfl

theorem Lif.lose_straps (f : OutFrame) (l : Lif) : (l.lose f).straps = l.straps := by cases f <;> rfl

theorem Lif.backOff_straps (k : Nat) (l : Lif) : (l.backOff k).straps = l.straps := by
  unfold Lif.backOff; split <;> rfl

theorem Lif.backOff_tx (k : Nat) (l : Lif) :
    (l.backOff k).tx = if k = 0 then .waitingQuiet else .backingOff k := by
  unfold Lif.backOff; split <;> rfl

/-- The line interface with the collided frame dropped, back in its slot, or discarded as its slot's rule has it
(R8, R12, R13, R14, R30). -/
def State.frameGone (f : OutFrame) (n : Nat) (s : State) (l : Lif) : Lif :=
  if Config.maxAttempts ≤ n + 1 then { l.lose f with txDrops := satInc l.txDrops }
  else if s.returnsFrame f then l.putBack f (n + 1)
  else l

/-- The state with the frame gone and the backoff of one draw begun (R8, R9). -/
def State.drawn (f : OutFrame) (n : Nat) (s : State) : State :=
  s.onLif fun l =>
    { (s.frameGone f n l).backOff (backoffSlots (rngDraw s.lif.rng) (n + 1)) with rng := rngDraw s.lif.rng }

/-- A collision of a frame that is being sent is the draw; while listen-only the slots are emptied after it (R15). -/
theorem State.collision_of_sending {s : State} {f : OutFrame} {n : Nat} (h : s.lif.tx = .sending f n) :
    s.collision = if (s.drawn f n).listenOnly then (s.drawn f n).onLif Lif.dropSlots else s.drawn f n := by
  unfold State.collision
  rw [h]
  rfl

theorem State.drawn_straps (f : OutFrame) (n : Nat) (s : State) :
    (s.drawn f n).lif.straps = s.lif.straps := by
  refine (Lif.backOff_straps _ (s.frameGone f n s.lif)).trans ?_
  unfold State.frameGone
  split_ifs
  · exact s.lif.lose_straps f
  · exact s.lif.putBack_straps f (n + 1)
  · rfl

/-- Listen-only reads the straps and the latches, which a draw leaves (R15). -/
theorem State.drawn_listenOnly (f : OutFrame) (n : Nat) (s : State) :
    (s.drawn f n).listenOnly = s.listenOnly := by
  unfold State.listenOnly State.strapFault State.own
  rw [State.drawn_straps]
  rfl

theorem State.collision_lif_rng {s : State} {f : OutFrame} {n : Nat} (h : s.lif.tx = .sending f n) :
    s.collision.lif.rng = rngDraw s.lif.rng := by
  rw [State.collision_of_sending h]
  split <;> rfl

/-- Outside listen-only the transmitter backs off by the drawn number of slots (R8, R9). -/
theorem State.collision_lif_tx {s : State} {f : OutFrame} {n : Nat} (h : s.lif.tx = .sending f n)
    (hl : s.listenOnly = false) :
    s.collision.lif.tx =
      if backoffSlots (rngDraw s.lif.rng) (n + 1) = 0 then .waitingQuiet
      else .backingOff (backoffSlots (rngDraw s.lif.rng) (n + 1)) := by
  rw [State.collision_of_sending h, State.drawn_listenOnly, hl]
  exact Lif.backOff_tx _ _

/-- A transmitter that backs off, or waits after a backoff of no slots, is at work. -/
theorem backOff_tx_ne_free (k : Nat) : (if k = 0 then Tx.waitingQuiet else .backingOff k) ≠ .free := by
  split <;> exact nofun

/-! ## The statement (R9) -/

/-- The load, at power-on. -/
theorem execPowerOn_loads_rng (straps : BitVec 6) (keep hold : Bool) (s : State) :
    ∃ t, exec (.powerOn straps keep hold) s = .next t ∧
      t.lif.rng.toNat =
        if 1 ≤ straps.toNat ∧ straps.toNat ≤ 62 then 40000 + straps.toNat else 40000 :=
  ⟨_, rfl, (congrArg BitVec.toNat (State.finish_lif_rng _)).trans (Lif.reset_rng_toNat straps)⟩

/-- The draw, at a collision. -/
theorem execCollision_draws (f : OutFrame) (n : Nat) (s : State) (h : s.lif.tx = .sending f n) :
    ∃ t, exec .collision s = .next t ∧ t.lif.rng = rngDraw s.lif.rng
      ∧ (s.listenOnly = false →
          t.lif.tx =
            if (rngDraw s.lif.rng).toNat % 2 ^ min (n + 1) 6 = 0 then .waitingQuiet
            else .backingOff ((rngDraw s.lif.rng).toNat % 2 ^ min (n + 1) 6)) := by
  refine ⟨s.collision.finish, rfl, ?_, fun hl => ?_⟩
  · rw [State.finish_lif_rng, State.collision_lif_rng h]
  · have htx := State.collision_lif_tx h hl
    rw [State.finish_lif_of_busy (htx ▸ backOff_tx_ne_free _)]
    exact htx

/-- Settles O34: the load and the draw from their commands, the step bit by bit and hence injective with 0 as its
own image, a draw as its sixteenth iterate, and the frame from the event of each other command. -/
theorem backoffGenerator : Obligations.BackoffGenerator :=
  ⟨execPowerOn_loads_rng,
    fun r => ⟨fun _ hi => rngStep_getLsbD_succ r hi, rngStep_getLsbD_zero r⟩,
    execCollision_draws,
    fun _ => rfl,
    fun _ _ _ => exec_lif_rng_of_not_draw,
    fun _ _ => rngDraw_injective.ne,
    fun _ => rngStep_ne_zero⟩

end Sys2Proof.Machine

/-! SUPPORT. LEAVE and RETIRE (R24, R25): what a frame that is heard does, the entries after a change of one number,
and that the report of a presence change stays outside placement and the grout controller. -/

namespace Sys2Proof.Machine

/-! ## Frames heard, and entries changed in place -/

/-- A frame that is heard restarts the quiet measure and is handed on (R3, R4, R5, R7). -/
theorem State.receive_of_hears {dst src : Byte} {s : State} (h : s.hears dst src) (act : State → State) :
    s.receive dst src act = act s.restartQuiet := by
  obtain ⟨hidle, hother, hfilter⟩ := h
  unfold State.receive
  rw [if_neg (by simp [hidle])]
  exact (if_neg hother).trans (if_pos hfilter)

theorem State.entry_eq_none {n : Nat} {s : State} :
    s.entry n = none ↔ ∀ x ∈ s.roster.entries, x.number ≠ n := by
  simp [State.entry]

theorem State.mem_of_entry {n : Nat} {e : Entry} {s : State} (h : s.entry n = some e) :
    e ∈ s.roster.entries ∧ e.number = n :=
  ⟨List.mem_of_find?_eq_some h, by simpa using List.find?_some h⟩

/-- The roster with the entries of one number changed in place. -/
def Roster.mapNumber (n : Nat) (f : Entry → Entry) (r : Roster) : Roster :=
  { r with entries := r.entries.map fun x => if x.number = n then f x else x }

/-- A change that leaves every entry of the number leaves the roster. -/
theorem Roster.mapNumber_eq_self {n : Nat} {f : Entry → Entry} {r : Roster}
    (h : ∀ x ∈ r.entries, x.number = n → f x = x) : r.mapNumber n f = r := by
  have hsame : (r.entries.map fun x => if x.number = n then f x else x) = r.entries :=
    (List.map_congr_left fun x hx => ite_eq_right_iff.2 (h x hx)).trans (List.map_id _)
  rw [Roster.mapNumber, hsame]

theorem State.changeEntry_of_entry {n : Nat} {e : Entry} {s : State} (f : Entry → Entry)
    (h : s.entry n = some e) :
    s.changeEntry n f = (s.onRoster (Roster.mapNumber n f)).presenceChanged n e.presence (f e).presence := by
  unfold State.changeEntry
  rw [h]
  rfl

theorem State.changeEntry_of_no_entry {n : Nat} {s : State} (f : Entry → Entry) (h : s.entry n = none) :
    s.changeEntry n f = s := by
  unfold State.changeEntry
  rw [h]

/-- A change that leaves every entry of the number reports nothing (R28). -/
theorem State.changeEntry_eq_self {n : Nat} {f : Entry → Entry} {s : State}
    (h : ∀ x ∈ s.roster.entries, x.number = n → f x = x) : s.changeEntry n f = s := by
  cases he : s.entry n with
  | none => exact State.changeEntry_of_no_entry f he
  | some e =>
    obtain ⟨hmem, hnum⟩ := State.mem_of_entry he
    have hroster : s.onRoster (Roster.mapNumber n f) = s :=
      congrArg (fun r => { s with roster := r }) (Roster.mapNumber_eq_self h)
    rw [State.changeEntry_of_entry f he, h e hmem hnum, hroster]
    exact if_pos rfl

/-- The lease hears of a change, but the roster is as the change in place leaves it, and the blocks that the lease
does not reach are as they were. -/
theorem calm_changeEntry (n : Nat) (f : Entry → Entry) (s : State) :
    Calm (s.onRoster (Roster.mapNumber n f)) (s.changeEntry n f) := by
  cases he : s.entry n with
  | none =>
    have hroster : s.roster.mapNumber n f = s.roster :=
      Roster.mapNumber_eq_self fun x hx hn => absurd hn (State.entry_eq_none.1 he x hx)
    rw [State.changeEntry_of_no_entry f he]
    exact ⟨rfl, rfl, rfl, hroster.symm, rfl, rfl, rfl, rfl⟩
  | some e =>
    rw [State.changeEntry_of_entry f he]
    exact calm_presenceChanged n e.presence (f e).presence _

theorem Entry.retire_eq (e : Entry) :
    e.retire = if e.presence ≠ .retired then { e with presence := .retired, count := 0, mismatch := none }
      else e := by
  unfold Entry.retire
  split <;> simp_all

theorem Entry.retire_of_retired {e : Entry} (h : e.presence = .retired) : e.retire = e := if_pos h

theorem Entry.retireLost_of_lost {e : Entry} (h : e.presence = .lost) :
    e.retireLost = { e with presence := .retired, count := 0, mismatch := none } := by
  unfold Entry.retireLost
  rw [if_pos h, Entry.retire_eq, if_pos (by simp [h])]

theorem Entry.retireLost_of_not_lost {e : Entry} (h : e.presence ≠ .lost) : e.retireLost = e := if_neg h

/-! ## Placement and the grout controller while the lease acts on a change of presence -/

/-- The two operating blocks that own no request are as they were. -/
structure SparesWork (s t : State) : Prop where
  placement : t.placement = s.placement
  grout     : t.grout = s.grout

theorem SparesWork.refl (s : State) : SparesWork s s := ⟨rfl, rfl⟩

theorem SparesWork.trans {s t u : State} (h : SparesWork s t) (k : SparesWork t u) : SparesWork s u :=
  ⟨k.placement.trans h.placement, k.grout.trans h.grout⟩

theorem SparesWork.ite {s t u : State} (p : Prop) [Decidable p] (h : SparesWork s t) (k : SparesWork s u) :
    SparesWork s (if p then t else u) := by
  by_cases hp : p <;> simp [hp, h, k]

theorem sparesWork_onLif (s : State) (f : Lif → Lif) : SparesWork s (s.onLif f) := ⟨rfl, rfl⟩

theorem sparesWork_onRoster (s : State) (f : Roster → Roster) : SparesWork s (s.onRoster f) := ⟨rfl, rfl⟩

theorem sparesWork_onLease (s : State) (f : Lease → Lease) : SparesWork s (s.onLease f) := ⟨rfl, rfl⟩

theorem sparesWork_onSeq (s : State) (f : Seq → Seq) : SparesWork s (s.onSeq f) := ⟨rfl, rfl⟩

theorem sparesWork_onAft (s : State) (f : Aft → Aft) : SparesWork s (s.onAft f) := ⟨rfl, rfl⟩

theorem sparesWork_onTrip (s : State) (f : Trip → Trip) : SparesWork s (s.onTrip f) := ⟨rfl, rfl⟩

theorem sparesWork_placeAsk (f : AskFrame) (s : State) : SparesWork s (s.placeAsk f) :=
  .ite _ (.refl s) (sparesWork_onLif s _)

theorem sparesWork_placeAlert (a : Alert) (s : State) : SparesWork s (s.placeAlert a) :=
  .ite _ (.refl s) (sparesWork_onLif s _)

theorem sparesWork_toIdle (s : State) : SparesWork s s.toIdle := by
  rw [State.toIdle_eq]
  exact ⟨rfl, rfl⟩

theorem sparesWork_setRequest (r : Option Request) (s : State) : SparesWork s (s.setRequest r) :=
  .ite _ (sparesWork_onSeq s _) (.ite _ (sparesWork_onAft s _) (.refl s))

theorem sparesWork_setStatus (st : RequestStatus) (s : State) : SparesWork s (s.setStatus st) :=
  sparesWork_setRequest _ s

theorem sparesWork_withdrawFor (h : HoldReason) (s : State) : SparesWork s (s.withdrawFor h) :=
  .ite _ ((sparesWork_placeAsk _ s).trans ((sparesWork_setStatus _ _).trans (sparesWork_toIdle _))) (.refl s)

theorem sparesWork_toldHolding (s : State) : SparesWork s s.toldHolding :=
  .ite _ (sparesWork_onSeq s _) (.ite _ (sparesWork_onSeq s _) (.ite _ (sparesWork_onAft s _) (.refl s)))

theorem sparesWork_enterHolding (s : State) : SparesWork s s.enterHolding :=
  (sparesWork_onLease s _).trans (sparesWork_toldHolding _)

theorem sparesWork_sendAsk (s : State) : SparesWork s s.sendAsk := by
  unfold State.sendAsk
  split
  · exact .refl s
  · exact (sparesWork_placeAsk _ s).trans (sparesWork_onLease _ _)

theorem sparesWork_take (r : Request) (s : State) : SparesWork s (s.take r) :=
  have k := (sparesWork_onLease s _).trans (sparesWork_setStatus .taken _)
  .ite _ (k.trans (sparesWork_enterHolding _))
    (k.trans ((sparesWork_onLease _ _).trans (sparesWork_sendAsk _)))

/-- The phases in which the lease has a requester. -/
def State.hasRequester (s : State) : Prop := s.crew.phase = .stressing ∨ s.crew.phase = .locked

/-- A request stands in STRESSING and in LOCKED alone. -/
theorem State.hasRequester_of_request {s : State} {r : Request} (h : s.request = some r) : s.hasRequester := by
  unfold State.request at h
  split_ifs at h with hs hl
  · exact .inl hs
  · exact .inr hl

theorem State.hasRequester_of_calm {s t : State} (hc : Calm s t) (h : s.hasRequester) : t.hasRequester := by
  rwa [State.hasRequester, hc.crew]

/-- A latch ends a pay-out in PLACING and a sag in GROUTING alone (R91, R108). -/
theorem sparesWork_blocksAtLatch {s : State} (h : s.hasRequester) : SparesWork s s.blocksAtLatch := by
  rcases h with h | h
  · exact ⟨if_neg (by simp [h]), if_neg (by simp [h])⟩
  · exact ⟨if_neg (by simp [h]), if_neg (by simp [h])⟩

theorem sparesWork_announce {s : State} (h : s.hasRequester) : SparesWork s s.announce :=
  (SparesWork.ite _ (.refl s) (sparesWork_withdrawFor _ s)).trans
    (sparesWork_blocksAtLatch (State.hasRequester_of_calm (.ite _ (.refl s) (calm_withdrawFor _ s)) h))

theorem sparesWork_setLatch (l : Latch) (v : Half) (ch : Option Channel) {s : State} (h : s.hasRequester) :
    SparesWork s (s.setLatch l v ch) :=
  (sparesWork_onTrip s _).trans ((SparesWork.ite _ (sparesWork_onLif _ _) (.refl _)).trans
    ((sparesWork_placeAlert _ _).trans (sparesWork_announce (State.hasRequester_of_calm
      ((calm_onTrip s _).trans ((Calm.ite _ (calm_onLif _ _) (.refl _)).trans (calm_placeAlert _ _))) h))))

theorem sparesWork_latch (l : Latch) (v : Half) {s : State} (h : s.hasRequester) :
    SparesWork s (s.latch l v) :=
  .ite _ (.refl s) (sparesWork_setLatch l v none h)

/-- The latch that a presentation may set (STAMP_END, R37) finds a request, and so neither PLACING nor GROUTING. -/
theorem sparesWork_present (s : State) : SparesWork s s.present := by
  unfold State.present
  split
  · exact .refl s
  next r hr =>
    split
    · exact sparesWork_setStatus _ s
    · exact .refl s
    · exact sparesWork_setStatus _ s
    · exact (sparesWork_setStatus _ s).trans (sparesWork_latch _ _
        (State.hasRequester_of_calm (calm_setStatus _ s) (State.hasRequester_of_request hr)))
    · exact sparesWork_take _ s

theorem sparesWork_checkComplete (s : State) : SparesWork s s.checkComplete :=
  .ite _ (sparesWork_enterHolding s) (.refl s)

theorem sparesWork_leaseHearsPresence (n : Nat) (new : Presence) (s : State) :
    SparesWork s (s.leaseHearsPresence n new) :=
  (SparesWork.ite (t := s.onLease fun l => { l with deferred := l.deferred.filter fun d => d.number != n })
    _ (sparesWork_onLease s _) (.refl s)).trans
    (.ite _
      (.ite _ (sparesWork_withdrawFor _ _)
        (.ite _ ((sparesWork_onLease _ _).trans (sparesWork_checkComplete _)) (.refl _)))
      (.refl _))

theorem sparesWork_presenceChanged (n : Nat) (old new : Presence) (s : State) :
    SparesWork s (s.presenceChanged n old new) :=
  .ite _ (.refl s)
    (.ite _ ((sparesWork_leaseHearsPresence n new s).trans (sparesWork_present _))
      (sparesWork_leaseHearsPresence n new s))

theorem sparesWork_changeEntry (n : Nat) (f : Entry → Entry) (s : State) :
    SparesWork s (s.changeEntry n f) := by
  cases he : s.entry n with
  | none =>
    rw [State.changeEntry_of_no_entry f he]
    exact .refl s
  | some e =>
    rw [State.changeEntry_of_entry f he]
    exact (sparesWork_onRoster s _).trans (sparesWork_presenceChanged _ _ _ _)

/-! ## The event as a whole -/

/-- A state that has kept seven blocks of another is that one with the other eight replaced. -/
theorem State.eq_replacing_blocks {s t : State} (hpending : t.pending = s.pending) (hfree : t.free = s.free)
    (hbinding : t.binding = s.binding) (hcrew : t.crew = s.crew) (hplacement : t.placement = s.placement)
    (hgrout : t.grout = s.grout) (hstore : t.store = s.store) :
    t =
      { s with
        lif := t.lif, roster := t.roster, lease := t.lease, seq := t.seq, aft := t.aft, scan := t.scan,
        trip := t.trip, drives := t.drives } := by
  rw [← hpending, ← hfree, ← hbinding, ← hcrew, ← hplacement, ← hgrout, ← hstore]

/-- The event that hears a frame and changes the entries of one number, with its closing: what it reaches, and the
roster it leaves. -/
theorem State.changeEntry_finish_effect (n : Nat) (f : Entry → Entry) (s : State) :
    ∃ t, (s.restartQuiet.changeEntry n f).finish = t
        ∧ t =
            { s with
              lif := t.lif, roster := t.roster, lease := t.lease, seq := t.seq, aft := t.aft,
              scan := t.scan, trip := t.trip, drives := t.drives }
        ∧ t.roster = s.roster.mapNumber n f := by
  have hcalm := calm_changeEntry n f s.restartQuiet
  have hwork := sparesWork_changeEntry n f s.restartQuiet
  refine ⟨_, rfl, State.eq_replacing_blocks ?_ ?_ ?_ ?_ ?_ ?_ ?_, ?_⟩
  · exact (State.finish_pending _).trans hcalm.pending
  · exact (State.finish_free _).trans hcalm.free
  · exact (State.finish_binding _).trans hcalm.binding
  · exact (State.finish_crew _).trans hcalm.crew
  · exact (State.finish_placement _).trans hwork.placement
  · exact (State.finish_grout _).trans hwork.grout
  · exact (State.finish_store _).trans hcalm.store
  · exact (State.finish_roster _).trans hcalm.roster

theorem execLeave_of_hears {dst src : Byte} {s : State} (h : s.hears dst src) :
    exec (.leave dst src) s = .next (s.restartQuiet.changeEntry src.toNat Entry.retire).finish :=
  congrArg (fun t : State => Host.Outcome.next t.finish) (State.receive_of_hears h _)

theorem execRetire_of_hears {dst src : Byte} (n : Byte) {s : State} (h : s.hears dst src) :
    exec (.retire dst src n) s = .next (s.restartQuiet.changeEntry n.toNat Entry.retireLost).finish :=
  congrArg (fun t : State => Host.Outcome.next t.finish) (State.receive_of_hears h _)

/-! ## The statement (R24, R25) -/

/-- Settles O24: the effect of each frame on the entries it names, from the change in place; and no change where every
entry it names is left. -/
theorem leaveAndRetireSettleEntries : Obligations.LeaveAndRetireSettleEntries := by
  refine ⟨fun dst src s hs => ?_, fun dst src s hs hretired => ?_, fun dst src n e s hs _ hlost huniq => ?_,
    fun dst src n s hs hnot => ?_, fun dst src n s hs _ hmember => ?_⟩
  · obtain ⟨t, ht, hframe, hroster⟩ := s.changeEntry_finish_effect src.toNat Entry.retire
    refine ⟨t, ht ▸ execLeave_of_hears hs, hframe, by rw [hroster]; rfl, ?_⟩
    rw [hroster]
    exact List.map_congr_left fun x _ => by rw [Entry.retire_eq, ← ite_and]
  · have hsame : s.restartQuiet.changeEntry src.toNat Entry.retire = s.restartQuiet :=
      State.changeEntry_eq_self fun x hx hn => Entry.retire_of_retired (hretired x hx hn)
    rw [execLeave_of_hears hs, hsame]
    rfl
  · obtain ⟨t, ht, hframe, hroster⟩ := s.changeEntry_finish_effect n.toNat Entry.retireLost
    refine ⟨t, ht ▸ execRetire_of_hears n hs, hframe, by rw [hroster]; rfl, ?_⟩
    rw [hroster]
    refine List.map_congr_left fun x hx => if_ctx_congr Iff.rfl (fun hn => ?_) fun _ => rfl
    exact Entry.retireLost_of_lost (huniq x hx hn ▸ hlost)
  · have hsame : s.restartQuiet.changeEntry n.toNat Entry.retireLost = s.restartQuiet :=
      State.changeEntry_eq_self fun x hx hn => Entry.retireLost_of_not_lost (hnot x hx hn)
    rw [execRetire_of_hears n hs, hsame]
    rfl
  · have hnone : s.restartQuiet.entry n.toNat = none :=
      Option.isNone_iff_eq_none.1 (Option.isSome_eq_false_iff.1 hmember)
    rw [execRetire_of_hears n hs, State.changeEntry_of_no_entry _ hnone]
    rfl

end Sys2Proof.Machine

/-! SUPPORT. The ranking of asks (R36): which key decides between two asks, key by key, and how the controller uses
the ranking for an ask it receives. -/

namespace Sys2Proof.Machine

/-! ## The three keys (R36) -/

/-- The first key: class. -/
theorem outranks_of_cls_ne {c1 c2 : AskClass} (h : c1 ≠ c2) (st1 st2 : Stamp) (n1 n2 : Nat) :
    outranks c1 st1 n1 c2 st2 n2 = (c1 == .restore) := if_pos h

/-- The second key: the stamp, within a class, in the order of its value. -/
theorem outranks_of_stamp_ne (c : AskClass) {st1 st2 : Stamp} (h : st1 ≠ st2) (n1 n2 : Nat) :
    outranks c st1 n1 c st2 n2 = decide (st1.toNat < st2.toNat) :=
  (if_neg (not_not_intro rfl)).trans (if_pos h)

/-- The third key: the station number, at equal class and stamp. -/
theorem outranks_of_eq (c : AskClass) (st : Stamp) (n1 n2 : Nat) :
    outranks c st n1 c st n2 = decide (n1 < n2) :=
  (if_neg (not_not_intro rfl)).trans (if_neg (not_not_intro rfl))

/-- Of two different classes exactly one is RESTORE. -/
theorem AskClass.beq_restore_swap {c1 c2 : AskClass} (h : c1 ≠ c2) :
    (c1 == .restore) = !(c2 == .restore) :=
  match c1, c2, h with
  | .advance, .restore, _ => rfl
  | .restore, .advance, _ => rfl
  | .advance, .advance, h => absurd rfl h
  | .restore, .restore, h => absurd rfl h

/-- Of two different numbers exactly one is the lower. -/
theorem decide_lt_swap {a b : Nat} (h : a ≠ b) : decide (a < b) = !decide (b < a) := by
  rw [← decide_not, decide_eq_decide]
  omega

/-- Asks of two different stations are decided, one way only: by the first of the three keys in which they differ. -/
theorem outranks_swap {n1 n2 : Nat} (hn : n1 ≠ n2) (c1 c2 : AskClass) (st1 st2 : Stamp) :
    outranks c1 st1 n1 c2 st2 n2 = !outranks c2 st2 n2 c1 st1 n1 := by
  by_cases hc : c1 = c2
  · subst hc
    by_cases hst : st1 = st2
    · subst hst
      rw [outranks_of_eq, outranks_of_eq, decide_lt_swap hn]
    · have hval : st1.toNat ≠ st2.toNat := mt BitVec.eq_of_toNat_eq hst
      rw [outranks_of_stamp_ne c1 hst, outranks_of_stamp_ne c1 (Ne.symm hst), decide_lt_swap hval]
  · rw [outranks_of_cls_ne hc, outranks_of_cls_ne (Ne.symm hc), AskClass.beq_restore_swap hc]

/-! ## The own ask against a received one (R36, R41) -/

theorem State.ownOutranks_of_ask {s : State} {a : CurrentAsk} (h : s.lease.ask = some a) (src : Nat)
    (c : AskClass) (stamp : Stamp) :
    s.ownOutranks src c stamp = outranks a.cls a.stamp s.ownNumber c stamp src := by
  unfold State.ownOutranks
  rw [h]

/-- In HOLDING the rows before HOLDING alone can answer otherwise; rank is not read (R41). -/
theorem State.answerTo_of_holding {s : State} (hlease : s.lease.state = .holding)
    (hfresh : s.freshGrout = false) (htop : s.pendingTopUp = false) (src : Nat) (c : AskClass)
    (stamp : Stamp) : s.answerTo src c stamp = some .holding := by
  simp [State.answerTo, hfresh, htop, hlease]

/-! ## The statement (R36) -/

/-- Settles O22: each key decides where the ones before it are equal, and the ranking enters the answer through the
own ask alone. -/
theorem asksAreRanked : Obligations.AsksAreRanked := by
  refine ⟨fun st1 st2 n1 n2 => ?_, fun c st1 st2 n1 n2 hlt => ?_, fun c st n1 n2 hlt => ?_,
    fun c1 c2 st1 st2 n1 n2 hn => outranks_swap hn c1 c2 st1 st2,
    fun s a src c stamp hask => State.ownOutranks_of_ask hask src c stamp,
    fun s src c stamp hlease hfresh htop => State.answerTo_of_holding hlease hfresh htop src c stamp⟩
  · exact ⟨outranks_of_cls_ne (by decide) st1 st2 n1 n2, outranks_of_cls_ne (by decide) st1 st2 n1 n2⟩
  · have hne : st1 ≠ st2 := BitVec.ne_of_lt hlt
    rw [outranks_of_stamp_ne c hne, outranks_of_stamp_ne c hne.symm]
    have hval : st1.toNat < st2.toNat := BitVec.lt_def.1 hlt
    exact ⟨decide_eq_true hval, decide_eq_false hval.asymm⟩
  · rw [outranks_of_eq, outranks_of_eq]
    exact ⟨decide_eq_true hlt, decide_eq_false hlt.asymm⟩

end Sys2Proof.Machine

/-! SUPPORT. GO at placement (R72, R82, R84): when the phase machine takes the press, what it does in each sub-state of
PLACING, and the winch drive that the end of the event shows. -/

namespace Sys2Proof.Machine

/-! ## The sub-state and the winch drive (R82) -/

theorem State.placeIn_iff (s : State) (x : PlacementSub) :
    s.placeIn x = true ↔ s.crew.phase = .placing ∧ s.placement.sub = some x := by
  simp [State.placeIn]

theorem State.groutIn_of_placing {s : State} (hphase : s.crew.phase = .placing) (x : GroutSub) :
    s.groutIn x = false := by
  simp [State.groutIn, hphase]

theorem State.winchOn_iff (s : State) :
    s.winchOn = true ↔ s.placeIn .payout = true ∧ s.crew.hold = false ∧ s.held = false := by
  simp [State.winchOn, and_assoc]

theorem State.startTx_winchOn (s : State) : s.startTx.winchOn = s.winchOn := by
  unfold State.startTx; split <;> rfl

/-- The end of an event shows the winch drive of the state it closes. -/
theorem State.finish_drives_winch (s : State) : s.finish.drives.winch = s.winchOn :=
  s.clearTimes.startTx_winchOn

/-! ## The press (R71, R72, R84) -/

theorem execGo_eq (s : State) : exec .go s = .next s.goPress.finish := rfl

theorem State.goPress_of_not_taken {s : State}
    (h : s.crew.stage ≠ .online ∨ s.crew.hold = true ∨ s.held = true) : s.goPress = s := by
  unfold State.goPress
  exact if_pos (by simpa [or_assoc] using h)

/-- A press that is taken where placement waits for it starts pay-out. -/
theorem State.goPress_of_placement_waits {s : State} (honline : s.crew.stage = .online)
    (hhold : s.crew.hold = false) (hheld : s.held = false)
    (hwaits : s.placeIn .waitGo = true ∨ s.placeIn .slack = true) : s.goPress = s.placementGo := by
  unfold State.goPress
  rw [if_neg (by simp [honline, hhold, hheld]), if_pos (by simpa using hwaits)]

/-- In PLACING no other block takes a press that placement does not wait for. -/
theorem State.goPress_of_placement_not_waiting {s : State} (hphase : s.crew.phase = .placing)
    (hwaitGo : s.placement.sub ≠ some .waitGo) (hslack : s.placement.sub ≠ some .slack) : s.goPress = s := by
  have hplace : (s.placeIn .waitGo || s.placeIn .slack) = false := by
    simp [State.placeIn, hwaitGo, hslack]
  unfold State.goPress
  simp [hplace, State.groutIn_of_placing hphase, hphase]

theorem State.placementGo_winchOn {s : State} (hphase : s.crew.phase = .placing)
    (hhold : s.crew.hold = false) (hheld : s.held = false) : s.placementGo.winchOn = true :=
  s.placementGo.winchOn_iff.2 ⟨(State.placeIn_iff _ _).2 ⟨hphase, rfl⟩, hhold, hheld⟩

/-! ## The statement (R84) -/

/-- Settles O7: a press that is taken in WAIT_GO or SLACK is placement's own and leaves a state that calls for the
winch; every other press named is either not taken or waited for by no block. -/
theorem goStartsPayOut : Obligations.GoStartsPayOut := by
  refine ⟨fun s honline hhold hheld hphase hsub => ⟨?_, ?_⟩, fun s hphase hignored => ?_⟩
  · have hwaits : s.placeIn .waitGo = true ∨ s.placeIn .slack = true :=
      hsub.imp (fun h => (s.placeIn_iff _).2 ⟨hphase, h⟩) fun h => (s.placeIn_iff _).2 ⟨hphase, h⟩
    rw [execGo_eq, State.goPress_of_placement_waits honline hhold hheld hwaits]
    rfl
  · exact (State.finish_drives_winch s.placementGo).trans (State.placementGo_winchOn hphase hhold hheld)
  · have hsame : s.goPress = s := by
      rcases hignored with hpayout | hlimit | hhold | hheld
      · exact State.goPress_of_placement_not_waiting hphase (by simp [hpayout]) (by simp [hpayout])
      · exact State.goPress_of_placement_not_waiting hphase (by simp [hlimit]) (by simp [hlimit])
      · exact State.goPress_of_not_taken (.inr (.inl hhold))
      · exact State.goPress_of_not_taken (.inr (.inr hheld))
    rw [execGo_eq, hsame]

end Sys2Proof.Machine

/-! SUPPORT. Every command as an event and its closing; what every event keeps: the waiting commands, the straps, an
accepted binding with its roster, the clock's direction, the store's soundness, the start-up stage, and one entry per
neighbour in the lists that hold one (R12, R17, R35, R42, R173, R186, R189). -/

namespace Sys2Proof.Machine

/-! ## The event of a command -/

/-- What a command does before the closing of its event. -/
def eventOf (c : Instr) (s : State) : State :=
  match c with
  | .powerOn straps keepHigh holdSwitch => s.powerOn straps keepHigh holdSwitch
  | .startListenEnd => s.listenEnd
  | .go => s.goPress
  | .stop => s.stopPress
  | .stopRelease => s.onCrew fun c => { c with stopHold := .off }
  | .longStop => s.longStop
  | .holdOn => s.holdOn
  | .holdOff => s.holdOff
  | .keepPinChange high => s.keepChange high
  | .badReception burst => s.badReception burst
  | .beacon dst src b => s.receive dst src fun t => t.hearBeacon src b
  | .ask dst src cls stamp _ => s.receive dst src fun t => t.hearAsk src cls stamp
  | .reply dst src entries => s.receive dst src fun t => t.hearReply src entries
  | .withdraw dst src stamp => s.receive dst src fun t => t.hearWithdraw src stamp
  | .leave dst src => s.receive dst src fun t => t.changeEntry src.toNat Entry.retire
  | .retire dst src number => s.receive dst src fun t => t.changeEntry number.toNat Entry.retireLost
  | .alert dst src cause phase _ => s.receive dst src fun t => t.hearAlert src cause phase
  | .reportDiscard dst src => s.hearOnly dst src
  | .frameNotAccepted dst src => s.hearOnly dst src
  | .bind dst src b => s.receive dst src fun t => t.takeQuery dst fun u => u.decideBind src b
  | .statusQuery dst src => s.receive dst src fun t => t.takeQuery dst fun u => u.answerStatus src
  | .recordQuery dst src slot part =>
    s.receive dst src fun t => t.takeQuery dst fun u => u.answerRecord src slot.toNat part.toNat
  | .exportedQuery dst src slot number =>
    s.receive dst src fun t => t.takeQuery dst fun u => u.answerExported src slot.toNat number
  | .queryUnknown dst src what =>
    s.receive dst src fun t => t.takeQuery dst fun u => u.pushReport src (.plain .outOfRange (.other what))
  | .quietWaitEnd => s.quietWaitEnd
  | .collision => s.collision
  | .backoffEnd => s.backoffEnd
  | .transmitComplete => s.transmitComplete
  | .jabberCutoff => s.jabberCutoff
  | .beaconTimer => s.beaconDue
  | .beaconAgeExpiry number => s.ageExpiry number.toNat
  | .askTimer => s.askTimerEnd
  | .reaskDelayEnd => s.reaskEnd
  | .holdTimerOverrun => s.holdOverrun
  | .scanPublish v => (s.takeOverdue.finish.elapse Config.scanUs).scanEffect v
  | .offTimeEnd => s.offTimeEnd
  | .slackFound => s.slackEvent
  | .cleanDistanceReached => s.cleanDistanceEvent
  | .placementComplete => s.placementEvent
  | .breakIn => s.breakInEvent
  | .fillComplete => s.fillEvent
  | .volumeLimit => s.volumeEvent
  | .refusal => s.refusalEvent
  | .headerSag => s.sagEvent
  | .yieldEnd => s.yieldEnd
  | .cleanTimeReached => s.cleanTimeEvent
  | .settingBreakthrough => s.settingEvent
  | .setTimerEnd => s.setEnd
  | .cureTimerEnd => s.cureEnd
  | .rampTimerLimit => s.rampTimerLimit
  | .stepHoldEnd => s.stepHoldEnd
  | .alignCheck => s.alignCheck
  | .proofReading => s.proofReading
  | .seatingEnd => s.seatingEnd
  | .unloadTimerLimit => s.unloadTimerLimit
  | .settleEnd => s.settleEnd
  | .lowTimeReached => s.lowEvent
  | .recoveryTimeReached => s.recoveryEvent
  | .topupSeatingEnd => s.topUpSeatingEnd
  | .topupSettleEnd => s.topUpSettleEnd
  | .jackOver => s.jackOverEvent
  | .groutOver => s.groutOverEvent
  | .extRunaway => s.extRunawayEvent
  | .sensorFault ch => s.sensorEvent ch
  | .writeJobComplete => s.onStore Store.completeHead
  | .storeScanEnd => s.storeScanEnd

/-- Every command answers its event with the closing. -/
theorem exec_eq_finish (c : Instr) (s : State) : exec c s = .next (eventOf c s).finish := by
  cases c <;> rfl

/-- The state a command answers is its event with the closing. -/
theorem eq_finish_of_exec {c : Instr} {s t : State} (h : exec c s = .next t) : t = (eventOf c s).finish := by
  rw [exec_eq_finish] at h
  exact (Host.Outcome.next.inj h).symm

/-! ## One entry per neighbour (R12, R42) -/

/-- The reply batch and a batch that is being sent hold at most one entry per neighbour (R12). -/
def Lif.single (l : Lif) : Prop :=
  (l.batch.frame.map ReplyEntry.target).Nodup
    ∧ ∀ es n, l.tx = .sending (.reply es) n → (es.map ReplyEntry.target).Nodup

/-- The deferred list holds at most one entry per neighbour (R42). -/
def Lease.single (l : Lease) : Prop := (l.deferred.map Deferred.number).Nodup

theorem State.onePerNeighbour_iff (s : State) : s.onePerNeighbour ↔ s.lease.single ∧ s.lif.single := Iff.rfl

/-- From `s` to `t` no list comes to hold two entries of one neighbour. -/
def SinglesKept (s t : State) : Prop := s.onePerNeighbour → t.onePerNeighbour

theorem SinglesKept.refl (s : State) : SinglesKept s s := id

theorem SinglesKept.trans {s t u : State} (h : SinglesKept s t) (k : SinglesKept t u) : SinglesKept s u :=
  fun hs => k (h hs)

theorem SinglesKept.ite {s t u : State} (p : Prop) [Decidable p] (h : SinglesKept s t) (k : SinglesKept s u) :
    SinglesKept s (if p then t else u) := by
  split
  · exact h
  · exact k

/-- A step that leaves the line interface and the deferred list. -/
theorem SinglesKept.of_eq {s t : State} (hlif : t.lif = s.lif) (hdef : t.lease.deferred = s.lease.deferred) :
    SinglesKept s t := by
  intro ⟨hd, hl⟩
  refine (State.onePerNeighbour_iff t).2 ⟨?_, hlif ▸ hl⟩
  rwa [Lease.single, hdef]

theorem singles_onLif (s : State) (f : Lif → Lif) (h : s.lif.single → (f s.lif).single) :
    SinglesKept s (s.onLif f) := fun ⟨hd, hl⟩ => ⟨hd, h hl⟩

theorem singles_onLease (s : State) (f : Lease → Lease) (h : s.lease.single → (f s.lease).single) :
    SinglesKept s (s.onLease f) := fun ⟨hd, hl⟩ => ⟨h hd, hl⟩

/-- An entry replaced by one of the same key leaves the keys. -/
theorem map_key_replace {α β : Type} [DecidableEq β] (key : α → β) (a : α) (l : List α) :
    (l.map fun x => if key x = key a then a else x).map key = l.map key := by
  rw [List.map_map]
  refine List.map_congr_left fun x _ => ?_
  by_cases h : key x = key a
  · simp [h]
  · simp [h]

/-- An entry put into a list with one entry per key, in place of its key's or at the end, leaves it so. -/
theorem nodup_put {α β : Type} [DecidableEq β] {key : α → β} {a : α} {l : List α} (h : (l.map key).Nodup) :
    ((if l.any fun x => key x == key a then l.map fun x => if key x = key a then a else x
      else l ++ [a]).map key).Nodup := by
  split
  · rwa [map_key_replace]
  next hnew =>
    rw [List.map_append, List.nodup_append]
    refine ⟨h, List.nodup_singleton _, fun x hx y hy => ?_⟩
    obtain ⟨z, hz, rfl⟩ := List.mem_map.1 hx
    cases List.mem_singleton.1 hy
    simp only [List.any_eq_true, beq_iff_eq, not_exists, not_and] at hnew
    exact hnew z hz

theorem nodup_putReply (e : ReplyEntry) {es : List ReplyEntry} (h : (es.map ReplyEntry.target).Nodup) :
    ((putReply e es).map ReplyEntry.target).Nodup := nodup_put h

theorem nodup_putDeferred (d : Deferred) {ds : List Deferred} (h : (ds.map Deferred.number).Nodup) :
    ((putDeferred d ds).map Deferred.number).Nodup := nodup_put h

/-- A returned batch with the new one's entries holds one entry per neighbour where each of the two does. -/
theorem nodup_combineBatch {returned new : List ReplyEntry} (hr : (returned.map ReplyEntry.target).Nodup)
    (hn : (new.map ReplyEntry.target).Nodup) : ((combineBatch returned new).map ReplyEntry.target).Nodup := by
  rw [combineBatch_targets, List.nodup_append]
  refine ⟨hr, hn.filter _, fun x hx y hy hxy => ?_⟩
  have hnot := (List.mem_filter.1 hy).2
  simp only [Bool.not_eq_true', List.contains_eq_mem, decide_eq_false_iff_not] at hnot
  exact hnot (hxy ▸ hx)

theorem Lease.single_filter {l : Lease} (p : Deferred → Bool) (h : l.single) :
    ((l.deferred.filter p).map Deferred.number).Nodup :=
  h.sublist (List.Sublist.map _ List.filter_sublist)

theorem Lif.single_putReply {l : Lif} (e : ReplyEntry) (h : l.single) :
    Lif.single { l with batch := { l.batch with frame := putReply e l.batch.frame } } :=
  ⟨nodup_putReply e h.1, h.2⟩

/-- Emptied slots, with a transmitter that goes on sending what it sends (R15). -/
theorem Lif.single_dropSlots {l : Lif} (h : l.single) : l.dropSlots.single := by
  refine ⟨List.nodup_nil, fun es n htx => h.2 es n ?_⟩
  simp only [Lif.dropSlots] at htx
  split at htx
  next heq => rw [heq]; exact htx
  all_goals cases htx

theorem singles_placeAsk (f : AskFrame) (s : State) : SinglesKept s (s.placeAsk f) :=
  .ite _ (.refl s) (singles_onLif s _ id)

theorem singles_placeAlert (a : Alert) (s : State) : SinglesKept s (s.placeAlert a) :=
  .ite _ (.refl s) (singles_onLif s _ id)

theorem singles_placeBeacon (b : Beacon) (s : State) : SinglesKept s (s.placeBeacon b) :=
  .ite _ (.refl s) (singles_onLif s _ id)

theorem singles_addReply (e : ReplyEntry) (s : State) : SinglesKept s (s.addReply e) :=
  .ite _ (.refl s) (singles_onLif s _ (Lif.single_putReply e))

theorem singles_addReplies (ds : List Deferred) (s : State) :
    SinglesKept s (ds.foldl (fun t d => t.addReply d.grant) s) := by
  induction ds generalizing s with
  | nil => exact .refl s
  | cons d ds ih => exact (singles_addReply _ s).trans (ih _)

theorem singles_grantThose (p : Deferred → Bool) (s : State) : SinglesKept s (s.grantThose p) :=
  (singles_addReplies _ s).trans (singles_onLease _ _ (Lease.single_filter _))

theorem singles_grantDeferred (s : State) : SinglesKept s s.grantDeferred :=
  .ite _ (.refl s) (.ite _ (singles_grantThose _ s) (singles_grantThose _ s))

theorem singles_toIdle (s : State) : SinglesKept s s.toIdle :=
  (singles_onLease s _ id).trans (singles_grantDeferred _)

theorem singles_setRequest (r : Option Request) (s : State) : SinglesKept s (s.setRequest r) :=
  .ite _ (.of_eq rfl rfl) (.ite _ (.of_eq rfl rfl) (.refl s))

theorem singles_setStatus (st : RequestStatus) (s : State) : SinglesKept s (s.setStatus st) :=
  singles_setRequest _ s

theorem singles_withdrawFor (h : HoldReason) (s : State) : SinglesKept s (s.withdrawFor h) :=
  .ite _ ((singles_placeAsk _ s).trans ((singles_setStatus _ _).trans (singles_toIdle _))) (.refl s)

theorem singles_withdrawGone (s : State) : SinglesKept s s.withdrawGone :=
  .ite _ ((singles_placeAsk _ s).trans ((singles_setRequest _ _).trans (singles_toIdle _))) (.refl s)

theorem singles_announce (s : State) : SinglesKept s s.announce :=
  (SinglesKept.ite _ (.refl s) (singles_withdrawFor _ s)).trans (.of_eq rfl rfl)

theorem singles_setLatch (l : Latch) (v : Half) (ch : Option Channel) (s : State) :
    SinglesKept s (s.setLatch l v ch) :=
  (SinglesKept.of_eq (t := s.onTrip fun x => x.set l s.crew.phase v ch) rfl rfl).trans
    ((SinglesKept.ite _ (singles_onLif _ _ Lif.single_dropSlots) (.refl _)).trans
      ((singles_placeAlert _ _).trans (singles_announce _)))

theorem singles_latch (l : Latch) (v : Half) (s : State) : SinglesKept s (s.latch l v) :=
  .ite _ (.refl s) (singles_setLatch l v none s)

theorem singles_toldHolding (s : State) : SinglesKept s s.toldHolding :=
  .ite _ (.of_eq rfl rfl) (.ite _ (.of_eq rfl rfl) (.ite _ (.of_eq rfl rfl) (.refl s)))

theorem singles_enterHolding (s : State) : SinglesKept s s.enterHolding :=
  (singles_onLease s _ id).trans (singles_toldHolding _)

theorem singles_sendAsk (s : State) : SinglesKept s s.sendAsk := by
  unfold State.sendAsk
  split
  · exact .refl s
  · exact (singles_placeAsk _ s).trans (singles_onLease _ _ id)

theorem singles_take (r : Request) (s : State) : SinglesKept s (s.take r) :=
  have k := (singles_onLease s
    (fun l =>
      { l with
        clock := l.clock + 1
        ask := some ⟨r.cls, r.abort, l.clock + 1, 1⟩
        required := s.presentMembers }) id).trans (singles_setStatus .taken _)
  .ite _ (k.trans (singles_enterHolding _)) (k.trans ((singles_onLease _ _ id).trans (singles_sendAsk _)))

theorem singles_present (s : State) : SinglesKept s s.present := by
  unfold State.present
  split
  · exact .refl s
  · split
    · exact singles_setStatus _ s
    · exact .refl s
    · exact singles_setStatus _ s
    · exact (singles_setStatus _ s).trans (singles_latch _ _ _)
    · exact singles_take _ s

theorem singles_presentWaiting (h : Option HoldReason) (s : State) : SinglesKept s (s.presentWaiting h) :=
  .ite _ (singles_present s) (.refl s)

theorem singles_release (s : State) : SinglesKept s s.release :=
  .ite _
    ((SinglesKept.ite _ (singles_setRequest _ s) (.refl s)).trans
      ((singles_toIdle _).trans (singles_presentWaiting _ _)))
    (singles_withdrawGone s)

theorem singles_checkComplete (s : State) : SinglesKept s s.checkComplete :=
  .ite _ (singles_enterHolding s) (.refl s)

theorem singles_leaseHearsPresence (n : Nat) (new : Presence) (s : State) :
    SinglesKept s (s.leaseHearsPresence n new) :=
  (SinglesKept.ite (t := s.onLease fun l => { l with deferred := l.deferred.filter fun d => d.number != n })
    _ (singles_onLease s _ (Lease.single_filter _)) (.refl s)).trans
    (.ite _
      (.ite _ (singles_withdrawFor _ _)
        (.ite _ ((singles_onLease _ _ id).trans (singles_checkComplete _)) (.refl _)))
      (.refl _))

theorem singles_presenceChanged (n : Nat) (old new : Presence) (s : State) :
    SinglesKept s (s.presenceChanged n old new) :=
  .ite _ (.refl s)
    (.ite _ ((singles_leaseHearsPresence n new s).trans (singles_present _))
      (singles_leaseHearsPresence n new s))

theorem singles_finish (s : State) : SinglesKept s s.finish := by
  intro ⟨hd, hl⟩
  refine (State.onePerNeighbour_iff _).2 ⟨by rwa [State.finish_lease], ?_⟩
  rw [State.finish_lif]
  unfold State.startTx
  split
  · exact ⟨hl.1, fun _ _ h => nomatch h⟩
  · exact hl

/-! ## What every event keeps -/

/-- From `s` to `t`: what `Keeps` says, the start-up stage as it was, one entry per neighbour where there was one. -/
structure Regular (s t : State) : Prop where
  keeps   : Keeps s t
  stage   : t.crew.stage = s.crew.stage
  singles : SinglesKept s t

theorem Regular.refl (s : State) : Regular s s := ⟨.refl s, rfl, .refl s⟩

theorem Regular.trans {s t u : State} (h : Regular s t) (k : Regular t u) : Regular s u :=
  ⟨h.keeps.trans k.keeps, k.stage.trans h.stage, h.singles.trans k.singles⟩

theorem Regular.ite {s t u : State} (p : Prop) [Decidable p] (h : Regular s t) (k : Regular s u) :
    Regular s (if p then t else u) := by
  split
  · exact h
  · exact k

theorem Regular.of_calm {s t : State} (hk : Keeps s t) (hc : Calm s t) (hs : SinglesKept s t) : Regular s t :=
  ⟨hk, congrArg Crew.stage hc.crew, hs⟩

/-- One operation after another over a list. -/
theorem Regular.foldl {α : Type} {op : State → α → State} (h : ∀ s a, Regular s (op s a)) (as : List α)
    (s : State) : Regular s (as.foldl op s) := by
  induction as generalizing s with
  | nil => exact .refl s
  | cons a as ih => exact (h s a).trans (ih _)

/-! ### Blocks, time, slots and the store -/

theorem regular_onLif (s : State) (f : Lif → Lif) (hstraps : (f s.lif).straps = s.lif.straps)
    (hsingle : s.lif.single → (f s.lif).single) : Regular s (s.onLif f) :=
  ⟨keeps_onLif s f hstraps, rfl, singles_onLif s f hsingle⟩

theorem regular_onRoster (s : State) (f : Roster → Roster)
    (h : s.bound = true → (f s.roster).entries.map Entry.number = s.numbers) : Regular s (s.onRoster f) :=
  ⟨keeps_onRoster s f h, rfl, .of_eq rfl rfl⟩

theorem regular_mapEntries (s : State) (f : Entry → Entry) (h : ∀ e, (f e).number = e.number) :
    Regular s (s.onRoster fun r => { r with entries := r.entries.map f }) :=
  ⟨keeps_mapEntries s f h, rfl, .of_eq rfl rfl⟩

theorem regular_onLease (s : State) (f : Lease → Lease) (hclock : (f s.lease).clock = s.lease.clock)
    (hsingle : s.lease.single → (f s.lease).single) : Regular s (s.onLease f) :=
  ⟨keeps_onLease s f (hclock ▸ BitVec.le_refl _), rfl, singles_onLease s f hsingle⟩

theorem regular_onCrew (s : State) (f : Crew → Crew) (h : (f s.crew).stage = s.crew.stage) :
    Regular s (s.onCrew f) := ⟨keeps_onCrew s f, h, .of_eq rfl rfl⟩

theorem regular_onPlacement (s : State) (f : Placement → Placement) : Regular s (s.onPlacement f) :=
  ⟨keeps_onPlacement s f, rfl, .of_eq rfl rfl⟩

theorem regular_onGrout (s : State) (f : Grout → Grout) : Regular s (s.onGrout f) :=
  ⟨keeps_onGrout s f, rfl, .of_eq rfl rfl⟩

theorem regular_onSeq (s : State) (f : Seq → Seq) : Regular s (s.onSeq f) :=
  ⟨keeps_onSeq s f, rfl, .of_eq rfl rfl⟩

theorem regular_onAft (s : State) (f : Aft → Aft) : Regular s (s.onAft f) :=
  ⟨keeps_onAft s f, rfl, .of_eq rfl rfl⟩

theorem regular_onScan (s : State) (f : Scan → Scan) : Regular s (s.onScan f) :=
  ⟨keeps_onScan s f, rfl, .of_eq rfl rfl⟩

theorem regular_onTrip (s : State) (f : Trip → Trip) : Regular s (s.onTrip f) :=
  ⟨keeps_onTrip s f, rfl, .of_eq rfl rfl⟩

theorem regular_onDrives (s : State) (f : Drives → Drives) : Regular s (s.onDrives f) :=
  ⟨keeps_onDrives s f, rfl, .of_eq rfl rfl⟩

theorem regular_onStore (s : State) (f : Store → Store) (h : s.store.sound → (f s.store).sound) :
    Regular s (s.onStore f) := ⟨keeps_onStore s f h, rfl, .of_eq rfl rfl⟩

theorem regular_drawFree (s : State) : Regular s s.drawFree := ⟨keeps_drawFree s, rfl, .of_eq rfl rfl⟩

theorem regular_elapse (d : Nat) (s : State) : Regular s (s.elapse d) := ⟨keeps_elapse d s, rfl, id⟩

theorem regular_expire (t : Timer) (s : State) : Regular s (s.expire t) := regular_elapse _ s

theorem regular_toPhase (p : Phase) (s : State) : Regular s (s.toPhase p) := regular_onCrew s _ rfl

theorem regular_handOver (j : Job) (s : State) (h : ∀ n r k, j ≠ .header n r k) : Regular s (s.handOver j) where
  keeps := keeps_handOver j s fun n r k e => absurd e (h n r k)
  stage := by unfold State.handOver; split <;> rfl
  singles := .ite _ (.of_eq rfl rfl) (.refl s)

theorem regular_openSlot (k : SlotKind) (n : Nat) (s : State) : Regular s (s.openSlot k n) where
  keeps := keeps_openSlot k n s
  stage := by unfold State.openSlot State.handOver; split <;> rfl
  singles := .ite _ (.of_eq rfl rfl) (.refl s)

theorem regular_pushReport (dst : Byte) (r : Report) (s : State) : Regular s (s.pushReport dst r) :=
  regular_onLif s _ rfl id

theorem regular_restartQuiet (s : State) : Regular s s.restartQuiet := regular_onLif s _ rfl id

theorem regular_countRxError (s : State) : Regular s s.countRxError := regular_onLif s _ rfl id

theorem regular_placeAsk (f : AskFrame) (s : State) : Regular s (s.placeAsk f) :=
  .of_calm (keeps_placeAsk f s) (calm_placeAsk f s) (singles_placeAsk f s)

theorem regular_placeAlert (a : Alert) (s : State) : Regular s (s.placeAlert a) :=
  .of_calm (keeps_placeAlert a s) (calm_placeAlert a s) (singles_placeAlert a s)

theorem regular_placeBeacon (b : Beacon) (s : State) : Regular s (s.placeBeacon b) :=
  .of_calm (keeps_placeBeacon b s) (calm_placeBeacon b s) (singles_placeBeacon b s)

theorem regular_addReply (e : ReplyEntry) (s : State) : Regular s (s.addReply e) :=
  .of_calm (keeps_addReply e s) (calm_addReply e s) (singles_addReply e s)

theorem regular_enterUnload (x : SeqSub) (s : State) : Regular s (s.enterUnload x) := regular_onSeq s _

/-! ### Lease, latches, presence, receiving -/

theorem regular_raiseClock (v : Stamp) (s : State) : Regular s (s.raiseClock v) :=
  .of_calm (keeps_raiseClock v s) (calm_raiseClock v s) (singles_onLease s _ id)

theorem regular_grantThose (p : Deferred → Bool) (s : State) : Regular s (s.grantThose p) :=
  .of_calm (keeps_grantThose p s) (calm_grantThose p s) (singles_grantThose p s)

theorem regular_grantDeferred (s : State) : Regular s s.grantDeferred :=
  .of_calm (keeps_grantDeferred s) (calm_grantDeferred s) (singles_grantDeferred s)

theorem regular_toIdle (s : State) : Regular s s.toIdle :=
  .of_calm (keeps_toIdle s) (calm_toIdle s) (singles_toIdle s)

theorem regular_setRequest (r : Option Request) (s : State) : Regular s (s.setRequest r) :=
  .of_calm (keeps_setRequest r s) (calm_setRequest r s) (singles_setRequest r s)

theorem regular_setStatus (st : RequestStatus) (s : State) : Regular s (s.setStatus st) := regular_setRequest _ s

theorem regular_withdrawFor (h : HoldReason) (s : State) : Regular s (s.withdrawFor h) :=
  .of_calm (keeps_withdrawFor h s) (calm_withdrawFor h s) (singles_withdrawFor h s)

theorem regular_withdrawGone (s : State) : Regular s s.withdrawGone :=
  .of_calm (keeps_withdrawGone s) (calm_withdrawGone s) (singles_withdrawGone s)

theorem regular_setLatch (l : Latch) (v : Half) (ch : Option Channel) (s : State) :
    Regular s (s.setLatch l v ch) :=
  .of_calm (keeps_setLatch l v ch s) (calm_setLatch l v ch s) (singles_setLatch l v ch s)

theorem regular_latch (l : Latch) (v : Half) (s : State) : Regular s (s.latch l v) :=
  .of_calm (keeps_latch l v s) (calm_latch l v s) (singles_latch l v s)

theorem regular_nameChannel (c : Channel) (s : State) : Regular s (s.nameChannel c) :=
  .ite _ (.refl s) ((regular_onScan s _).trans (regular_setLatch _ _ _ _))

theorem regular_sendAsk (s : State) : Regular s s.sendAsk :=
  .of_calm (keeps_sendAsk s) (calm_sendAsk s) (singles_sendAsk s)

theorem regular_present (s : State) : Regular s s.present :=
  .of_calm (keeps_present s) (calm_present s) (singles_present s)

theorem regular_presentWaiting (h : Option HoldReason) (s : State) : Regular s (s.presentWaiting h) :=
  .of_calm (keeps_presentWaiting h s) (calm_presentWaiting h s) (singles_presentWaiting h s)

theorem regular_ask (cls : AskClass) (abort : Bool) (s : State) : Regular s (s.ask cls abort) :=
  (regular_setRequest _ s).trans (regular_present _)

theorem regular_release (s : State) : Regular s s.release :=
  .of_calm (keeps_release s) (calm_release s) (singles_release s)

theorem regular_checkComplete (s : State) : Regular s s.checkComplete :=
  .of_calm (keeps_checkComplete s) (calm_checkComplete s) (singles_checkComplete s)

theorem regular_presenceChanged (n : Nat) (old new : Presence) (s : State) :
    Regular s (s.presenceChanged n old new) :=
  .of_calm (keeps_presenceChanged n old new s) (calm_presenceChanged n old new s)
    (singles_presenceChanged n old new s)

theorem regular_changeEntry (n : Nat) (f : Entry → Entry) (s : State) (h : ∀ e, (f e).number = e.number) :
    Regular s (s.changeEntry n f) := by
  refine ⟨keeps_changeEntry n f s h, congrArg Crew.stage (calm_changeEntry n f s).crew, ?_⟩
  cases he : s.entry n with
  | none => rw [State.changeEntry_of_no_entry f he]; exact .refl s
  | some e =>
    rw [State.changeEntry_of_entry f he]
    exact SinglesKept.trans (t := s.onRoster (Roster.mapNumber n f)) (.of_eq rfl rfl)
      (singles_presenceChanged n e.presence (f e).presence _)

theorem regular_receive (dst src : Byte) {act : State → State} (s : State) (h : ∀ t, Regular t (act t)) :
    Regular s (s.receive dst src act) :=
  .ite _ (.refl s) ((regular_restartQuiet s).trans (.ite _ (regular_latch _ _ _) (.ite _ (h _) (.refl _))))

theorem regular_takeQuery (dst : Byte) {act : State → State} (s : State) (h : ∀ t, Regular t (act t)) :
    Regular s (s.takeQuery dst act) :=
  .ite _ (.refl s) (.ite _ (h s) (regular_onLif s _ rfl id))

/-- A query that is heard and taken. -/
theorem regular_receiveQuery (dst src : Byte) {act : State → State} (s : State) (h : ∀ t, Regular t (act t)) :
    Regular s (s.receive dst src fun t => t.takeQuery dst act) :=
  regular_receive dst src s fun t => regular_takeQuery dst t h

theorem regular_finish (s : State) : Regular s s.finish :=
  ⟨keeps_finish s, by rw [State.finish_crew], singles_finish s⟩

/-! ### Placement -/

theorem regular_limitEvent (s : State) : Regular s s.limitEvent :=
  .ite _ ((regular_onPlacement s _).trans ((regular_onPlacement _ _).trans (regular_latch _ _ _)))
    ((regular_onPlacement s _).trans (regular_onPlacement _ _))

theorem regular_placementScan (rise : Nat) (s : State) : Regular s (s.placementScan rise) :=
  (regular_onPlacement s _).trans
    (.ite _ (.refl _) (.ite _ (.ite _ (regular_limitEvent _) (regular_onPlacement _ _)) (.refl _)))

theorem regular_breakInEvent (s : State) : Regular s s.breakInEvent := .ite _ (regular_latch _ _ _) (.refl s)

theorem regular_cleanDistanceEvent (s : State) : Regular s s.cleanDistanceEvent :=
  .ite _ (regular_onPlacement s _) (.refl s)

theorem regular_slackEvent (s : State) : Regular s s.slackEvent := .ite _ (regular_onPlacement s _) (.refl s)

theorem regular_completePlacement (s : State) : Regular s s.completePlacement :=
  (regular_handOver _ s (by nofun)).trans
    ((regular_onPlacement _ _).trans ((regular_toPhase _ _).trans (regular_onGrout _ _)))

theorem regular_placementEvent (s : State) : Regular s s.placementEvent :=
  .ite _ ((regular_breakInEvent s).trans ((regular_cleanDistanceEvent _).trans (regular_completePlacement _)))
    (.refl s)

theorem regular_offTimeEnd (s : State) : Regular s s.offTimeEnd :=
  .ite _ ((regular_expire _ s).trans (regular_onPlacement _ _)) (.refl s)

/-! ### The grout controller -/

theorem regular_groutScan (s : State) : Regular s s.groutScan :=
  ((Regular.ite _ (regular_onGrout s _) (.refl s)).trans
    ((Regular.ite _ (regular_onGrout _ _) (.refl _)).trans (regular_onGrout _ _))).trans
    (.ite _ (.refl _) (.ite _ (regular_onGrout _ _) (.refl _)))

theorem regular_endGrouting (r : GroutResult) (s : State) : Regular s (s.endGrouting r) :=
  (regular_handOver _ s (by nofun)).trans ((regular_toPhase _ _).trans (regular_onGrout _ _))

theorem regular_volumeEvent (s : State) : Regular s s.volumeEvent := .ite _ (regular_endGrouting _ s) (.refl s)

theorem regular_refusalEvent (s : State) : Regular s s.refusalEvent :=
  .ite _ (regular_endGrouting _ s) (.ite _ (regular_endGrouting _ s) (.refl s))

theorem regular_fillEvent (s : State) : Regular s s.fillEvent :=
  .ite _ (regular_endGrouting _ s) (.ite _ (regular_onGrout s _) (.refl s))

theorem regular_sagEvent (s : State) : Regular s s.sagEvent :=
  .ite _ ((regular_fillEvent s).trans (regular_onGrout _ _)) (.refl s)

theorem regular_yieldEnd (s : State) : Regular s s.yieldEnd :=
  .ite _ ((regular_expire _ s).trans (regular_onGrout _ _)) (.refl s)

theorem regular_cleanTimeEvent (s : State) : Regular s s.cleanTimeEvent := .ite _ (regular_onGrout s _) (.refl s)

theorem regular_groutStop (s : State) : Regular s s.groutStop := .ite _ (regular_endGrouting _ s) (.refl s)

theorem regular_noteAlert (n : Nat) (c : AlertCause) (p : Phase) (s : State) : Regular s (s.noteAlert n c p) :=
  regular_mapEntries s _ fun e => by split <;> rfl

theorem regular_hearAlert (src cause phase : Byte) (s : State) : Regular s (s.hearAlert src cause phase) := by
  unfold State.hearAlert
  split
  · exact .ite _
      ((regular_noteAlert _ _ _ s).trans (.ite _ (regular_endGrouting _ _) (.refl _))) (.refl s)
  · exact .refl s

theorem regular_settingEvent (s : State) : Regular s s.settingEvent :=
  .ite _ ((regular_placeAlert _ s).trans (regular_onGrout _ _)) (.refl s)

theorem regular_setEnd (s : State) : Regular s s.setEnd :=
  .ite _ ((regular_expire _ s).trans
    ((regular_toPhase _ _).trans ((regular_onGrout _ _).trans (regular_grantDeferred _)))) (.refl s)

theorem regular_cureEnd (s : State) : Regular s s.cureEnd :=
  .ite _ ((regular_expire _ s).trans ((regular_onGrout _ _).trans (regular_toPhase _ _))) (.refl s)

/-! ### The aftercare monitor -/

theorem regular_openTopUpSlot (s : State) : Regular s s.openTopUpSlot := by
  unfold State.openTopUpSlot
  split
  · exact (regular_openSlot _ _ s).trans (regular_onAft _ _)
  · exact .refl s
  · exact .refl s

theorem regular_askSlot (s : State) : Regular s s.askSlot :=
  (regular_openTopUpSlot s).trans (.ite _ (regular_ask _ _ _) (regular_onAft _ _))

theorem regular_raiseLossExcess (s : State) : Regular s s.raiseLossExcess := by
  unfold State.raiseLossExcess
  dsimp only
  refine Regular.trans ?_ (regular_placeAlert _ _)
  split
  · exact (regular_onAft s _).trans (regular_handOver _ _ (by nofun))
  · exact regular_onAft s _

theorem regular_lowEvent (s : State) : Regular s s.lowEvent :=
  .ite _ (.ite _ ((regular_onAft s _).trans (regular_askSlot _)) (regular_raiseLossExcess s)) (.refl s)

theorem regular_recoveryEvent (s : State) : Regular s s.recoveryEvent :=
  .ite _ ((regular_withdrawGone s).trans ((regular_onAft _ _).trans (regular_grantDeferred _))) (.refl s)

theorem regular_retrySlot (s : State) : Regular s s.retrySlot :=
  .ite _
    ((regular_drawFree s).trans
      (.ite _ ((regular_openTopUpSlot _).trans (regular_recoveryEvent _)) (regular_askSlot _)))
    (regular_askSlot s)

theorem regular_retryStoreFull (s : State) : Regular s s.retryStoreFull := .ite _ (regular_retrySlot s) (.refl s)

theorem regular_endTopUp (after : Nat) (ok : Bool) (s : State) : Regular s (s.endTopUp after ok) := by
  unfold State.endTopUp
  dsimp only
  refine Regular.trans ?_ ((regular_onAft _ _).trans ((regular_release _).trans (regular_onAft _ _)))
  split
  · exact regular_handOver _ _ (by nofun)
  · exact .refl s

theorem regular_topUpRampScan (lift : Bool) (s : State) : Regular s (s.topUpRampScan lift) :=
  .ite _ (.ite _ (regular_onAft s _) (regular_onAft s _)) (.ite _ (regular_onAft s _) (regular_onAft s _))

theorem regular_topUpSettleScan (s : State) : Regular s s.topUpSettleScan :=
  .ite _ (.refl s) (.ite _ (regular_endTopUp _ _ s) (.ite _ (regular_onAft s _) (.refl s)))

theorem regular_stageScan (x : TopUpStage) (s : State) : Regular s (s.stageScan x) := by
  cases x with
  | lift => exact regular_topUpRampScan true s
  | ramp => exact regular_topUpRampScan false s
  | seating => exact .refl s
  | release => exact .ite _ (regular_onAft s _) (regular_onAft s _)
  | settle => exact regular_topUpSettleScan s
  | halted => exact .refl s
  | abortUnload => exact .ite _ (regular_endTopUp _ _ s) (regular_onAft s _)

theorem regular_aftScan (s : State) : Regular s s.aftScan := by
  unfold State.aftScan
  split
  · exact .refl s
  · exact regular_onAft s _
  · exact regular_onAft s _
  · split
    · exact .refl s
    · exact regular_stageScan _ s

theorem regular_topUpSeatingEnd (s : State) : Regular s s.topUpSeatingEnd :=
  .ite _ ((regular_expire _ s).trans (regular_onAft _ _)) (.refl s)

theorem regular_topUpSettleEnd (s : State) : Regular s s.topUpSettleEnd :=
  .ite _ (((regular_expire _ s).trans (regular_onAft _ _)).trans (.ite _ (regular_endTopUp _ _ _) (.refl _)))
    (.refl s)

theorem regular_topUpReadEvent (s : State) : Regular s s.topUpReadEvent :=
  .ite _ (regular_topUpSettleEnd s) (.refl s)

theorem regular_aftStop (asked : Bool) (s : State) : Regular s (s.aftStop asked) :=
  .ite _ (regular_onAft s _)
    (.ite _ (.ite _ (regular_ask _ _ s) (regular_retryStoreFull s)) (.refl s))

/-! ### The sequencer -/

theorem regular_handTest {job : Nat → Job} (s : State) (h : ∀ m n r k, job m ≠ .header n r k) :
    Regular s (s.handTest job) := by
  unfold State.handTest
  split
  · exact .refl s
  · exact regular_handOver _ s (h _)

theorem regular_addPoint (load : Nat) (ext : Int) (s : State) : Regular s (s.addPoint load ext) :=
  regular_handTest s (by nofun)

theorem regular_closeTest (v : Option Verdict) (residual : Option Nat) (s : State) :
    Regular s (s.closeTest v residual) := by
  unfold State.closeTest
  split
  · exact .refl s
  · exact regular_handTest s (by nofun)

theorem regular_endTest (v : Option Verdict) (residual : Option Nat) (p : Phase) (s : State) :
    Regular s (s.endTest v residual p) :=
  (regular_closeTest v residual s).trans
    ((regular_release _).trans ((regular_toPhase p _).trans (regular_onSeq _ _)))

theorem regular_completeLockOff (s : State) : Regular s s.completeLockOff := by
  unfold State.completeLockOff
  refine Regular.trans (t := s.addPoint s.scan.lc.toNat s.testExt) (regular_addPoint _ _ s) ?_
  refine Regular.trans ?_ ((regular_endTest _ _ _ _).trans (regular_onAft _ _))
  exact .ite _ ((regular_onSeq _ _).trans (regular_handTest _ (by nofun))) (.refl _)

theorem regular_waitLease (s : State) : Regular s s.waitLease := (regular_onSeq s _).trans (regular_ask _ _ _)

theorem regular_nextStep (s : State) : Regular s s.nextStep :=
  (regular_onSeq s _).trans ((regular_release _).trans ((regular_onSeq _ _).trans (regular_waitLease _)))

theorem regular_startTest (slot : Nat) (s : State) : Regular s (s.startTest slot) :=
  (regular_openSlot _ _ s).trans
    ((regular_onCrew _ _ rfl).trans
      ((regular_toPhase _ _).trans ((regular_onSeq _ _).trans (regular_waitLease _))))

theorem regular_rampScan (s : State) : Regular s s.rampScan :=
  .ite _ (.ite _ ((regular_addPoint _ _ s).trans (regular_onSeq _ _)) (regular_onSeq s _)) (regular_onSeq s _)

theorem regular_settleScan (s : State) : Regular s s.settleScan :=
  .ite _ (.refl s) (.ite _ (regular_completeLockOff s) (.ite _ (regular_onSeq s _) (.refl s)))

theorem regular_seqScan (s : State) : Regular s s.seqScan := by
  unfold State.seqScan
  split
  case h_1 => exact regular_rampScan s
  case h_2 => exact regular_onSeq s _
  case h_3 => exact .ite _ (regular_onSeq s _) (regular_onSeq s _)
  case h_4 | h_5 => exact .ite _ (regular_endTest _ _ _ s) (regular_onSeq s _)
  case h_6 => exact regular_settleScan s
  all_goals exact .refl s

theorem regular_stepHoldEnd (s : State) : Regular s s.stepHoldEnd :=
  .ite _ ((regular_expire _ s).trans ((regular_addPoint _ _ _).trans (regular_nextStep _))) (.refl s)

theorem regular_alignCheck (s : State) : Regular s s.alignCheck :=
  .ite _
    ((regular_elapse _ s).trans
      (.ite _ ((regular_onSeq _ _).trans ((regular_addPoint _ _ _).trans (regular_nextStep _)))
        (regular_onSeq _ _)))
    (.refl s)

theorem regular_failProof (v : FailVerdict) (s : State) : Regular s (s.failProof v) :=
  (regular_onSeq s fun q => { q with verdict := some v }).trans (regular_enterUnload _ _)

theorem regular_proofCheck (reading : Nat) (s : State) : Regular s (s.proofCheck reading) :=
  .ite _ (.ite _ (.refl s) (regular_failProof _ s))
    (.ite _ (.ite _ (regular_nextStep s) ((regular_onSeq s _).trans (regular_handTest _ (by nofun))))
      (.ite _ (.ite _ (regular_nextStep s) (regular_failProof _ s)) (.refl s)))

theorem regular_proofReading (s : State) : Regular s s.proofReading := by
  unfold State.proofReading
  split
  · exact .refl s
  · exact .ite _
      ((regular_elapse _ s).trans
        ((regular_addPoint _ _ _).trans ((regular_onSeq _ _).trans (regular_proofCheck _ _))))
      (.refl s)

theorem regular_rampTimerLimit (s : State) : Regular s s.rampTimerLimit := by
  unfold State.rampTimerLimit
  split
  · exact .refl s
  · exact (regular_expire _ s).trans (regular_latch _ _ _)

theorem regular_unloadTimerLimit (s : State) : Regular s s.unloadTimerLimit := by
  unfold State.unloadTimerLimit
  split
  · exact .refl s
  · exact (regular_expire _ s).trans
      ((Regular.ite _ (regular_onSeq _ _) (regular_onAft _ _)).trans (regular_latch _ _ _))

theorem regular_seatingEnd (s : State) : Regular s s.seatingEnd :=
  .ite _ ((regular_expire _ s).trans (regular_onSeq _ _)) (.refl s)

theorem regular_settleEnd (s : State) : Regular s s.settleEnd :=
  .ite _ (((regular_expire _ s).trans (regular_onSeq _ _)).trans (.ite _ (regular_completeLockOff _) (.refl _)))
    (.refl s)

theorem regular_settleReadEvent (s : State) : Regular s s.settleReadEvent := .ite _ (regular_settleEnd s) (.refl s)

theorem regular_abortWait (s : State) : Regular s s.abortWait := (regular_onSeq s _).trans (regular_ask _ _ _)

theorem regular_seqStop (asked : Bool) (s : State) : Regular s (s.seqStop asked) :=
  .ite _ ((regular_onSeq s _).trans (regular_onSeq _ _))
    (.ite _
      (((regular_setRequest _ s).trans (regular_onSeq _ _)).trans
        (.ite _ (regular_endTest _ _ _ _) (regular_abortWait _)))
      (.ite _ (regular_abortWait s) (.refl s)))

/-! ### The trip monitor and the phase machine -/

theorem regular_sensorEvent (c : Channel) (s : State) : Regular s (s.sensorEvent c) :=
  .ite _ (regular_nameChannel c s) (.refl s)

theorem regular_jackOverEvent (s : State) : Regular s s.jackOverEvent := .ite _ (regular_latch _ _ s) (.refl s)

theorem regular_groutOverEvent (s : State) : Regular s s.groutOverEvent := .ite _ (regular_latch _ _ s) (.refl s)

theorem regular_extRunawayEvent (s : State) : Regular s s.extRunawayEvent := .ite _ (regular_latch _ _ s) (.refl s)

theorem regular_takeLatches (s : State) : Regular s s.takeLatches :=
  (Regular.foldl (fun t c => regular_sensorEvent c t) allChannels s).trans
    ((regular_jackOverEvent _).trans ((regular_groutOverEvent _).trans (regular_extRunawayEvent _)))

theorem regular_curedGo (s : State) : Regular s s.curedGo := by
  unfold State.curedGo
  split
  · exact regular_startTest _ s
  · exact (regular_onCrew s _ rfl).trans (regular_onDrives _ _)

theorem regular_goPress (s : State) : Regular s s.goPress :=
  .ite _ (.refl s)
    (.ite _ (regular_onPlacement s _)
      (.ite _ (regular_onGrout s _) (.ite _ (regular_onGrout s _) (.ite _ (regular_curedGo s) (.refl s)))))

theorem regular_pressRelease (s : State) : Regular s s.pressRelease :=
  (regular_onTrip s _).trans (.ite _ (regular_presentWaiting _ _) (.refl _))

theorem regular_ownerStop (asked : Bool) (s : State) : Regular s (s.ownerStop asked) := by
  unfold State.ownerStop
  split
  case h_1 => exact regular_onPlacement s _
  case h_2 => exact regular_groutStop s
  case h_3 => exact regular_seqStop asked s
  case h_4 => exact regular_aftStop asked s
  all_goals exact .refl s

theorem regular_pressOwner (s : State) : Regular s s.pressOwner :=
  (regular_withdrawGone s).trans (regular_ownerStop _ _)

theorem regular_pressWork (s : State) : Regular s s.pressWork :=
  .ite _
    (.ite _
      ((regular_drawFree s).trans
        (.ite _ ((regular_pressRelease _).trans (regular_pressOwner _))
          ((regular_pressOwner _).trans (regular_pressRelease _))))
      ((regular_pressOwner s).trans (regular_pressRelease _)))
    ((regular_pressRelease s).trans (regular_pressOwner _))

theorem regular_stopPress (s : State) : Regular s s.stopPress :=
  .ite _ (.refl s) ((regular_pressWork s).trans (regular_onCrew _ _ rfl))

theorem regular_detach (s : State) : Regular s s.detach := by
  unfold State.detach
  refine Regular.trans ?_ (regular_onCrew _ _ rfl)
  refine Regular.trans ?_ (regular_onAft _ _)
  refine Regular.trans ?_ (regular_onGrout _ _)
  refine Regular.trans ?_ (regular_onLif _ _ rfl id)
  refine Regular.trans ?_ (regular_onRoster _ _ fun _ => rfl)
  exact (regular_grantThose _ s).trans ((regular_placeAsk _ _).trans (regular_toPhase _ _))

theorem regular_longStop (s : State) : Regular s s.longStop :=
  .ite _
    (((regular_expire _ s).trans (regular_onCrew _ _ rfl)).trans (.ite _ (regular_detach _) (.refl _)))
    (.refl s)

theorem regular_restartWatches (s : State) : Regular s s.restartWatches :=
  (regular_onPlacement s _).trans (regular_onGrout _ _)

theorem regular_holdOn (s : State) : Regular s s.holdOn :=
  (regular_onCrew s _ rfl).trans
    (.ite _ (.refl _)
      ((regular_onCrew _ _ rfl).trans ((regular_restartWatches _).trans (regular_withdrawFor _ _))))

theorem regular_holdOff (s : State) : Regular s s.holdOff :=
  (regular_onCrew s _ rfl).trans
    (.ite _ (.refl _)
      ((regular_onCrew _ _ rfl).trans ((regular_restartWatches _).trans (regular_presentWaiting _ _))))

/-! ### The line interface -/

theorem regular_badReception (burst : List Byte) (s : State) : Regular s (s.badReception burst) := by
  unfold State.badReception
  split
  · exact .ite _ (.refl s) ((regular_restartQuiet s).trans (regular_countRxError _))
  · exact regular_receive _ _ s fun t => .ite _ (.refl t) (regular_countRxError t)

theorem regular_hearOnly (dst src : Byte) (s : State) : Regular s (s.hearOnly dst src) :=
  regular_receive dst src s .refl

/-- A line interface that keeps its batch and sends no batch. -/
theorem Lif.single_of_batch {l m : Lif} (hb : m.batch = l.batch)
    (htx : ∀ es n, m.tx ≠ .sending (.reply es) n) (h : l.single) : m.single :=
  ⟨hb ▸ h.1, fun es n e => absurd e (htx es n)⟩

/-- The selector moves the batch into the transmitter, or leaves it and sends another frame (R11). -/
theorem Lif.quietEnd_regular (l : Lif) : l.quietEnd.straps = l.straps ∧ (l.single → l.quietEnd.single) := by
  unfold Lif.quietEnd Lif.select
  by_cases hb : (!l.batch.frame.isEmpty) = true
  · rw [if_pos hb]
    refine ⟨rfl, fun h => ⟨List.nodup_nil, fun es n e => ?_⟩⟩
    cases e
    exact h.1
  · rw [if_neg hb]
    cases l.ask with
    | some f => exact ⟨rfl, Lif.single_of_batch rfl nofun⟩
    | none =>
      cases l.alert with
      | some f => exact ⟨rfl, Lif.single_of_batch rfl nofun⟩
      | none =>
        cases l.fifo with
        | cons r rest => exact ⟨rfl, Lif.single_of_batch rfl nofun⟩
        | nil =>
          cases l.beacon with
          | some f => exact ⟨rfl, Lif.single_of_batch rfl nofun⟩
          | none => exact ⟨rfl, Lif.single_of_batch rfl nofun⟩

theorem regular_quietWaitEnd (s : State) : Regular s s.quietWaitEnd :=
  .ite _
    ((regular_expire _ s).trans (regular_onLif _ _ (Lif.quietEnd_regular _).1 (Lif.quietEnd_regular _).2))
    (.refl s)

theorem Lif.lose_batch (f : OutFrame) (l : Lif) : (l.lose f).batch = l.batch := by cases f <;> rfl

theorem Lif.lose_tx (f : OutFrame) (l : Lif) : (l.lose f).tx = l.tx := by cases f <;> rfl

/-- A batch that goes back is combined with the new one (R12). -/
theorem Lif.putBack_batch_nodup {f : OutFrame} {n k : Nat} {l : Lif} (htx : l.tx = .sending f n)
    (h : l.single) : ((l.putBack f k).batch.frame.map ReplyEntry.target).Nodup := by
  cases f with
  | reply es => exact nodup_combineBatch (h.2 es n htx) h.1
  | report => exact h.1
  | ask | alert | beacon => simp only [Lif.putBack]; split <;> exact h.1

theorem State.frameGone_batch_nodup {f : OutFrame} {n : Nat} {s : State} (htx : s.lif.tx = .sending f n)
    (h : s.lif.single) : ((s.frameGone f n s.lif).batch.frame.map ReplyEntry.target).Nodup := by
  unfold State.frameGone
  split_ifs
  · simpa only [Lif.lose_batch] using h.1
  · exact Lif.putBack_batch_nodup htx h
  · exact h.1

theorem Lif.backOff_batch (k : Nat) (l : Lif) : (l.backOff k).batch = l.batch := by
  unfold Lif.backOff; split <;> rfl

theorem Lif.backOff_tx_ne_sending (k : Nat) (l : Lif) (f : OutFrame) (n : Nat) :
    (l.backOff k).tx ≠ .sending f n := by
  rw [Lif.backOff_tx]; split <;> exact nofun

theorem regular_drawn {f : OutFrame} {n : Nat} {s : State} (htx : s.lif.tx = .sending f n) :
    Regular s (s.drawn f n) := by
  refine regular_onLif s _ (State.drawn_straps f n s) fun h => ⟨?_, fun es m e => ?_⟩
  · simpa only [Lif.backOff_batch] using State.frameGone_batch_nodup htx h
  · exact absurd e (Lif.backOff_tx_ne_sending _ _ _ _)

theorem State.collision_of_not_sending {s : State} (h : ∀ f n, s.lif.tx ≠ .sending f n) : s.collision = s := by
  unfold State.collision
  split
  next f n htx => exact absurd htx (h f n)
  all_goals rfl

theorem regular_collision (s : State) : Regular s s.collision := by
  cases htx : s.lif.tx with
  | sending f n =>
    rw [State.collision_of_sending htx]
    exact .ite _ ((regular_drawn htx).trans (regular_onLif _ _ rfl Lif.single_dropSlots)) (regular_drawn htx)
  | free | waitingQuiet | backingOff k =>
    rw [State.collision_of_not_sending (by simp [htx])]
    exact .refl s

theorem regular_backoffEnd (s : State) : Regular s s.backoffEnd := by
  unfold State.backoffEnd
  split
  · exact (regular_expire _ s).trans (regular_onLif _ _ rfl (Lif.single_of_batch rfl (by nofun)))
  all_goals exact .refl s

theorem regular_transmitComplete (s : State) : Regular s s.transmitComplete := by
  unfold State.transmitComplete
  split
  · exact regular_onLif _ _ (Lif.lose_straps _ _) (Lif.single_of_batch (Lif.lose_batch _ _) (by nofun))
  all_goals exact .refl s

theorem regular_jabberCutoff (s : State) : Regular s s.jabberCutoff := by
  unfold State.jabberCutoff
  split
  · refine Regular.trans ((regular_expire s.lif.drive s).trans ?_) (regular_latch _ _ _)
    exact regular_onLif _ _ (Lif.lose_straps _ _) (Lif.single_of_batch (Lif.lose_batch _ _) (by nofun))
  all_goals exact .refl s

/-! ### The lease's commands -/

theorem regular_deferAsk (src : Nat) (cls : AskClass) (stamp : Stamp) (r : ReplyReason) (s : State) :
    Regular s (s.deferAsk src cls stamp r) :=
  (regular_addReply _ s).trans (regular_onLease _ _ rfl (nodup_putDeferred _))

theorem regular_grantAsk (src : Nat) (stamp : Stamp) (s : State) : Regular s (s.grantAsk src stamp) :=
  ((regular_addReply _ s).trans (regular_onLease _ _ rfl (Lease.single_filter _))).trans
    (.ite _ ((regular_onLease _ _ rfl id).trans (regular_sendAsk _)) (.refl _))

theorem regular_hearAsk (src cls : Byte) (stamp : Stamp) (s : State) : Regular s (s.hearAsk src cls stamp) := by
  unfold State.hearAsk
  dsimp only
  refine (regular_raiseClock stamp s).trans ?_
  split
  · exact .refl _
  · split
    · split
      · exact regular_deferAsk _ _ _ _ _
      · exact regular_grantAsk _ _ _
    · exact .refl _

theorem regular_mark (n : Nat) (k : Mark) (s : State) : Regular s (s.mark n k) := regular_onLease s _ rfl id

theorem regular_hearReplyEntry (src : Nat) (s : State) (e : ReplyIn) : Regular s (s.hearReplyEntry src e) := by
  unfold State.hearReplyEntry
  split
  · split
    · exact (regular_mark _ _ s).trans (regular_checkComplete _)
    · exact regular_mark _ _ s
    · exact .refl s
  · exact .refl s

theorem regular_hearReply (src : Byte) (es : List ReplyIn) (s : State) : Regular s (s.hearReply src es) :=
  (Regular.foldl (fun t (e : ReplyIn) => regular_raiseClock e.stamp t) es s).trans
    (.foldl (regular_hearReplyEntry _) es _)

theorem regular_hearWithdraw (src : Byte) (stamp : Stamp) (s : State) : Regular s (s.hearWithdraw src stamp) :=
  (regular_raiseClock stamp s).trans (.ite _ (regular_onLease _ _ rfl (Lease.single_filter _)) (.refl _))

theorem regular_lapse (s : State) : Regular s s.lapse :=
  ((regular_placeAsk _ s).trans ((regular_onLease _ _ rfl id).trans
    ((regular_setStatus _ _).trans (regular_toIdle _)))).trans (.ite _ (regular_present _) (.refl _))

theorem regular_askTimeout (s : State) : Regular s s.askTimeout :=
  .ite _ (.ite _ ((regular_onLease s _ rfl id).trans (regular_sendAsk _)) (regular_lapse s)) (regular_sendAsk s)

theorem regular_askTimerEnd (s : State) : Regular s s.askTimerEnd :=
  .ite _ ((regular_expire _ s).trans (regular_askTimeout _)) (.refl s)

theorem regular_reaskEnd (s : State) : Regular s s.reaskEnd :=
  .ite _ ((regular_expire _ s).trans ((regular_onLease _ _ rfl id).trans (regular_presentWaiting _ _))) (.refl s)

theorem regular_holdOverrun (s : State) : Regular s s.holdOverrun :=
  .ite _ ((regular_expire _ s).trans ((regular_onLease _ _ rfl id).trans (regular_latch _ _ _))) (.refl s)

/-! ### A scan -/

theorem regular_takeOverdue (s : State) : Regular s s.takeOverdue :=
  (regular_takeLatches s).trans <| (regular_breakInEvent _).trans <| (regular_cleanDistanceEvent _).trans <|
  (regular_placementEvent _).trans <| (regular_slackEvent _).trans <| (regular_refusalEvent _).trans <|
  (regular_fillEvent _).trans <| (regular_sagEvent _).trans <| (regular_cleanTimeEvent _).trans <|
  (regular_settingEvent _).trans <| (regular_lowEvent _).trans <| (regular_recoveryEvent _).trans <|
  (regular_settleReadEvent _).trans (regular_topUpReadEvent _)

theorem regular_consume (rise : Nat) (s : State) : Regular s (s.consume rise) := by
  unfold State.consume
  split
  case h_1 => exact regular_placementScan rise s
  case h_2 => exact regular_groutScan s
  case h_3 => exact regular_onGrout s _
  case h_4 => exact regular_seqScan s
  case h_5 => exact regular_aftScan s
  all_goals exact .refl s

theorem regular_publish (v : ScanSet) (s : State) : Regular s (s.publish v) := by
  unfold State.publish
  refine Regular.trans ?_ (regular_onTrip _ _)
  exact ((regular_onScan s _).trans (regular_onScan _ _)).trans (.ite _ (regular_onScan _ _) (.refl _))

theorem regular_scanEffect (v : ScanSet) (s : State) : Regular s (s.scanEffect v) :=
  (regular_publish v s).trans
    (.ite _
      ((regular_drawFree _).trans
        (.ite _ ((regular_takeLatches _).trans (regular_consume _ _)) (regular_consume _ _)))
      (regular_consume _ _))

/-- A whole SCAN_PUBLISH. -/
theorem regular_scan (v : ScanSet) (s : State) :
    Regular s ((s.takeOverdue.finish.elapse Config.scanUs).scanEffect v) :=
  (regular_takeOverdue s).trans
    ((regular_finish _).trans ((regular_elapse _ _).trans (regular_scanEffect v _)))

/-! ### The roster, the record store and the BIND -/

theorem regular_sendBeacon (s : State) : Regular s s.sendBeacon :=
  (regular_placeBeacon _ s).trans (regular_onRoster _ _ fun _ => rfl)

theorem regular_beaconDue (s : State) : Regular s s.beaconDue :=
  .ite _ ((regular_expire _ s).trans (regular_sendBeacon _)) (.refl s)

theorem Entry.hearGood_number (e : Entry) : e.hearGood.number = e.number := by
  unfold Entry.hearGood
  split
  · split <;> rfl
  all_goals rfl

theorem Entry.hearBad_number (r : MismatchReason) (e : Entry) : (e.hearBad r).number = e.number := by
  unfold Entry.hearBad; split <;> rfl

theorem Entry.classify_number (fault : Option MismatchReason) (e : Entry) :
    (e.classify fault).number = e.number := by
  cases fault with
  | none => exact e.hearGood_number
  | some r => exact e.hearBad_number r

theorem Entry.retire_number (e : Entry) : e.retire.number = e.number := by
  unfold Entry.retire; split <;> rfl

theorem Entry.retireLost_number (e : Entry) : e.retireLost.number = e.number := by
  unfold Entry.retireLost
  split
  · exact e.retire_number
  · rfl

theorem Entry.lose_number (e : Entry) : e.lose.number = e.number := by
  unfold Entry.lose; split <;> rfl

theorem regular_hearBeacon (src : Byte) (b : BeaconIn) (s : State) : Regular s (s.hearBeacon src b) := by
  unfold State.hearBeacon
  split
  · exact .refl s
  · exact .ite _
      ((regular_mapEntries s _ fun e => by split <;> rfl).trans
        ((regular_raiseClock _ _).trans (regular_changeEntry _ _ _ (Entry.classify_number _))))
      (.refl s)

theorem regular_ageExpiry (n : Nat) (s : State) : Regular s (s.ageExpiry n) := by
  unfold State.ageExpiry
  split
  · exact .refl s
  · exact .ite _ ((regular_elapse _ s).trans (regular_changeEntry _ _ _ Entry.lose_number)) (.refl s)

theorem regular_answerStatus (src : Byte) (s : State) : Regular s (s.answerStatus src) :=
  (regular_pushReport _ _ s).trans (regular_mapEntries _ _ fun _ => rfl)

theorem regular_answerRecord (src : Byte) (slot part : Nat) (s : State) :
    Regular s (s.answerRecord src slot part) :=
  (regular_pushReport _ _ s).trans (.ite _ (regular_drawFree _) (.refl _))

theorem regular_answerExported (src : Byte) (slot : Nat) (number : Half) (s : State) :
    Regular s (s.answerExported src slot number) :=
  (regular_pushReport _ _ s).trans
    (.ite _ ((regular_handOver _ _ (by nofun)).trans (regular_retryStoreFull _)) (.refl _))

theorem regular_keepChange (high : Bool) (s : State) : Regular s (s.keepChange high) :=
  .ite _ (.refl s) ((regular_onStore s _ id).trans (regular_retryStoreFull _))

theorem regular_openInstallation (tendon : Option Nat) (s : State) : Regular s (s.openInstallation tendon) :=
  regular_handOver _ s (by nofun)

theorem regular_enterStart (p : Phase) (s : State) : Regular s (s.enterStart p) := by
  unfold State.enterStart
  split
  · exact (regular_onPlacement s _).trans (regular_openInstallation _ _)
  · exact (regular_onGrout s _).trans (regular_openInstallation _ _)
  · exact regular_onGrout s _
  · exact regular_onAft s _
  all_goals exact .refl s

/-- The parameters and the roster of a first binding (R17, R189). -/
theorem regular_firstBinding {s : State} (h : s.bound = false) (b : Option Binding) (f : Roster → Roster) :
    Regular s ((s.setBinding b).onRoster f) :=
  ⟨⟨rfl, rfl, fun x hx => (by simp [State.bound, hx] at h), BitVec.le_refl _, id⟩, rfl, .of_eq rfl rfl⟩

theorem regular_acceptBind {s : State} (h : s.bound = false) (src : Byte) (b : BindIn) :
    Regular s (s.acceptBind src b) := by
  unfold State.acceptBind
  refine Regular.trans ?_ ((regular_enterStart _ _).trans (regular_pushReport _ _ _))
  exact (regular_firstBinding h _ _).trans ((regular_onLif _ _ rfl id).trans (regular_toPhase _ _))

theorem regular_decideBind (src : Byte) (b : BindIn) (s : State) : Regular s (s.decideBind src b) := by
  unfold State.decideBind
  split
  · exact regular_pushReport _ _ s
  next h =>
    have hb : s.bound = false := by
      rw [Bool.or_eq_true, not_or] at h
      exact Bool.eq_false_iff.2 h.1
    split
    · exact regular_pushReport _ _ s
    · exact regular_acceptBind hb src b

/-! ### Every command -/

/-- What every command but three of the start-up keeps. -/
theorem regular_eventOf (c : Instr) (s : State) (hpower : ∀ a b d, c ≠ .powerOn a b d)
    (hlisten : c ≠ .startListenEnd) (hscan : c ≠ .storeScanEnd) : Regular s (eventOf c s) := by
  cases c with
  | powerOn a b d => exact absurd rfl (hpower a b d)
  | startListenEnd => exact absurd rfl hlisten
  | storeScanEnd => exact absurd rfl hscan
  | go => exact regular_goPress s
  | stop => exact regular_stopPress s
  | stopRelease => exact regular_onCrew s (fun c => { c with stopHold := .off }) rfl
  | longStop => exact regular_longStop s
  | holdOn => exact regular_holdOn s
  | holdOff => exact regular_holdOff s
  | keepPinChange high => exact regular_keepChange high s
  | badReception burst => exact regular_badReception burst s
  | beacon dst src b => exact regular_receive dst src s (regular_hearBeacon src b)
  | ask dst src cls stamp count => exact regular_receive dst src s (regular_hearAsk src cls stamp)
  | reply dst src entries => exact regular_receive dst src s (regular_hearReply src entries)
  | withdraw dst src stamp => exact regular_receive dst src s (regular_hearWithdraw src stamp)
  | leave dst src => exact regular_receive dst src s fun t => regular_changeEntry _ _ t Entry.retire_number
  | retire dst src n => exact regular_receive dst src s fun t => regular_changeEntry _ _ t Entry.retireLost_number
  | alert dst src cause phase value => exact regular_receive dst src s (regular_hearAlert src cause phase)
  | reportDiscard dst src => exact regular_hearOnly dst src s
  | frameNotAccepted dst src => exact regular_hearOnly dst src s
  | bind dst src b => exact regular_receiveQuery dst src s (regular_decideBind src b)
  | statusQuery dst src => exact regular_receiveQuery dst src s (regular_answerStatus src)
  | recordQuery dst src slot part => exact regular_receiveQuery dst src s (regular_answerRecord src _ _)
  | exportedQuery dst src slot number => exact regular_receiveQuery dst src s (regular_answerExported src _ _)
  | queryUnknown dst src what => exact regular_receiveQuery dst src s (regular_pushReport src _)
  | quietWaitEnd => exact regular_quietWaitEnd s
  | collision => exact regular_collision s
  | backoffEnd => exact regular_backoffEnd s
  | transmitComplete => exact regular_transmitComplete s
  | jabberCutoff => exact regular_jabberCutoff s
  | beaconTimer => exact regular_beaconDue s
  | beaconAgeExpiry number => exact regular_ageExpiry _ s
  | askTimer => exact regular_askTimerEnd s
  | reaskDelayEnd => exact regular_reaskEnd s
  | holdTimerOverrun => exact regular_holdOverrun s
  | scanPublish v => exact regular_scan v s
  | offTimeEnd => exact regular_offTimeEnd s
  | slackFound => exact regular_slackEvent s
  | cleanDistanceReached => exact regular_cleanDistanceEvent s
  | placementComplete => exact regular_placementEvent s
  | breakIn => exact regular_breakInEvent s
  | fillComplete => exact regular_fillEvent s
  | volumeLimit => exact regular_volumeEvent s
  | refusal => exact regular_refusalEvent s
  | headerSag => exact regular_sagEvent s
  | yieldEnd => exact regular_yieldEnd s
  | cleanTimeReached => exact regular_cleanTimeEvent s
  | settingBreakthrough => exact regular_settingEvent s
  | setTimerEnd => exact regular_setEnd s
  | cureTimerEnd => exact regular_cureEnd s
  | rampTimerLimit => exact regular_rampTimerLimit s
  | stepHoldEnd => exact regular_stepHoldEnd s
  | alignCheck => exact regular_alignCheck s
  | proofReading => exact regular_proofReading s
  | seatingEnd => exact regular_seatingEnd s
  | unloadTimerLimit => exact regular_unloadTimerLimit s
  | settleEnd => exact regular_settleEnd s
  | lowTimeReached => exact regular_lowEvent s
  | recoveryTimeReached => exact regular_recoveryEvent s
  | topupSeatingEnd => exact regular_topUpSeatingEnd s
  | topupSettleEnd => exact regular_topUpSettleEnd s
  | jackOver => exact regular_jackOverEvent s
  | groutOver => exact regular_groutOverEvent s
  | extRunaway => exact regular_extRunawayEvent s
  | sensorFault ch => exact regular_sensorEvent ch s
  | writeJobComplete => exact regular_onStore s _ Store.completeHead_sound

/-- The end of the start listen keeps what `Keeps` says, and brings the controller on line at most (R188). -/
theorem keeps_listenEnd (s : State) : Keeps s s.listenEnd :=
  .ite _ ((keeps_expire _ s).trans ((keeps_onCrew _ _).trans (regular_sendBeacon _).keeps)) (.refl s)

theorem singles_listenEnd (s : State) : SinglesKept s s.listenEnd := by
  refine .ite _ (SinglesKept.trans ?_ (regular_sendBeacon _).singles) (.refl s)
  exact (regular_expire s.crew.listen s).singles.trans (.of_eq rfl rfl)

/-- The store scan changes the memory and the stage alone (R182, R186). -/
theorem singles_storeScanEnd (s : State) : SinglesKept s s.storeScanEnd := by
  unfold State.storeScanEnd
  split_ifs
  · dsimp only
    exact .ite _ (.of_eq rfl rfl) (.of_eq rfl rfl)
  · exact .refl s

end Sys2Proof.Machine

/-! SUPPORT. The sub-state tests as equations, and the store while the power-on scan runs: no block works then, and no
command but STORE_SCAN_END writes memory (R173, R182, R186). -/

namespace Sys2Proof.Machine

/-! ## The tests of phase and sub-state -/

theorem State.seqIn_iff (s : State) (x : SeqSub) :
    s.seqIn x = true ↔ s.crew.phase = .stressing ∧ s.seq.sub = some x := by simp [State.seqIn]

theorem State.groutIn_iff (s : State) (x : GroutSub) :
    s.groutIn x = true ↔ s.crew.phase = .grouting ∧ s.grout.sub = some x := by simp [State.groutIn]

theorem State.toppingUp_iff (s : State) :
    s.toppingUp = true ↔ s.crew.phase = .locked ∧ s.aft.sub = some .topUp := by simp [State.toppingUp]

theorem State.pendingTopUp_iff (s : State) :
    s.pendingTopUp = true ↔ s.crew.phase = .locked ∧ s.aft.sub = some .pending := by simp [State.pendingTopUp]

theorem State.stageIn_iff (s : State) (x : TopUpStage) :
    s.stageIn x = true ↔ s.crew.phase = .locked ∧ s.aft.sub = some .topUp ∧ s.aft.stage = some x := by
  simp [State.stageIn, State.toppingUp, and_assoc]

theorem State.groutOpen_iff (s : State) :
    s.groutOpen = true ↔ s.crew.phase = .grouting ∧ (s.grout.sub = some .fill ∨ s.grout.sub = some .press) := by
  rw [State.groutOpen, Bool.or_eq_true, State.groutIn_iff, State.groutIn_iff, and_or_left]

theorem State.phase_of_seqIn {s : State} {x : SeqSub} (h : s.seqIn x = true) : s.crew.phase = .stressing :=
  ((s.seqIn_iff x).1 h).1

theorem State.phase_of_stageIn {s : State} {x : TopUpStage} (h : s.stageIn x = true) : s.crew.phase = .locked :=
  ((s.stageIn_iff x).1 h).1

theorem State.phase_of_groutIn {s : State} {x : GroutSub} (h : s.groutIn x = true) : s.crew.phase = .grouting :=
  ((s.groutIn_iff x).1 h).1

theorem State.phase_of_groutOpen {s : State} (h : s.groutOpen = true) : s.crew.phase = .grouting :=
  (s.groutOpen_iff.1 h).1

theorem State.phase_of_groutBegun {s : State} (h : s.groutBegun = true) : s.crew.phase = .grouting := by
  simp only [State.groutBegun, Bool.or_eq_true, State.groutIn_iff] at h
  obtain ((h | h) | h) | h := h <;> exact h.1

theorem State.phase_of_placementDue {s : State} (h : s.placementDue = true) : s.crew.phase = .placing := by
  simp only [State.placementDue, Bool.and_eq_true, beq_iff_eq] at h
  exact h.1

theorem State.phase_of_volumeDue {s : State} (h : s.volumeDue = true) : s.crew.phase = .grouting := by
  simp only [State.volumeDue, Bool.and_eq_true] at h
  exact State.phase_of_groutOpen h.1.1

theorem State.phase_of_refusalDue {s : State} (h : s.refusalDue = true) : s.crew.phase = .grouting := by
  simp only [State.refusalDue, Bool.and_eq_true] at h
  exact State.phase_of_groutIn h.1.1

theorem State.phase_of_fillDue {s : State} (h : s.fillDue = true) : s.crew.phase = .grouting := by
  simp only [State.fillDue, Bool.and_eq_true] at h
  exact State.phase_of_groutIn h.1.1

theorem State.phase_of_sagDue {s : State} (h : s.sagDue = true) : s.crew.phase = .grouting := by
  simp only [State.sagDue, Bool.and_eq_true] at h
  exact State.phase_of_groutOpen h.1.1.1

theorem State.watch_of_lowDue {s : State} (h : s.lowDue = true) :
    s.crew.phase = .locked ∧ s.aft.sub = some .watch := by
  simp only [State.lowDue, Bool.and_eq_true, beq_iff_eq] at h
  exact h.1.1.1

theorem State.pending_of_recoveryDue {s : State} (h : s.recoveryDue = true) :
    (s.crew.phase = .locked ∧ s.aft.sub = some .pending) ∧ s.lease.state ≠ .holding := by
  simp only [State.recoveryDue, Bool.and_eq_true, bne_iff_ne, State.pendingTopUp_iff] at h
  exact ⟨h.1.1.1, h.2⟩

/-! ## The power-on scan -/

/-- The store scan runs with the phase that no block works in, and the store stands as in the scan. -/
def State.inScan (s : State) : Prop :=
  s.crew.stage = .storeScan ∧ (s.crew.phase = .setup ∨ s.crew.phase = .detached) ∧ s.store.soundInScan

/-- The store as it must stand, by the stage. -/
theorem State.storeStands_of_stage {s : State} (h : s.crew.stage = .storeScan) : s.storeStands ↔ s.inScan := by
  simp [State.storeStands, State.inScan, h]

theorem State.storeStands_of_stage_ne {s : State} (h : s.crew.stage ≠ .storeScan) :
    s.storeStands ↔ s.store.sound := by
  simp [State.storeStands, h]

/-- The scan, where it runs, goes on from `s` to `t`. -/
def ScanGoesOn (s t : State) : Prop := s.inScan → t.inScan

theorem ScanGoesOn.refl (s : State) : ScanGoesOn s s := id

theorem ScanGoesOn.trans {s t u : State} (h : ScanGoesOn s t) (k : ScanGoesOn t u) : ScanGoesOn s u :=
  fun hs => k (h hs)

theorem ScanGoesOn.ite {s t u : State} (p : Prop) [Decidable p] (h : ScanGoesOn s t) (k : ScanGoesOn s u) :
    ScanGoesOn s (if p then t else u) := by
  split
  · exact h
  · exact k

/-- A step that leaves the phase machine and the store. -/
theorem ScanGoesOn.of_eq {s t : State} (hc : t.crew = s.crew) (hs : t.store = s.store) : ScanGoesOn s t := by
  intro h
  rwa [State.inScan, hc, hs]

theorem ScanGoesOn.of_calm {s t : State} (h : Calm s t) : ScanGoesOn s t := .of_eq h.crew h.store

/-- Work of a phase other than SETUP and DETACHED: none is done in the scan. -/
theorem ScanGoesOn.of_phase {s t : State} (p : Phase) (h : s.crew.phase = p) (hsetup : p ≠ .setup := by decide)
    (hdetached : p ≠ .detached := by decide) : ScanGoesOn s t :=
  fun ⟨_, hp, _⟩ => hp.elim (fun e => absurd (h.symm.trans e) hsetup) fun e => absurd (h.symm.trans e) hdetached

/-- What is done on line only is not done in the scan. -/
theorem ScanGoesOn.of_online {s t : State} (h : s.crew.stage = .online) : ScanGoesOn s t :=
  fun ⟨hs, _⟩ => nomatch hs.symm.trans h

/-- An event with a condition that no state in the scan meets. -/
theorem ScanGoesOn.guard {s t : State} (p : Prop) [Decidable p] (h : p → ScanGoesOn s t) :
    ScanGoesOn s (if p then t else s) := by
  split
  next hp => exact h hp
  · exact .refl s

theorem scanGoesOn_elapse (d : Nat) (s : State) : ScanGoesOn s (s.elapse d) := id

theorem scanGoesOn_onCrew (s : State) (f : Crew → Crew) (hstage : (f s.crew).stage = s.crew.stage)
    (hphase : (f s.crew).phase = s.crew.phase) : ScanGoesOn s (s.onCrew f) :=
  fun ⟨hs, hp, hstore⟩ => ⟨hstage.trans hs, by rwa [State.onCrew_crew, hphase], hstore⟩

theorem scanGoesOn_finish (s : State) : ScanGoesOn s s.finish := .of_eq s.finish_crew s.finish_store

theorem scanGoesOn_latch (l : Latch) (v : Half) (s : State) : ScanGoesOn s (s.latch l v) :=
  .of_calm (calm_latch l v s)

theorem scanGoesOn_changeEntry (n : Nat) (f : Entry → Entry) (s : State) :
    ScanGoesOn s (s.changeEntry n f) :=
  have h := calm_changeEntry n f s
  .of_eq h.crew h.store

theorem scanGoesOn_receive (dst src : Byte) {act : State → State} (s : State)
    (h : ∀ t, ScanGoesOn t (act t)) : ScanGoesOn s (s.receive dst src act) :=
  .ite _ (.refl s)
    (ScanGoesOn.trans (.of_calm (calm_restartQuiet s)) (.ite _ (scanGoesOn_latch _ _ _) (.ite _ (h _) (.refl _))))

/-- No query and no BIND is taken before the controller is on line (R187). -/
theorem scanGoesOn_takeQuery (dst : Byte) (act : State → State) (s : State) :
    ScanGoesOn s (s.takeQuery dst act) := by
  unfold State.takeQuery
  split
  · exact .refl s
  · split
    next hcan =>
      simp only [State.canTake, Bool.and_eq_true, beq_iff_eq] at hcan
      exact .of_online hcan.1.1
    · exact .of_eq rfl rfl

theorem scanGoesOn_receiveQuery (dst src : Byte) (act : State → State) (s : State) :
    ScanGoesOn s (s.receive dst src fun t => t.takeQuery dst act) :=
  scanGoesOn_receive dst src s fun t => scanGoesOn_takeQuery dst act t

/-! ### Events by the phase they need -/

theorem scanGoesOn_placementEvent (s : State) : ScanGoesOn s s.placementEvent :=
  .guard _ fun h => .of_phase _ (State.phase_of_placementDue h)

theorem scanGoesOn_volumeEvent (s : State) : ScanGoesOn s s.volumeEvent :=
  .guard _ fun h => .of_phase _ (State.phase_of_volumeDue h)

theorem scanGoesOn_refusalEvent (s : State) : ScanGoesOn s s.refusalEvent := by
  unfold State.refusalEvent
  split
  next h => exact .of_phase _ (State.phase_of_volumeDue h)
  · exact .guard _ fun h => .of_phase _ (State.phase_of_refusalDue h)

theorem scanGoesOn_fillEvent (s : State) : ScanGoesOn s s.fillEvent := by
  unfold State.fillEvent
  split
  next h => exact .of_phase _ (State.phase_of_volumeDue h)
  · exact .guard _ fun h => .of_phase _ (State.phase_of_fillDue h)

theorem scanGoesOn_sagEvent (s : State) : ScanGoesOn s s.sagEvent :=
  .guard _ fun h => .of_phase _ (State.phase_of_sagDue h)

theorem scanGoesOn_settingEvent (s : State) : ScanGoesOn s s.settingEvent :=
  .guard _ fun h => .of_phase _ h.1

theorem scanGoesOn_lowEvent (s : State) : ScanGoesOn s s.lowEvent :=
  .guard _ fun h => .of_phase _ (State.watch_of_lowDue h).1

theorem scanGoesOn_recoveryEvent (s : State) : ScanGoesOn s s.recoveryEvent :=
  .guard _ fun h => .of_phase _ (State.pending_of_recoveryDue h).1.1

theorem scanGoesOn_retryStoreFull (s : State) : ScanGoesOn s s.retryStoreFull :=
  .guard _ fun h => .of_phase _ (s.pendingTopUp_iff.1 (Bool.and_eq_true_iff.1 h).1).1

theorem scanGoesOn_settleEnd (s : State) : ScanGoesOn s s.settleEnd :=
  .guard _ fun h => .of_phase _ (State.phase_of_seqIn (Bool.and_eq_true_iff.1 h).1)

theorem scanGoesOn_topUpSettleEnd (s : State) : ScanGoesOn s s.topUpSettleEnd :=
  .guard _ fun h => .of_phase _ (State.phase_of_stageIn (Bool.and_eq_true_iff.1 h).1)

theorem scanGoesOn_sensorEvent (c : Channel) (s : State) : ScanGoesOn s (s.sensorEvent c) :=
  .ite _
    (.ite _ (.refl s)
      (ScanGoesOn.trans
        (t := s.onScan fun x => { x with railTimes := x.railTimes.set (channelCode c) 0 }) (.of_eq rfl rfl)
        (.of_calm (calm_setLatch _ _ _ _))))
    (.refl s)

theorem scanGoesOn_takeLatches (s : State) : ScanGoesOn s s.takeLatches := by
  have hsensors : ∀ (cs : List Channel) (t : State),
      ScanGoesOn t (cs.foldl (fun t c => t.sensorEvent c) t) := by
    intro cs
    induction cs with
    | nil => exact .refl
    | cons c cs ih => exact fun t => (scanGoesOn_sensorEvent c t).trans (ih _)
  exact (hsensors allChannels s).trans
    ((ScanGoesOn.ite _ (scanGoesOn_latch _ _ _) (.refl _)).trans
      ((ScanGoesOn.ite _ (scanGoesOn_latch _ _ _) (.refl _)).trans (.ite _ (scanGoesOn_latch _ _ _) (.refl _))))

theorem scanGoesOn_breakInEvent (s : State) : ScanGoesOn s s.breakInEvent :=
  .ite _ (scanGoesOn_latch _ _ _) (.refl s)

theorem scanGoesOn_cleanDistanceEvent (s : State) : ScanGoesOn s s.cleanDistanceEvent :=
  .ite _ (.of_eq rfl rfl) (.refl s)

theorem scanGoesOn_slackEvent (s : State) : ScanGoesOn s s.slackEvent := .ite _ (.of_eq rfl rfl) (.refl s)

theorem scanGoesOn_cleanTimeEvent (s : State) : ScanGoesOn s s.cleanTimeEvent := .ite _ (.of_eq rfl rfl) (.refl s)

theorem scanGoesOn_settleReadEvent (s : State) : ScanGoesOn s s.settleReadEvent :=
  .ite _ (scanGoesOn_settleEnd s) (.refl s)

theorem scanGoesOn_topUpReadEvent (s : State) : ScanGoesOn s s.topUpReadEvent :=
  .ite _ (scanGoesOn_topUpSettleEnd s) (.refl s)

theorem scanGoesOn_takeOverdue (s : State) : ScanGoesOn s s.takeOverdue :=
  (scanGoesOn_takeLatches s).trans <| (scanGoesOn_breakInEvent _).trans <|
  (scanGoesOn_cleanDistanceEvent _).trans <| (scanGoesOn_placementEvent _).trans <|
  (scanGoesOn_slackEvent _).trans <| (scanGoesOn_refusalEvent _).trans <| (scanGoesOn_fillEvent _).trans <|
  (scanGoesOn_sagEvent _).trans <| (scanGoesOn_cleanTimeEvent _).trans <| (scanGoesOn_settingEvent _).trans <|
  (scanGoesOn_lowEvent _).trans <| (scanGoesOn_recoveryEvent _).trans <|
  (scanGoesOn_settleReadEvent _).trans (scanGoesOn_topUpReadEvent _)

theorem scanGoesOn_consume (rise : Nat) (s : State) : ScanGoesOn s (s.consume rise) := by
  unfold State.consume
  split
  case h_1 h | h_2 h | h_3 h | h_4 h | h_5 h => exact .of_phase _ h
  all_goals exact .refl s

theorem publish_crew_store (v : ScanSet) (s : State) :
    (s.publish v).crew = s.crew ∧ (s.publish v).store = s.store := by
  unfold State.publish State.keepTrusted State.measureTrips
  split <;> exact ⟨rfl, rfl⟩

theorem scanGoesOn_drawFree (s : State) : ScanGoesOn s s.drawFree := .of_eq rfl rfl

theorem scanGoesOn_scanEffect (v : ScanSet) (s : State) : ScanGoesOn s (s.scanEffect v) :=
  (ScanGoesOn.of_eq (publish_crew_store v s).1 (publish_crew_store v s).2).trans
    (.ite _
      ((scanGoesOn_drawFree _).trans
        (.ite _ ((scanGoesOn_takeLatches _).trans (scanGoesOn_consume _ _)) (scanGoesOn_consume _ _)))
      (scanGoesOn_consume _ _))

/-- A whole SCAN_PUBLISH. -/
theorem scanGoesOn_scan (v : ScanSet) (s : State) :
    ScanGoesOn s ((s.takeOverdue.finish.elapse Config.scanUs).scanEffect v) :=
  fun h => scanGoesOn_scanEffect v _
    (scanGoesOn_elapse Config.scanUs _ (scanGoesOn_finish _ (scanGoesOn_takeOverdue s h)))

theorem scanGoesOn_toDetached (s : State) : ScanGoesOn s (s.toPhase .detached) :=
  fun ⟨hstage, _, hstore⟩ => ⟨hstage, .inr rfl, hstore⟩

theorem scanGoesOn_detach (s : State) : ScanGoesOn s s.detach := by
  unfold State.detach
  refine ScanGoesOn.trans ?_ (scanGoesOn_onCrew _ _ rfl rfl)
  refine ScanGoesOn.trans ?_ (.of_calm (calm_onAft _ _))
  refine ScanGoesOn.trans ?_ (.of_calm (calm_onGrout _ _))
  refine ScanGoesOn.trans ?_ (.of_calm (calm_onLif _ _))
  refine ScanGoesOn.trans (t := State.toPhase .detached _) ?_ (.of_eq rfl rfl)
  exact ScanGoesOn.trans (.of_calm ((calm_grantThose _ s).trans (calm_placeAsk _ _))) (scanGoesOn_toDetached _)

theorem scanGoesOn_longStop (s : State) : ScanGoesOn s s.longStop := by
  refine .ite _ (ScanGoesOn.trans ?_ (.ite _ (scanGoesOn_detach _) (.refl _))) (.refl s)
  exact (scanGoesOn_elapse _ s).trans (scanGoesOn_onCrew _ _ rfl rfl)

/-- Before the controller is on line a change of HOLD sets the switch alone (R71). -/
theorem scanGoesOn_holdOn (s : State) : ScanGoesOn s s.holdOn := by
  intro h
  unfold State.holdOn
  rw [if_pos (by simp [h.1])]
  exact h

theorem scanGoesOn_holdOff (s : State) : ScanGoesOn s s.holdOff := by
  intro h
  unfold State.holdOff
  rw [if_pos (by simp [h.1])]
  exact h

/-- No press is taken before the controller is on line (R71). -/
theorem scanGoesOn_goPress (s : State) : ScanGoesOn s s.goPress := by
  intro h
  rwa [State.goPress_of_not_taken (.inl (by simp [h.1]))]

theorem scanGoesOn_stopPress (s : State) : ScanGoesOn s s.stopPress := by
  intro h
  unfold State.stopPress
  rwa [if_pos (by simp [h.1])]

theorem scanGoesOn_keepChange (high : Bool) (s : State) : ScanGoesOn s (s.keepChange high) :=
  .ite _ (.refl s)
    (ScanGoesOn.trans (t := s.onStore fun t => { t with keepPin := high }) id (scanGoesOn_retryStoreFull _))

theorem scanGoesOn_completeHead (s : State) : ScanGoesOn s (s.onStore Store.completeHead) := by
  intro ⟨hstage, hphase, hstore⟩
  have hsame : s.store.completeHead = s.store := by
    unfold Store.completeHead
    rw [hstore.2.1]
  refine ⟨hstage, hphase, ?_⟩
  rwa [State.onStore_store, hsame]

theorem scanGoesOn_noteAlert (n : Nat) (c : AlertCause) (p : Phase) (s : State) :
    ScanGoesOn s (s.noteAlert n c p) := .of_eq rfl rfl

theorem scanGoesOn_hearAlert (src cause phase : Byte) (s : State) : ScanGoesOn s (s.hearAlert src cause phase) := by
  unfold State.hearAlert
  split
  next c p _ _ =>
    refine .ite _ ((scanGoesOn_noteAlert src.toNat c p s).trans ?_) (.refl s)
    exact .guard _ fun h => .of_phase _ (State.phase_of_groutBegun h.2)
  · exact .refl s

theorem scanGoesOn_hearBeacon (src : Byte) (b : BeaconIn) (s : State) : ScanGoesOn s (s.hearBeacon src b) := by
  unfold State.hearBeacon
  split
  · exact .refl s
  · refine .ite _ (ScanGoesOn.trans ?_ (scanGoesOn_changeEntry _ _ _)) (.refl s)
    exact .of_eq rfl rfl

theorem calm_hearReplyEntry (src : Nat) (s : State) (e : ReplyIn) : Calm s (s.hearReplyEntry src e) := by
  unfold State.hearReplyEntry
  split
  · split
    · exact (calm_onLease s _).trans (calm_checkComplete _)
    · exact calm_onLease s _
    · exact .refl s
  · exact .refl s

/-- One operation after another over a list leaves what each of them leaves. -/
theorem Calm.foldl {α : Type} {op : State → α → State} (h : ∀ s a, Calm s (op s a)) (as : List α)
    (s : State) : Calm s (as.foldl op s) := by
  induction as generalizing s with
  | nil => exact .refl s
  | cons a as ih => exact (h s a).trans (ih _)

theorem calm_hearReply (src : Byte) (es : List ReplyIn) (s : State) : Calm s (s.hearReply src es) :=
  (Calm.foldl (fun t (e : ReplyIn) => calm_raiseClock e.stamp t) es s).trans
    (.foldl (calm_hearReplyEntry _) es _)

theorem calm_hearAsk (src cls : Byte) (stamp : Stamp) (s : State) : Calm s (s.hearAsk src cls stamp) := by
  unfold State.hearAsk
  dsimp only
  refine (calm_raiseClock stamp s).trans ?_
  split
  · exact .refl _
  · split
    · split
      · exact (calm_addReply _ _).trans (calm_onLease _ _)
      · exact ((calm_addReply _ _).trans (calm_onLease _ _)).trans
          (.ite _ ((calm_onLease _ _).trans (calm_sendAsk _)) (.refl _))
    · exact .refl _

theorem calm_hearWithdraw (src : Byte) (stamp : Stamp) (s : State) : Calm s (s.hearWithdraw src stamp) :=
  (calm_raiseClock stamp s).trans (.ite _ (calm_onLease _ _) (.refl _))

theorem calm_badReceptionCount (s : State) : Calm s s.countRxError := calm_onLif s _

theorem scanGoesOn_badReception (burst : List Byte) (s : State) : ScanGoesOn s (s.badReception burst) := by
  unfold State.badReception
  split
  · exact .ite _ (.refl s) (.of_eq rfl rfl)
  · exact scanGoesOn_receive _ _ s fun t => .ite _ (.refl t) (.of_eq rfl rfl)

theorem scanGoesOn_quietWaitEnd (s : State) : ScanGoesOn s s.quietWaitEnd :=
  .ite _ (ScanGoesOn.trans (scanGoesOn_elapse _ s) (.of_calm (calm_onLif _ _))) (.refl s)

theorem scanGoesOn_collision (s : State) : ScanGoesOn s s.collision := by
  unfold State.collision
  split
  · exact .ite _ (.of_eq rfl rfl) (.of_eq rfl rfl)
  all_goals exact .refl s

theorem scanGoesOn_backoffEnd (s : State) : ScanGoesOn s s.backoffEnd := by
  unfold State.backoffEnd
  split
  · exact ScanGoesOn.trans (scanGoesOn_elapse _ s) (.of_calm (calm_onLif _ _))
  all_goals exact .refl s

theorem scanGoesOn_transmitComplete (s : State) : ScanGoesOn s s.transmitComplete := by
  unfold State.transmitComplete
  split
  · exact .of_eq rfl rfl
  all_goals exact .refl s

theorem scanGoesOn_jabberCutoff (s : State) : ScanGoesOn s s.jabberCutoff := by
  unfold State.jabberCutoff
  split
  · exact ScanGoesOn.trans (scanGoesOn_elapse _ s)
      (ScanGoesOn.trans (.of_calm (calm_onLif _ _)) (scanGoesOn_latch _ _ _))
  all_goals exact .refl s

theorem scanGoesOn_beaconDue (s : State) : ScanGoesOn s s.beaconDue := by
  refine .ite _ (ScanGoesOn.trans (scanGoesOn_elapse s.roster.beaconTimer.left s) ?_) (.refl s)
  exact ScanGoesOn.trans (.of_calm (calm_placeBeacon _ _)) (.of_eq rfl rfl)

theorem scanGoesOn_ageExpiry (n : Nat) (s : State) : ScanGoesOn s (s.ageExpiry n) := by
  unfold State.ageExpiry
  split
  · exact .refl s
  · exact .ite _ ((scanGoesOn_elapse _ s).trans (scanGoesOn_changeEntry _ _ _)) (.refl s)

theorem calm_lapse (s : State) : Calm s s.lapse :=
  ((calm_placeAsk _ s).trans ((calm_onLease _ _).trans ((calm_setStatus _ _).trans (calm_toIdle _)))).trans
    (.ite _ (calm_present _) (.refl _))

theorem calm_askTimeout (s : State) : Calm s s.askTimeout :=
  .ite _ (.ite _ ((calm_onLease s _).trans (calm_sendAsk _)) (calm_lapse s)) (calm_sendAsk s)

theorem scanGoesOn_askTimerEnd (s : State) : ScanGoesOn s s.askTimerEnd :=
  .ite _ ((scanGoesOn_elapse _ s).trans (.of_calm (calm_askTimeout _))) (.refl s)

theorem scanGoesOn_reaskEnd (s : State) : ScanGoesOn s s.reaskEnd :=
  .ite _ ((scanGoesOn_elapse _ s).trans (.of_calm ((calm_onLease _ _).trans (calm_presentWaiting _ _)))) (.refl s)

theorem scanGoesOn_holdOverrun (s : State) : ScanGoesOn s s.holdOverrun :=
  .ite _ ((scanGoesOn_elapse _ s).trans (.of_calm ((calm_onLease _ _).trans (calm_latch _ _ _)))) (.refl s)

theorem scanGoesOn_setEnd (s : State) : ScanGoesOn s s.setEnd :=
  .guard _ fun h => .of_phase _ (beq_iff_eq.1 (Bool.and_eq_true_iff.1 h).2)

theorem scanGoesOn_cureEnd (s : State) : ScanGoesOn s s.cureEnd :=
  .guard _ fun h => .of_phase _ (beq_iff_eq.1 (Bool.and_eq_true_iff.1 h).2)

theorem State.phase_of_proofReading {s : State} {b c d : Bool}
    (h : (s.seqIn .holdLoad && b && c && d) = true) : s.crew.phase = .stressing := by
  simp only [Bool.and_eq_true] at h
  exact State.phase_of_seqIn h.1.1.1

theorem scanGoesOn_proofReading (s : State) : ScanGoesOn s s.proofReading := by
  unfold State.proofReading
  split
  · exact .refl s
  · exact .guard _ fun h => .of_phase _ (State.phase_of_proofReading h)

theorem scanGoesOn_rampTimerLimit (s : State) : ScanGoesOn s s.rampTimerLimit := by
  unfold State.rampTimerLimit
  split
  · exact .refl s
  · exact (scanGoesOn_elapse _ s).trans (scanGoesOn_latch _ _ _)

theorem scanGoesOn_unloadTimerLimit (s : State) : ScanGoesOn s s.unloadTimerLimit := by
  unfold State.unloadTimerLimit
  split
  · exact .refl s
  next timer _ =>
    refine (scanGoesOn_elapse timer.left s).trans (ScanGoesOn.trans ?_ (scanGoesOn_latch _ _ _))
    exact .ite _ (.of_eq rfl rfl) (.of_eq rfl rfl)

/-- Every command but POWER_ON and STORE_SCAN_END leaves the store scan running (R182, R187). -/
theorem scanGoesOn_eventOf (c : Instr) (s : State) (hpower : ∀ a b d, c ≠ .powerOn a b d)
    (hscan : c ≠ .storeScanEnd) : ScanGoesOn s (eventOf c s) := by
  cases c with
  | powerOn a b d => exact absurd rfl (hpower a b d)
  | storeScanEnd => exact absurd rfl hscan
  | startListenEnd => exact .guard _ fun h ⟨hs, _⟩ => nomatch hs.symm.trans h.1
  | go => exact scanGoesOn_goPress s
  | stop => exact scanGoesOn_stopPress s
  | stopRelease => exact scanGoesOn_onCrew s (fun c => { c with stopHold := .off }) rfl rfl
  | longStop => exact scanGoesOn_longStop s
  | holdOn => exact scanGoesOn_holdOn s
  | holdOff => exact scanGoesOn_holdOff s
  | keepPinChange high => exact scanGoesOn_keepChange high s
  | badReception burst => exact scanGoesOn_badReception burst s
  | beacon dst src b => exact scanGoesOn_receive dst src s (scanGoesOn_hearBeacon src b)
  | ask dst src cls stamp count => exact scanGoesOn_receive dst src s fun t => .of_calm (calm_hearAsk src cls stamp t)
  | reply dst src es => exact scanGoesOn_receive dst src s fun t => .of_calm (calm_hearReply src es t)
  | withdraw dst src stamp => exact scanGoesOn_receive dst src s fun t => .of_calm (calm_hearWithdraw src stamp t)
  | leave dst src => exact scanGoesOn_receive dst src s (scanGoesOn_changeEntry _ _)
  | retire dst src n => exact scanGoesOn_receive dst src s (scanGoesOn_changeEntry _ _)
  | alert dst src cause phase value => exact scanGoesOn_receive dst src s (scanGoesOn_hearAlert src cause phase)
  | reportDiscard dst src => exact scanGoesOn_receive dst src s .refl
  | frameNotAccepted dst src => exact scanGoesOn_receive dst src s .refl
  | bind dst src b => exact scanGoesOn_receiveQuery dst src _ s
  | statusQuery dst src => exact scanGoesOn_receiveQuery dst src _ s
  | recordQuery dst src slot part => exact scanGoesOn_receiveQuery dst src _ s
  | exportedQuery dst src slot number => exact scanGoesOn_receiveQuery dst src _ s
  | queryUnknown dst src what => exact scanGoesOn_receiveQuery dst src _ s
  | quietWaitEnd => exact scanGoesOn_quietWaitEnd s
  | collision => exact scanGoesOn_collision s
  | backoffEnd => exact scanGoesOn_backoffEnd s
  | transmitComplete => exact scanGoesOn_transmitComplete s
  | jabberCutoff => exact scanGoesOn_jabberCutoff s
  | beaconTimer => exact scanGoesOn_beaconDue s
  | beaconAgeExpiry number => exact scanGoesOn_ageExpiry _ s
  | askTimer => exact scanGoesOn_askTimerEnd s
  | reaskDelayEnd => exact scanGoesOn_reaskEnd s
  | holdTimerOverrun => exact scanGoesOn_holdOverrun s
  | scanPublish v => exact scanGoesOn_scan v s
  | offTimeEnd =>
    refine .guard _ fun h => .of_phase .placing ?_
    simp only [Bool.and_eq_true, State.placeIn_iff] at h
    exact h.1.2.1
  | slackFound => exact scanGoesOn_slackEvent s
  | cleanDistanceReached => exact scanGoesOn_cleanDistanceEvent s
  | placementComplete => exact scanGoesOn_placementEvent s
  | breakIn => exact scanGoesOn_breakInEvent s
  | fillComplete => exact scanGoesOn_fillEvent s
  | volumeLimit => exact scanGoesOn_volumeEvent s
  | refusal => exact scanGoesOn_refusalEvent s
  | headerSag => exact scanGoesOn_sagEvent s
  | yieldEnd => exact .guard _ fun h => .of_phase _ (State.phase_of_groutIn (Bool.and_eq_true_iff.1 h).2)
  | cleanTimeReached => exact scanGoesOn_cleanTimeEvent s
  | settingBreakthrough => exact scanGoesOn_settingEvent s
  | setTimerEnd => exact scanGoesOn_setEnd s
  | cureTimerEnd => exact scanGoesOn_cureEnd s
  | rampTimerLimit => exact scanGoesOn_rampTimerLimit s
  | stepHoldEnd =>
    refine .guard _ fun h => .of_phase .stressing ?_
    simp only [Bool.and_eq_true] at h
    exact State.phase_of_seqIn h.1.1
  | alignCheck =>
    refine .guard _ fun h => .of_phase .stressing ?_
    simp only [Bool.and_eq_true] at h
    exact State.phase_of_seqIn h.1.1
  | proofReading => exact scanGoesOn_proofReading s
  | seatingEnd => exact .guard _ fun h => .of_phase _ (State.phase_of_seqIn (Bool.and_eq_true_iff.1 h).1)
  | unloadTimerLimit => exact scanGoesOn_unloadTimerLimit s
  | settleEnd => exact scanGoesOn_settleEnd s
  | lowTimeReached => exact scanGoesOn_lowEvent s
  | recoveryTimeReached => exact scanGoesOn_recoveryEvent s
  | topupSeatingEnd => exact .guard _ fun h => .of_phase _ (State.phase_of_stageIn (Bool.and_eq_true_iff.1 h).1)
  | topupSettleEnd => exact scanGoesOn_topUpSettleEnd s
  | jackOver => exact .ite _ (scanGoesOn_latch _ _ _) (.refl s)
  | groutOver => exact .ite _ (scanGoesOn_latch _ _ _) (.refl s)
  | extRunaway => exact .ite _ (scanGoesOn_latch _ _ _) (.refl s)
  | sensorFault ch => exact scanGoesOn_sensorEvent ch s
  | writeJobComplete => exact scanGoesOn_completeHead s

/-! ## The closings of the scan (R182) -/

theorem closePower_idem (x : Option SlotRecord) : closePower (closePower x) = closePower x := by
  cases x with
  | none => rfl
  | some r =>
    cases h : r.isOpen <;> simp [closePower, h]

/-- A slot that is not OPEN is as the scan leaves it. -/
theorem closePower_of_not_open {x : Option SlotRecord} (h : (x.map SlotRecord.isOpen).getD false = false) :
    closePower x = x := by
  cases x with
  | none => rfl
  | some r => simp_all [closePower]

/-- Closing the first OPEN slot leaves what the scan will have made of all of them. -/
theorem map_closePower_closeFirst (l : List (Option SlotRecord)) :
    (closeFirst l).map closePower = l.map closePower := by
  induction l with
  | nil => rfl
  | cons x rest ih =>
    unfold closeFirst
    split
    · simp [closePower_idem]
    · simp [ih]

theorem map_closePower_of_not_open {c : Contents} (h : c.anyOpen = false) : c.closedPower = c := by
  have hslots : c.slots.map closePower = c.slots := by
    refine (List.map_congr_left fun x hx => ?_).trans (List.map_id _)
    simp only [Contents.anyOpen, List.any_eq_false, Bool.not_eq_true] at h
    exact closePower_of_not_open (h x hx)
  rw [Contents.closedPower, hslots]

theorem closePower_bounded {x : Option SlotRecord} (h : (x.map SlotRecord.bounded).getD true = true) :
    ((closePower x).map SlotRecord.bounded).getD true = true := by
  cases x with
  | none => rfl
  | some r =>
    simp only [closePower]
    split
    · simpa [SlotRecord.bounded] using h
    · exact h

theorem closeFirst_length (l : List (Option SlotRecord)) : (closeFirst l).length = l.length := by
  induction l with
  | nil => rfl
  | cons x rest ih => unfold closeFirst; split <;> simp [ih]

theorem mem_closeFirst {x : Option SlotRecord} {l : List (Option SlotRecord)} (h : x ∈ closeFirst l) :
    ∃ y ∈ l, x = y ∨ x = closePower y := by
  induction l with
  | nil => cases h
  | cons z rest ih =>
    unfold closeFirst at h
    split at h
    · rcases List.mem_cons.1 h with h | h
      · exact ⟨z, List.mem_cons_self, .inr h⟩
      · exact ⟨x, List.mem_cons_of_mem _ h, .inl rfl⟩
    · rcases List.mem_cons.1 h with h | h
      · exact ⟨z, List.mem_cons_self, .inl h⟩
      · obtain ⟨y, hy, e⟩ := ih h
        exact ⟨y, List.mem_cons_of_mem _ hy, e⟩

theorem closeFirst_bounded {c : Contents} (h : c.bounded = true) :
    Contents.bounded { c with slots := closeFirst c.slots } = true := by
  simp only [Contents.bounded, Bool.and_eq_true, beq_iff_eq, List.all_eq_true] at h ⊢
  refine ⟨(closeFirst_length _).trans h.1, fun x hx => ?_⟩
  obtain ⟨y, hy, e⟩ := mem_closeFirst hx
  rcases e with rfl | rfl
  · exact h.2 _ hy
  · exact closePower_bounded (h.2 _ hy)

/-- A store as the scan leaves it at its end is sound. -/
theorem Store.soundInScan.sound {t : Store} (h : t.soundInScan) (hclosed : t.nv.anyOpen = false) : t.sound := by
  obtain ⟨himage, hqueue, hbounded⟩ := h
  refine ⟨?_, by simp [hqueue], ?_⟩
  · rw [Store.replays, himage, hqueue]
    exact map_closePower_of_not_open hclosed
  · rw [hqueue]
    exact hbounded

/-- The memory of a store that stands, in the scan or after it, is within its limits. -/
theorem State.storeStands.bounded {s : State} (h : s.storeStands) : s.store.nv.bounded = true := by
  by_cases hstage : s.crew.stage = .storeScan
  · exact ((State.storeStands_of_stage hstage).1 h).2.2.2.2
  · have hrun := ((State.storeStands_of_stage_ne hstage).1 h).2.2
    cases hq : s.store.queue with
    | nil => rwa [hq] at hrun
    | cons j rest =>
      rw [hq, boundedRun, Bool.and_eq_true] at hrun
      exact hrun.1

theorem storeStands_powerOn (straps : BitVec 6) (keep hold : Bool) {s : State} (h : s.storeStands) :
    (s.powerOn straps keep hold).storeStands := by
  have hscan : (s.powerOn straps keep hold).store.soundInScan := ⟨rfl, rfl, h.bounded⟩
  cases hopen : s.store.nv.anyOpen with
  | true =>
    refine (State.storeStands_of_stage ?_).2 ⟨?_, .inl rfl, hscan⟩
    all_goals simp [State.powerOn, Crew.reset, hopen]
  | false =>
    refine (State.storeStands_of_stage_ne ?_).2 (hscan.sound hopen)
    simp [State.powerOn, Crew.reset, hopen]

theorem storeStands_storeScanEnd {s : State} (h : s.storeStands) : s.storeScanEnd.storeStands := by
  unfold State.storeScanEnd
  split
  next hstage =>
    obtain ⟨_, hphase, himage, hqueue, hbounded⟩ := (State.storeStands_of_stage hstage).1 h
    have hscan : (s.onStore fun x => { x with nv := { x.nv with slots := closeFirst x.nv.slots } }).store.soundInScan := by
      refine ⟨himage.trans ?_, hqueue, closeFirst_bounded hbounded⟩
      exact congrArg (fun l => { s.store.nv with slots := l }) (map_closePower_closeFirst s.store.nv.slots).symm
    dsimp only
    split
    · exact (State.storeStands_of_stage (by exact hstage)).2 ⟨hstage, hphase, hscan⟩
    next hclosed =>
      exact (State.storeStands_of_stage_ne (by simp)).2 (hscan.sound (Bool.eq_false_iff.2 hclosed))
  · exact h

/-- The stage is the store scan after the end of the start listen only where it was (R188). -/
theorem listenEnd_stage_ne (s : State) (h : s.crew.stage ≠ .storeScan) : s.listenEnd.crew.stage ≠ .storeScan := by
  unfold State.listenEnd
  split
  · rw [(regular_sendBeacon _).stage]
    exact nofun
  · exact h

/-- Outside the store scan, every command but POWER_ON and STORE_SCAN_END keeps the stage outside it. -/
theorem eventOf_stage_ne {c : Instr} {s : State} (hpower : ∀ a b d, c ≠ .powerOn a b d) (hscan : c ≠ .storeScanEnd)
    (h : s.crew.stage ≠ .storeScan) : (eventOf c s).crew.stage ≠ .storeScan := by
  by_cases hlisten : c = .startListenEnd
  · subst hlisten
    exact listenEnd_stage_ne s h
  · rwa [(regular_eventOf c s hpower hlisten hscan).stage]

/-- Every command but POWER_ON and STORE_SCAN_END keeps the commands that wait, the straps, an accepted binding, the
clock's direction and a sound store. -/
theorem keeps_eventOf (c : Instr) (s : State) (hpower : ∀ a b d, c ≠ .powerOn a b d) (hscan : c ≠ .storeScanEnd) :
    Keeps s (eventOf c s) := by
  by_cases hlisten : c = .startListenEnd
  · subst hlisten
    exact keeps_listenEnd s
  · exact (regular_eventOf c s hpower hlisten hscan).keeps

theorem storeStands_eventOf (c : Instr) {s : State} (h : s.storeStands) : (eventOf c s).storeStands := by
  by_cases hpower : ∃ a b d, c = .powerOn a b d
  · obtain ⟨a, b, d, rfl⟩ := hpower
    exact storeStands_powerOn a b d h
  have hpower' : ∀ a b d, c ≠ .powerOn a b d := fun a b d e => hpower ⟨a, b, d, e⟩
  by_cases hscan : c = .storeScanEnd
  · subst hscan
    exact storeStands_storeScanEnd h
  by_cases hstage : s.crew.stage = .storeScan
  · have hin := scanGoesOn_eventOf c s hpower' hscan ((State.storeStands_of_stage hstage).1 h)
    exact (State.storeStands_of_stage hin.1).2 hin
  · refine (State.storeStands_of_stage_ne (eventOf_stage_ne hpower' hscan hstage)).2 ?_
    exact (keeps_eventOf c s hpower' hscan).store ((State.storeStands_of_stage_ne hstage).1 h)

/-- The closing of an event touches neither the stage nor the phase nor the store. -/
theorem storeStands_finish {s : State} (h : s.storeStands) : s.finish.storeStands := by
  unfold State.storeStands
  rwa [State.finish_crew, State.finish_store]

/-! ## The statements -/

/-- Settles O57: outside the store scan every event keeps a sound store; in it no block works and nothing is handed
over, and each closing leaves the image as it is. -/
theorem storeStaysSound : Obligations.StoreStaysSound := by
  refine ⟨fun c s t hpower hscan hexec hsound => ?_, fun c s t hexec hstands => ?_⟩
  · rw [eq_finish_of_exec hexec]
    exact (keeps_finish _).store ((keeps_eventOf c s hpower hscan).store hsound)
  · rw [eq_finish_of_exec hexec]
    exact storeStands_finish (storeStands_eventOf c hstands)

/-- The store scan reaches neither the binding, nor the roster, nor the clock, nor the straps, nor the queue. -/
theorem storeScanEnd_eq (s : State) :
    s.storeScanEnd = { s with store := s.storeScanEnd.store, crew := s.storeScanEnd.crew } := by
  unfold State.storeScanEnd
  split_ifs
  · dsimp only
    split <;> rfl
  · rfl

/-- Settles O60: every event keeps what is asked, and so does the closing; STORE_SCAN_END reaches none of it. -/
theorem bindingRosterAndClockStand : Obligations.BindingRosterAndClockStand := by
  intro c s t hpower hexec
  rw [eq_finish_of_exec hexec]
  by_cases hscan : c = .storeScanEnd
  · subst hscan
    have hclose := keeps_finish s.storeScanEnd
    rw [show eventOf .storeScanEnd s = s.storeScanEnd from rfl]
    rw [storeScanEnd_eq s] at hclose ⊢
    exact ⟨hclose.bound, hclose.clock, hclose.straps, hclose.pending⟩
  · have hkeeps := (keeps_eventOf c s hpower hscan).trans (keeps_finish _)
    exact ⟨hkeeps.bound, hkeeps.clock, hkeeps.straps, hkeeps.pending⟩

end Sys2Proof.Machine

/-! SUPPORT. Lease and work, and the deferred list: what each operation of the lease, each block's work and each command
make of them (R37, R44, R47, R58, R67, R120, R139, R145, R149). -/

namespace Sys2Proof.Machine

/-! ## What the two laws read -/

/-- The phase is as it was, and so is what the sub-states mean to the lease. -/
structure SamePlace (s t : State) : Prop where
  phase   : t.crew.phase = s.crew.phase
  pending : t.pendingTopUp = s.pendingTopUp
  mayAsk  : t.mayAsk = s.mayAsk
  mayHold : t.mayHold = s.mayHold

theorem SamePlace.of_eq {s t : State} (hp : t.crew.phase = s.crew.phase) (hs : t.seq.sub = s.seq.sub)
    (ha : t.aft.sub = s.aft.sub) : SamePlace s t := by
  constructor <;> simp only [State.pendingTopUp, State.mayAsk, State.mayHold, State.seqIn, State.toppingUp, hp, hs, ha]

theorem SamePlace.trans {s t u : State} (h : SamePlace s t) (k : SamePlace t u) : SamePlace s u :=
  ⟨k.phase.trans h.phase, k.pending.trans h.pending, k.mayAsk.trans h.mayAsk, k.mayHold.trans h.mayHold⟩

/-- What the law of lease and work reads is as it was. -/
structure SameDuty (s t : State) : Prop extends SamePlace s t where
  state   : t.lease.state = s.lease.state
  asks    : t.lease.ask.isSome = s.lease.ask.isSome
  request : t.request = s.request

theorem SameDuty.trans {s t u : State} (h : SameDuty s t) (k : SameDuty t u) : SameDuty s u :=
  ⟨h.toSamePlace.trans k.toSamePlace, k.state.trans h.state, k.asks.trans h.asks, k.request.trans h.request⟩

/-- What either law reads is as it was, but that the deferred list may have lost entries. -/
structure SameWork (s t : State) : Prop extends SameDuty s t where
  empty : s.lease.deferred = [] → t.lease.deferred = []

/-- The request is read from the phase and the two blocks that may hold one. -/
theorem State.request_congr {s t : State} (hp : t.crew.phase = s.crew.phase) (hs : t.seq.request = s.seq.request)
    (ha : t.aft.request = s.aft.request) : t.request = s.request := by
  simp only [State.request, hp, hs, ha]

theorem SameWork.refl (s : State) : SameWork s s := ⟨⟨⟨rfl, rfl, rfl, rfl⟩, rfl, rfl, rfl⟩, id⟩

theorem SameWork.trans {s t u : State} (h : SameWork s t) (k : SameWork t u) : SameWork s u :=
  ⟨h.toSameDuty.trans k.toSameDuty, fun e => k.empty (h.empty e)⟩

theorem SameWork.ite {s t u : State} (p : Prop) [Decidable p] (h : SameWork s t) (k : SameWork s u) :
    SameWork s (if p then t else u) := by
  split
  · exact h
  · exact k

/-- The lease, the phase and the sub-states are as they were. -/
theorem SameWork.of_eq {s t : State} (hl : t.lease = s.lease) (hp : t.crew.phase = s.crew.phase)
    (hss : t.seq.sub = s.seq.sub) (hsr : t.seq.request = s.seq.request) (has : t.aft.sub = s.aft.sub)
    (har : t.aft.request = s.aft.request) : SameWork s t :=
  ⟨⟨.of_eq hp hss has, by rw [hl], by rw [hl], State.request_congr hp hsr har⟩, fun h => hl ▸ h⟩

/-- A change of the lease that leaves its state, whether an ask is out, and an empty deferred list. -/
theorem sameWork_onLease (s : State) (f : Lease → Lease) (hs : (f s.lease).state = s.lease.state)
    (ha : (f s.lease).ask.isSome = s.lease.ask.isSome)
    (hd : s.lease.deferred = [] → (f s.lease).deferred = []) : SameWork s (s.onLease f) :=
  ⟨⟨⟨rfl, rfl, rfl, rfl⟩, hs, ha, rfl⟩, hd⟩

theorem sameWork_onSeq (s : State) (f : Seq → Seq) (hs : (f s.seq).sub = s.seq.sub)
    (hr : (f s.seq).request = s.seq.request) : SameWork s (s.onSeq f) := .of_eq rfl rfl hs hr rfl rfl

theorem sameWork_onAft (s : State) (f : Aft → Aft) (hs : (f s.aft).sub = s.aft.sub)
    (hr : (f s.aft).request = s.aft.request) : SameWork s (s.onAft f) := .of_eq rfl rfl rfl rfl hs hr

theorem sameWork_onLif (s : State) (f : Lif → Lif) : SameWork s (s.onLif f) := .of_eq rfl rfl rfl rfl rfl rfl

theorem sameWork_onRoster (s : State) (f : Roster → Roster) : SameWork s (s.onRoster f) :=
  .of_eq rfl rfl rfl rfl rfl rfl

theorem sameWork_onScan (s : State) (f : Scan → Scan) : SameWork s (s.onScan f) := .of_eq rfl rfl rfl rfl rfl rfl

theorem sameWork_onTrip (s : State) (f : Trip → Trip) : SameWork s (s.onTrip f) := .of_eq rfl rfl rfl rfl rfl rfl

theorem sameWork_onStore (s : State) (f : Store → Store) : SameWork s (s.onStore f) :=
  .of_eq rfl rfl rfl rfl rfl rfl

theorem sameWork_onDrives (s : State) (f : Drives → Drives) : SameWork s (s.onDrives f) :=
  .of_eq rfl rfl rfl rfl rfl rfl

theorem sameWork_onPlacement (s : State) (f : Placement → Placement) : SameWork s (s.onPlacement f) :=
  .of_eq rfl rfl rfl rfl rfl rfl

theorem sameWork_onGrout (s : State) (f : Grout → Grout) : SameWork s (s.onGrout f) :=
  .of_eq rfl rfl rfl rfl rfl rfl

theorem sameWork_onCrew (s : State) (f : Crew → Crew) (h : (f s.crew).phase = s.crew.phase) :
    SameWork s (s.onCrew f) := .of_eq rfl h rfl rfl rfl rfl

theorem sameWork_drawFree (s : State) : SameWork s s.drawFree := .of_eq rfl rfl rfl rfl rfl rfl

theorem sameWork_elapse (d : Nat) (s : State) : SameWork s (s.elapse d) :=
  ⟨⟨⟨rfl, rfl, rfl, rfl⟩, rfl, rfl, rfl⟩, id⟩

theorem sameWork_finish (s : State) : SameWork s s.finish :=
  .of_eq s.finish_lease (by rw [State.finish_crew]) (by rw [State.finish_seq]) (by rw [State.finish_seq])
    (by rw [State.finish_aft]) (by rw [State.finish_aft])

theorem sameWork_handOver (j : Job) (s : State) : SameWork s (s.handOver j) := .ite _ (sameWork_onStore s _) (.refl s)

theorem sameWork_placeAsk (f : AskFrame) (s : State) : SameWork s (s.placeAsk f) :=
  .ite _ (.refl s) (sameWork_onLif s _)

theorem sameWork_placeAlert (a : Alert) (s : State) : SameWork s (s.placeAlert a) :=
  .ite _ (.refl s) (sameWork_onLif s _)

theorem sameWork_placeBeacon (b : Beacon) (s : State) : SameWork s (s.placeBeacon b) :=
  .ite _ (.refl s) (sameWork_onLif s _)

theorem sameWork_addReply (e : ReplyEntry) (s : State) : SameWork s (s.addReply e) :=
  .ite _ (.refl s) (sameWork_onLif s _)

theorem sameWork_pushReport (dst : Byte) (r : Report) (s : State) : SameWork s (s.pushReport dst r) :=
  sameWork_onLif s _

theorem sameWork_restartQuiet (s : State) : SameWork s s.restartQuiet := sameWork_onLif s _

theorem sameWork_raiseClock (v : Stamp) (s : State) : SameWork s (s.raiseClock v) :=
  sameWork_onLease s _ rfl rfl id

theorem sameWork_sendAsk (s : State) : SameWork s s.sendAsk := by
  unfold State.sendAsk
  split
  · exact .refl s
  · exact (sameWork_placeAsk _ s).trans (sameWork_onLease _ _ rfl rfl id)

theorem sameWork_handTest (job : Nat → Job) (s : State) : SameWork s (s.handTest job) := by
  unfold State.handTest
  split
  · exact .refl s
  · exact sameWork_handOver _ s

theorem sameWork_addPoint (load : Nat) (ext : Int) (s : State) : SameWork s (s.addPoint load ext) :=
  sameWork_handTest _ s

theorem sameWork_closeTest (v : Option Verdict) (residual : Option Nat) (s : State) :
    SameWork s (s.closeTest v residual) := by
  unfold State.closeTest
  split
  · exact .refl s
  · exact sameWork_handTest _ s

/-! ## The law of the deferred list (R44) -/

/-- The deferred list is empty where the lease is IDLE. -/
def State.listQuiet (s : State) : Prop := s.lease.state = .idle → s.lease.deferred = []

/-- Neither the phase nor a pending top-up holds grants back (R44). -/
def State.grantsAll (s : State) : Prop := s.freshGrout = false ∧ s.pendingTopUp = false

theorem State.listAnswered_iff (s : State) : s.listAnswered ↔ (s.grantsAll → s.listQuiet) :=
  ⟨fun h hg hi => h hi hg.1 hg.2, fun h hi hf hp => h ⟨hf, hp⟩ hi⟩

theorem State.listQuiet.answered {s : State} (h : s.listQuiet) : s.listAnswered := fun hi _ _ => h hi

theorem State.freshGrout_congr {s t : State} (h : t.crew.phase = s.crew.phase) : t.freshGrout = s.freshGrout := by
  simp only [State.freshGrout, h]

theorem State.listAnswered_of_fresh {s : State} (h : s.crew.phase = .grouting ∨ s.crew.phase = .setting) :
    s.listAnswered := by
  intro _ hf _
  rcases h with h | h <;> simp [State.freshGrout, h] at hf

theorem State.listAnswered_of_pending {s : State} (h : s.pendingTopUp = true) : s.listAnswered :=
  fun _ _ hp => nomatch h.symm.trans hp

theorem State.listAnswered_of_busy {s : State} (h : s.lease.state ≠ .idle) : s.listAnswered :=
  fun hi _ _ => absurd hi h

theorem State.grantsAll_of_stressing {s : State} (h : s.crew.phase = .stressing) : s.grantsAll := by
  simp [State.grantsAll, State.freshGrout, State.pendingTopUp, h]

theorem State.grantsAll_of_toppingUp {s : State} (h : s.toppingUp = true) : s.grantsAll := by
  obtain ⟨hp, hs⟩ := s.toppingUp_iff.1 h
  simp [State.grantsAll, State.freshGrout, State.pendingTopUp, hp, hs]

theorem State.grantsAll_congr {s t : State} (h : SamePlace s t) : t.grantsAll ↔ s.grantsAll := by
  rw [State.grantsAll, State.freshGrout_congr h.phase, h.pending, State.grantsAll]

/-- A step that leaves what holds grants back, and where the lease is IDLE after it leaves the lease's state and an
empty list. -/
theorem State.listAnswered_of_same {s t : State} (hp : SamePlace s t) (hs : t.lease.state = s.lease.state)
    (hd : s.lease.deferred = [] → t.lease.deferred = []) (h : s.listAnswered) : t.listAnswered := by
  rw [State.listAnswered_iff] at h ⊢
  exact fun hg hi => hd (h ((State.grantsAll_congr hp).1 hg) (hs ▸ hi))

/-! ## The law of lease and work -/

theorem State.mayHold_of_mayAsk {s : State} (h : s.mayAsk = true) : s.mayHold = false := by
  simp only [State.mayAsk, Bool.or_eq_true, State.seqIn_iff, State.pendingTopUp_iff] at h
  obtain (⟨hp, hs⟩ | ⟨hp, hs⟩) | ⟨hp, hs⟩ := h <;>
    simp [State.mayHold, State.seqIn, State.toppingUp, hp, hs]

/-- A sub-state that moves the load or stands over it. -/
theorem State.mayHold_of_sub {s : State} {x : SeqSub} (hp : s.crew.phase = .stressing) (hs : s.seq.sub = some x)
    (hx : x ≠ .waitLease ∧ x ≠ .abortWait) : s.mayHold = true ∧ s.mayAsk = false := by
  simp [State.mayHold, State.mayAsk, State.seqIn, State.pendingTopUp, hp, hs, hx.1, hx.2]

theorem State.mayHold_of_toppingUp {s : State} (h : s.toppingUp = true) : s.mayHold = true := by
  simp [State.mayHold, h]

/-- Within the work of a test that holds the lease. -/
theorem samePlace_of_subs {s t : State} {x y : SeqSub} (hp : s.crew.phase = .stressing)
    (ht : t.crew.phase = .stressing) (hs : s.seq.sub = some x) (hu : t.seq.sub = some y)
    (hx : x ≠ .waitLease ∧ x ≠ .abortWait) (hy : y ≠ .waitLease ∧ y ≠ .abortWait) : SamePlace s t := by
  obtain ⟨hs1, hs2⟩ := State.mayHold_of_sub hp hs hx
  obtain ⟨ht1, ht2⟩ := State.mayHold_of_sub ht hu hy
  exact ⟨ht.trans hp.symm, by simp [State.pendingTopUp, hp, ht, show (Phase.stressing == Phase.locked) = false from rfl], ht2.trans hs2.symm, ht1.trans hs1.symm⟩

theorem State.leaseFits_idle {s : State} (h : s.lease.state = .idle) :
    s.leaseFits ↔
      s.mayHold = false ∧ s.request.isSome = s.mayAsk ∧ s.request.map Request.status ≠ some .taken := by
  unfold State.leaseFits
  rw [h]

theorem State.leaseFits_asking {s : State} (h : s.lease.state = .asking) :
    s.leaseFits ↔
      s.mayAsk = true ∧ s.request.map Request.status = some .taken ∧ s.lease.ask.isSome = true := by
  unfold State.leaseFits
  rw [h]

theorem State.leaseFits_holding {s : State} (h : s.lease.state = .holding) :
    s.leaseFits ↔
      s.mayHold = true ∧ s.request.map Request.status = some .taken ∧ s.lease.ask.isSome = true := by
  unfold State.leaseFits
  rw [h]

theorem State.leaseFits_congr {s t : State} (h : SameDuty s t) : t.leaseFits ↔ s.leaseFits := by
  unfold State.leaseFits
  rw [h.state, h.mayHold, h.mayAsk, h.request, h.asks]

/-- Without a requester the lease fits just when it is IDLE. -/
theorem State.leaseFits_of_no_requester {s : State} (h : ¬s.hasRequester) :
    s.leaseFits ↔ s.lease.state = .idle := by
  simp only [State.hasRequester, not_or] at h
  have hask : s.mayAsk = false := by simp [State.mayAsk, State.seqIn, State.pendingTopUp, h.1, h.2]
  have hhold : s.mayHold = false := by simp [State.mayHold, State.toppingUp, h.1, h.2]
  have hreq : s.request = none := by simp [State.request, h.1, h.2]
  cases hs : s.lease.state with
  | idle => simp [State.leaseFits_idle hs, hask, hhold, hreq]
  | asking => simp [State.leaseFits_asking hs, hask]
  | holding => simp [State.leaseFits_holding hs, hhold]

/-- A request that waits stands in IDLE alone. -/
theorem State.idle_of_waiting {s : State} {x : Option HoldReason} (h : s.leaseFits) (hw : s.waitsWith x = true) :
    s.lease.state = .idle := by
  simp only [State.waitsWith, beq_iff_eq] at hw
  cases hs : s.lease.state with
  | idle => rfl
  | asking => exact absurd (hw.symm.trans ((State.leaseFits_asking hs).1 h).2.1) (by simp)
  | holding => exact absurd (hw.symm.trans ((State.leaseFits_holding hs).1 h).2.1) (by simp)

/-- Work that moves the load is done in HOLDING, under a request that is taken. -/
theorem State.holding_of_mayHold {s : State} (h : s.leaseFits) (hw : s.mayHold = true) :
    s.lease.state = .holding ∧ s.request.map Request.status = some .taken := by
  cases hs : s.lease.state with
  | idle => exact absurd (hw.symm.trans ((State.leaseFits_idle hs).1 h).1) (by decide)
  | asking =>
    exact absurd (hw.symm.trans (State.mayHold_of_mayAsk ((State.leaseFits_asking hs).1 h).1)) (by decide)
  | holding => exact ⟨rfl, ((State.leaseFits_holding hs).1 h).2.1⟩

/-- Where neither an ask nor a hold may stand, the lease is IDLE. -/
theorem State.idle_of_neither {s : State} (h : s.leaseFits) (ha : s.mayAsk = false) (hh : s.mayHold = false) :
    s.lease.state = .idle := by
  cases hs : s.lease.state with
  | idle => rfl
  | asking => exact absurd (ha.symm.trans ((State.leaseFits_asking hs).1 h).1) (by decide)
  | holding => exact absurd (hh.symm.trans ((State.leaseFits_holding hs).1 h).1) (by decide)

/-- In WAIT_LEASE, ABORT_WAIT and PENDING the lease is not HOLDING. -/
theorem State.not_holding_of_mayAsk {s : State} (h : s.leaseFits) (ha : s.mayAsk = true) :
    s.lease.state ≠ .holding := by
  intro hs
  exact absurd ((State.mayHold_of_mayAsk ha).symm.trans ((State.leaseFits_holding hs).1 h).1) (by decide)

/-! ## Both laws kept -/

/-- From `s` to `t` both laws are kept. -/
structure Lawful (s t : State) : Prop where
  fits     : s.leaseFits → t.leaseFits
  answered : s.listAnswered → t.listAnswered

theorem Lawful.refl (s : State) : Lawful s s := ⟨id, id⟩

theorem Lawful.trans {s t u : State} (h : Lawful s t) (k : Lawful t u) : Lawful s u :=
  ⟨fun hs => k.fits (h.fits hs), fun hs => k.answered (h.answered hs)⟩

theorem Lawful.ite {s t u : State} (p : Prop) [Decidable p] (h : p → Lawful s t) (k : ¬p → Lawful s u) :
    Lawful s (if p then t else u) := by
  split
  next hp => exact h hp
  next hp => exact k hp

/-- An event with a condition. -/
theorem Lawful.guard {s t : State} (p : Prop) [Decidable p] (h : p → Lawful s t) :
    Lawful s (if p then t else s) := .ite p h fun _ => .refl s

theorem SameWork.lawful {s t : State} (h : SameWork s t) : Lawful s t :=
  ⟨(State.leaseFits_congr h.toSameDuty).2, State.listAnswered_of_same h.toSamePlace h.state h.empty⟩

theorem Lawful.foldl {α : Type} {op : State → α → State} (h : ∀ s a, Lawful s (op s a)) (as : List α)
    (s : State) : Lawful s (as.foldl op s) := by
  induction as generalizing s with
  | nil => exact .refl s
  | cons a as ih => exact (h s a).trans (ih _)

/-! ### Requests -/

@[simp] theorem State.setRequest_lease (r : Option Request) (s : State) : (s.setRequest r).lease = s.lease := by
  unfold State.setRequest; split_ifs <;> rfl

@[simp] theorem State.setRequest_crew (r : Option Request) (s : State) : (s.setRequest r).crew = s.crew := by
  unfold State.setRequest; split_ifs <;> rfl

@[simp] theorem State.setRequest_seq_sub (r : Option Request) (s : State) :
    (s.setRequest r).seq.sub = s.seq.sub := by
  unfold State.setRequest; split_ifs <;> rfl

@[simp] theorem State.setRequest_aft_sub (r : Option Request) (s : State) :
    (s.setRequest r).aft.sub = s.aft.sub := by
  unfold State.setRequest; split_ifs <;> rfl

theorem samePlace_setRequest (r : Option Request) (s : State) : SamePlace s (s.setRequest r) :=
  .of_eq (by rw [State.setRequest_crew]) (s.setRequest_seq_sub r) (s.setRequest_aft_sub r)

theorem samePlace_setStatus (st : RequestStatus) (s : State) : SamePlace s (s.setStatus st) :=
  samePlace_setRequest _ s

@[simp] theorem State.setStatus_lease (st : RequestStatus) (s : State) : (s.setStatus st).lease = s.lease :=
  State.setRequest_lease _ s

/-- A block that owns the lease now holds the request it has been given. -/
theorem State.request_setRequest {s : State} (h : s.hasRequester) (r : Option Request) :
    (s.setRequest r).request = r := by
  unfold State.request State.setRequest
  by_cases hs : s.crew.phase = .stressing
  · simp [hs]
  · have hl : s.crew.phase = .locked := h.resolve_left hs
    simp [hl]

theorem State.request_setStatus {s : State} (st : RequestStatus) :
    (s.setStatus st).request = s.request.map fun r => { r with status := st } := by
  cases hr : s.request with
  | none =>
    unfold State.setStatus
    rw [hr]
    by_cases h : s.hasRequester
    · exact State.request_setRequest h none
    · simp only [State.hasRequester, not_or] at h
      simp [State.request, State.setRequest, h.1, h.2]
  | some r =>
    unfold State.setStatus
    rw [hr]
    exact State.request_setRequest (State.hasRequester_of_request hr) _

theorem State.hasRequester_of_mayAsk {s : State} (h : s.mayAsk = true) : s.hasRequester := by
  simp only [State.mayAsk, Bool.or_eq_true, State.seqIn_iff, State.pendingTopUp_iff] at h
  obtain (h | h) | h := h
  · exact .inl h.1
  · exact .inl h.1
  · exact .inr h.1

/-! ### Going IDLE -/

@[simp] theorem State.grantThose_lease_state (p : Deferred → Bool) (s : State) :
    (s.grantThose p).lease.state = s.lease.state := by rw [(grantThose_fields p s).1]

/-- A grant of the deferred list touches the deferred list and the line interface. -/
theorem sameDuty_grantThose (p : Deferred → Bool) (s : State) : SameDuty s (s.grantThose p) := by
  rw [State.grantThose_eq]
  exact ⟨⟨rfl, rfl, rfl, rfl⟩, rfl, rfl, rfl⟩

theorem sameDuty_grantDeferred (s : State) : SameDuty s s.grantDeferred := by
  unfold State.grantDeferred
  split_ifs
  · exact (SameWork.refl s).toSameDuty
  · exact sameDuty_grantThose _ s
  · exact sameDuty_grantThose _ s

theorem samePlace_idled (s : State) : SamePlace s s.idled := ⟨rfl, rfl, rfl, rfl⟩

theorem samePlace_withdrawn (s : State) : SamePlace s s.withdrawn := ⟨rfl, rfl, rfl, rfl⟩

/-- Where nothing holds grants back, the lease's return to IDLE empties the list (R44). -/
theorem State.listQuiet_toIdle {s : State} (h : s.grantsAll) : s.toIdle.listQuiet := by
  have hans := (s.toIdle.listAnswered_iff).1 (toIdle_listAnswered s)
  refine hans ?_
  rw [State.toIdle_eq]
  exact h

/-- A request that waits, in a sub-state that has one, fits the lease's return to IDLE. -/
theorem State.leaseFits_toIdle {s : State} {x : Option HoldReason} (ha : s.mayAsk = true)
    (hr : s.request.map Request.status = some (.waiting x)) : s.toIdle.leaseFits := by
  rw [State.toIdle_eq]
  refine (State.leaseFits_idle rfl).2 ⟨State.mayHold_of_mayAsk ha, ?_, ?_⟩
  · show s.request.isSome = s.mayAsk
    rw [ha]
    cases hq : s.request with
    | none => simp [hq] at hr
    | some r => rfl
  · show s.request.map Request.status ≠ some .taken
    rw [hr]
    exact nofun

theorem SamePlace.requester {s t : State} (h : SamePlace s t) : t.hasRequester ↔ s.hasRequester := by
  rw [State.hasRequester, h.phase, State.hasRequester]

/-- The status of a request that is there becomes the new one. -/
theorem State.status_setStatus {s : State} (st : RequestStatus) (h : s.request.isSome = true) :
    (s.setStatus st).request.map Request.status = some st := by
  rw [State.request_setStatus]
  obtain ⟨r, hr⟩ := Option.isSome_iff_exists.1 h
  simp [hr]

theorem Option.isSome_of_map_eq_some {α β : Type} {f : α → β} {o : Option α} {b : β} (h : o.map f = some b) :
    o.isSome = true := by
  cases o with
  | none => cases h
  | some a => rfl

theorem lawful_withdrawFor (x : HoldReason) (s : State) : Lawful s (s.withdrawFor x) := by
  refine .guard _ fun hask => ⟨fun h => ?_, fun _ => toIdle_listAnswered _⟩
  obtain ⟨hmay, htaken, _⟩ := (State.leaseFits_asking hask).1 h
  have hplace := (sameWork_placeAsk (.withdraw s.askStamp) s).toSameDuty
  refine State.leaseFits_toIdle (x := some x) ?_ (State.status_setStatus _ ?_)
  · exact ((samePlace_setRequest _ _).mayAsk.trans hplace.mayAsk).trans hmay
  · rw [hplace.request]
    exact Option.isSome_of_map_eq_some htaken

/-! ### Latches -/

theorem Seq.atLatch_request (q : Seq) : q.atLatch.request = q.request := by
  unfold Seq.atLatch; split <;> rfl

theorem Aft.atLatch_sub (a : Aft) : a.atLatch.sub = a.sub := by
  unfold Aft.atLatch; split <;> rfl

theorem Aft.atLatch_request (a : Aft) : a.atLatch.request = a.request := by
  unfold Aft.atLatch; split <;> rfl

@[simp] theorem State.blocksAtLatch_aft_sub (s : State) : s.blocksAtLatch.aft.sub = s.aft.sub := by
  unfold State.blocksAtLatch
  dsimp only
  split
  · exact Aft.atLatch_sub _
  · rfl

/-- A test that a latch halts holds the lease before and after (R136). -/
theorem samePlace_blocksAtLatch (s : State) : SamePlace s s.blocksAtLatch := by
  by_cases hp : s.crew.phase = .stressing
  · by_cases hs : s.seq.sub = some .ramp ∨ s.seq.sub = some .holdLoad
    · have hhalt : s.blocksAtLatch.seq.sub = some .halted := by
        simp [State.blocksAtLatch, hp, Seq.atLatch, hs]
      rcases hs with hs | hs <;> exact samePlace_of_subs hp hp hs hhalt (by decide) (by decide)
    · refine .of_eq rfl ?_ s.blocksAtLatch_aft_sub
      simp [State.blocksAtLatch, hp, Seq.atLatch, hs]
  · exact .of_eq rfl (by simp [State.blocksAtLatch, hp]) s.blocksAtLatch_aft_sub

theorem sameWork_blocksAtLatch (s : State) : SameWork s s.blocksAtLatch := by
  refine ⟨⟨samePlace_blocksAtLatch s, rfl, rfl, State.request_congr rfl ?_ ?_⟩, id⟩
  · show (if s.crew.phase = .stressing then s.seq.atLatch else s.seq).request = s.seq.request
    split
    · exact Seq.atLatch_request _
    · rfl
  · show (if s.crew.phase = .locked then s.aft.atLatch else s.aft).request = s.aft.request
    split
    · exact Aft.atLatch_request _
    · rfl

theorem lawful_announce (s : State) : Lawful s s.announce :=
  (Lawful.ite _ (fun _ => .refl s) fun _ => lawful_withdrawFor _ s).trans (sameWork_blocksAtLatch _).lawful

/-- The trip monitor's record of a latch, the listen-only slots and the ALERT, before the latch is announced (R15,
R160, R161, R162). -/
def State.noteLatch (l : Latch) (v : Half) (ch : Option Channel) (s : State) : State :=
  let t := s.onTrip fun x => x.set l s.crew.phase v ch
  (if l = .lineJabber ∨ l = .duplicateId then t.onLif Lif.dropSlots else t).placeAlert ⟨l.cause, s.crew.phase, v⟩

theorem State.setLatch_eq (l : Latch) (v : Half) (ch : Option Channel) (s : State) :
    s.setLatch l v ch = (s.noteLatch l v ch).announce := rfl

theorem sameWork_noteLatch (l : Latch) (v : Half) (ch : Option Channel) (s : State) :
    SameWork s (s.noteLatch l v ch) :=
  (sameWork_onTrip s _).trans ((SameWork.ite _ (sameWork_onLif _ _) (.refl _)).trans (sameWork_placeAlert _ _))

/-- The record and the ALERT leave the lease. -/
theorem State.noteLatch_lease (l : Latch) (v : Half) (ch : Option Channel) (s : State) :
    (s.noteLatch l v ch).lease = s.lease := by
  unfold State.noteLatch State.placeAlert
  dsimp only
  split_ifs <;> rfl

theorem lawful_setLatch (l : Latch) (v : Half) (ch : Option Channel) (s : State) :
    Lawful s (s.setLatch l v ch) := (sameWork_noteLatch l v ch s).lawful.trans (lawful_announce _)

theorem lawful_latch (l : Latch) (v : Half) (s : State) : Lawful s (s.latch l v) :=
  .ite _ (fun _ => .refl s) fun _ => lawful_setLatch l v none s

theorem lawful_nameChannel (c : Channel) (s : State) : Lawful s (s.nameChannel c) :=
  .ite _ (fun _ => .refl s) fun _ => (sameWork_onScan s _).lawful.trans (lawful_setLatch _ _ _ _)

/-- Where no ask is out a latch is announced to the blocks alone (R54). -/
theorem State.announce_of_not_asking {s : State} (h : s.lease.state ≠ .asking) : s.announce = s.blocksAtLatch := by
  rw [State.announce_eq, if_neg fun hc => h hc.1]

/-- A latch leaves the lease where no ask is out. -/
theorem State.latch_lease_of_not_asking (l : Latch) (v : Half) {s : State} (h : s.lease.state ≠ .asking) :
    (s.latch l v).lease = s.lease := by
  unfold State.latch
  split
  · rfl
  · rw [State.setLatch_eq, State.announce_of_not_asking (by rwa [State.noteLatch_lease])]
    exact State.noteLatch_lease l v none s

theorem sameWork_latch_of_not_asking (l : Latch) (v : Half) {s : State} (h : s.lease.state ≠ .asking) :
    SameWork s (s.latch l v) := by
  unfold State.latch
  split
  · exact .refl s
  · rw [State.setLatch_eq, State.announce_of_not_asking (by rwa [State.noteLatch_lease])]
    exact (sameWork_noteLatch l v none s).trans (sameWork_blocksAtLatch _)

/-! ### HOLDING, and a request presented -/

@[simp] theorem State.toldHolding_lease (s : State) : s.toldHolding.lease = s.lease := by
  unfold State.toldHolding; split_ifs <;> rfl

@[simp] theorem State.enterHolding_lease_state (s : State) : s.enterHolding.lease.state = .holding := by
  unfold State.enterHolding; rw [State.toldHolding_lease]; rfl

/-- The requester that is told goes to work: what it may do turns from asking to holding. -/
theorem State.toldHolding_holds {s : State} (h : s.mayAsk = true) :
    s.toldHolding.mayHold = true ∧ s.toldHolding.request = s.request := by
  unfold State.toldHolding
  split
  next hw =>
    have hphase := State.phase_of_seqIn hw
    refine ⟨(State.mayHold_of_sub (x := .ramp) ?_ rfl (by decide)).1, rfl⟩
    exact hphase
  · split
    next hw =>
      have hphase := State.phase_of_seqIn hw
      refine ⟨(State.mayHold_of_sub (x := .abortUnload) ?_ rfl (by decide)).1, rfl⟩
      exact hphase
    · split
      next hw =>
        refine ⟨State.mayHold_of_toppingUp ?_, rfl⟩
        simp [State.toppingUp, (s.pendingTopUp_iff.1 hw).1]
      next h1 h2 h3 => simp [State.mayAsk, h1, h2, h3] at h

theorem State.leaseFits_enterHolding {s : State} (h : s.mayAsk = true)
    (hr : s.request.map Request.status = some .taken) (ha : s.lease.ask.isSome = true) :
    s.enterHolding.leaseFits := by
  refine (State.leaseFits_holding s.enterHolding_lease_state).2 ?_
  unfold State.enterHolding
  obtain ⟨hhold, hreq⟩ := State.toldHolding_holds
    (s := s.onLease fun l => { l with state := .holding, askTimer := .off, hold := .start Config.holdUs }) h
  exact ⟨hhold, by rw [hreq]; exact hr, by rw [State.toldHolding_lease]; exact ha⟩

theorem State.listAnswered_enterHolding (s : State) : s.enterHolding.listAnswered :=
  State.listAnswered_of_busy (by simp)

theorem lawful_checkComplete (s : State) : Lawful s s.checkComplete := by
  refine .guard _ fun hc => ⟨fun h => ?_, fun _ => s.listAnswered_enterHolding⟩
  obtain ⟨hmay, htaken, hout⟩ := (State.leaseFits_asking hc.1).1 h
  exact State.leaseFits_enterHolding hmay htaken hout

/-- The state as a request is taken, before the lease enters ASKING or HOLDING (R38). -/
def State.taking (r : Request) (s : State) : State :=
  (s.onLease fun l =>
    { l with
      clock := l.clock + 1
      ask := some ⟨r.cls, r.abort, l.clock + 1, 1⟩
      required := s.presentMembers }).setStatus .taken

theorem State.take_eq (r : Request) (s : State) :
    s.take r =
      if s.presentMembers.isEmpty then (s.taking r).enterHolding
      else ((s.taking r).onLease fun l => { l with state := .asking }).sendAsk := rfl

theorem State.taking_lease (r : Request) (s : State) :
    (s.taking r).lease =
      { s.lease with
        clock := s.lease.clock + 1, ask := some ⟨r.cls, r.abort, s.lease.clock + 1, 1⟩
        required := s.presentMembers } := by
  unfold State.taking State.setStatus
  rw [State.setRequest_lease]
  rfl

theorem samePlace_taking (r : Request) (s : State) : SamePlace s (s.taking r) := by
  have hset := samePlace_setStatus .taken (s.onLease fun l =>
    { l with
      clock := l.clock + 1
      ask := some ⟨r.cls, r.abort, l.clock + 1, 1⟩
      required := s.presentMembers })
  exact ⟨hset.phase, hset.pending, hset.mayAsk, hset.mayHold⟩

theorem State.leaseFits_take {r : Request} {s : State} (hmay : s.mayAsk = true) (hreq : s.request.isSome = true) :
    (s.take r).leaseFits := by
  have hplace := samePlace_taking r s
  have htaken : (s.taking r).request.map Request.status = some .taken := State.status_setStatus _ hreq
  have hout : (s.taking r).lease.ask.isSome = true := by rw [State.taking_lease]; rfl
  rw [State.take_eq]
  split
  · exact State.leaseFits_enterHolding (hplace.mayAsk.trans hmay) htaken hout
  · refine (State.leaseFits_congr (sameWork_sendAsk _).toSameDuty).2 ?_
    exact (State.leaseFits_asking rfl).2 ⟨hplace.mayAsk.trans hmay, htaken, hout⟩

theorem State.take_busy (r : Request) (s : State) : (s.take r).lease.state ≠ .idle := by
  rw [State.take_eq]
  split
  · simp
  · rw [(sameWork_sendAsk _).state]
    exact nofun

/-- The lease answers `notIdle` just when it is not IDLE (R37). -/
theorem State.checkRequest_notIdle {r : Request} {s : State} (h : s.checkRequest r = .notIdle) :
    s.lease.state ≠ .idle := by
  unfold State.checkRequest at h
  split at h
  next hs => exact hs
  · repeat' split at h
    all_goals cases h

theorem State.checkRequest_idle {r : Request} {s : State} (h : s.checkRequest r ≠ .notIdle) :
    s.lease.state = .idle := by
  unfold State.checkRequest at h
  by_contra hs
  exact h (if_pos hs)

/-- Where there is a requester, no request is discarded (R37). -/
theorem State.checkRequest_ne_discarded {r : Request} {s : State} (h : s.hasRequester) :
    s.checkRequest r ≠ .discarded := by
  unfold State.checkRequest
  have hphase : ¬(s.crew.phase ≠ .stressing ∧ s.crew.phase ≠ .locked) := by
    rintro ⟨h1, h2⟩
    exact h.elim h1 h2
  rw [if_neg hphase]
  split_ifs <;> exact nofun

/-- A request that the lease does not take waits, in IDLE. -/
theorem State.leaseFits_setStatus {s : State} (x : Option HoldReason) (hmay : s.mayAsk = true)
    (hreq : s.request.isSome = true) (hidle : s.lease.state = .idle) : (s.setStatus (.waiting x)).leaseFits := by
  have hplace : SamePlace s (s.setStatus (.waiting x)) := samePlace_setRequest _ s
  have hstatus := State.status_setStatus (.waiting x) hreq
  refine (State.leaseFits_idle (by unfold State.setStatus; rw [State.setRequest_lease]; exact hidle)).2 ⟨?_, ?_, ?_⟩
  · rw [hplace.mayHold, State.mayHold_of_mayAsk hmay]
  · rw [hplace.mayAsk, hmay]
    exact Option.isSome_of_map_eq_some hstatus
  · rw [hstatus]
    exact nofun

/-- A request presented in IDLE waits or is taken, as the lease then stands (R37, R38). -/
theorem State.leaseFits_present {s : State} (hmay : s.mayAsk = true) (hreq : s.request.isSome = true)
    (hidle : s.lease.state = .idle) : s.present.leaseFits := by
  obtain ⟨r, hr⟩ := Option.isSome_iff_exists.1 hreq
  unfold State.present
  rw [hr]
  dsimp only
  split
  next h => exact absurd hidle (State.checkRequest_notIdle h)
  next h => exact absurd h (State.checkRequest_ne_discarded (State.hasRequester_of_mayAsk hmay))
  · exact State.leaseFits_setStatus _ hmay hreq hidle
  · exact (lawful_latch _ _ _).fits (State.leaseFits_setStatus _ hmay hreq hidle)
  · exact State.leaseFits_take hmay hreq

/-- A presentation in IDLE keeps the fit. -/
theorem State.leaseFits_present_of_idle {s : State} (h : s.leaseFits) (hidle : s.lease.state = .idle) :
    s.present.leaseFits := by
  cases hr : s.request with
  | none =>
    unfold State.present
    rw [hr]
    exact h
  | some r =>
    obtain ⟨_, hsome, _⟩ := (State.leaseFits_idle hidle).1 h
    rw [hr] at hsome
    exact State.leaseFits_present hsome.symm (by rw [hr]; rfl) hidle

/-- A presentation leaves the lease IDLE only where it was, with the deferred list and the work as they were. -/
theorem State.present_idle {s : State} (h : s.present.lease.state = .idle) :
    SamePlace s s.present ∧ s.lease.state = .idle ∧ s.present.lease.deferred = s.lease.deferred := by
  revert h
  unfold State.present
  split
  · exact fun h => ⟨(SameWork.refl s).toSamePlace, h, rfl⟩
  · split
    · exact fun h => ⟨samePlace_setStatus _ s, by simpa using h, by simp⟩
    · exact fun h => ⟨(SameWork.refl s).toSamePlace, h, rfl⟩
    · exact fun h => ⟨samePlace_setStatus _ s, by simpa using h, by simp⟩
    next hc =>
      have hidle : s.lease.state = .idle := State.checkRequest_idle (by rw [hc]; exact nofun)
      have hset : (s.setStatus (.waiting (some .held))).lease.state ≠ .asking := by simp [hidle]
      have hlatch := calm_latch .stampEnd 0 (s.setStatus (.waiting (some .held)))
      have hwork := sameWork_latch_of_not_asking .stampEnd 0 hset
      refine fun _ => ⟨(samePlace_setStatus _ s).trans hwork.toSamePlace, hidle, ?_⟩
      rw [State.latch_lease_of_not_asking _ _ hset, State.setStatus_lease]
    · exact fun h => absurd h (State.take_busy _ s)

end Sys2Proof.Machine

/-! SUPPORT. Lease and work, and the deferred list, along every event. -/

namespace Sys2Proof.Machine

/-! ## Presentations, releases, presence -/

theorem State.listAnswered_present {s : State} (h : s.listAnswered) : s.present.listAnswered := by
  rw [State.listAnswered_iff] at h ⊢
  intro hg hi
  obtain ⟨hplace, hidle, hdef⟩ := State.present_idle hi
  rw [hdef]
  exact h ((State.grantsAll_congr hplace).1 hg) hidle

theorem State.listQuiet_present {s : State} (h : s.listQuiet) : s.present.listQuiet := by
  intro hi
  obtain ⟨_, hidle, hdef⟩ := State.present_idle hi
  rw [hdef]
  exact h hidle

theorem State.listQuiet_presentWaiting (x : Option HoldReason) {s : State} (h : s.listQuiet) :
    (s.presentWaiting x).listQuiet := by
  unfold State.presentWaiting
  split
  · exact State.listQuiet_present h
  · exact h

theorem lawful_presentWaiting (x : Option HoldReason) (s : State) : Lawful s (s.presentWaiting x) :=
  .guard _ fun hw =>
    ⟨fun h => State.leaseFits_present_of_idle h (State.idle_of_waiting h hw), State.listAnswered_present⟩

theorem lawful_leaseHearsPresence (n : Nat) (new : Presence) (s : State) :
    Lawful s (s.leaseHearsPresence n new) := by
  have hlist : SameWork s (if new = .retired then
      s.onLease fun l => { l with deferred := l.deferred.filter fun d => d.number != n } else s) := by
    refine .ite _ (sameWork_onLease s _ rfl rfl fun h => ?_) (.refl s)
    simp [h]
  refine hlist.lawful.trans (.guard _ fun _ => .ite _ (fun _ => lawful_withdrawFor _ _) fun _ => .guard _ fun _ => ?_)
  exact (sameWork_onLease _ _ rfl rfl id).lawful.trans (lawful_checkComplete _)

/-- In IDLE the lease hears of a presence change without leaving IDLE. -/
theorem State.leaseHearsPresence_idle {n : Nat} {new : Presence} {s : State} (h : s.lease.state = .idle) :
    (s.leaseHearsPresence n new).lease.state = .idle := by
  unfold State.leaseHearsPresence
  by_cases hr : new = .retired <;> simp [hr, h]

theorem lawful_presenceChanged (n : Nat) (old new : Presence) (s : State) :
    Lawful s (s.presenceChanged n old new) := by
  have hhears := lawful_leaseHearsPresence n new s
  refine .ite _ (fun _ => .refl s) fun _ => .ite _ (fun hw => ?_) fun _ => hhears
  refine ⟨fun h => ?_, fun h => State.listAnswered_present (hhears.answered h)⟩
  exact State.leaseFits_present_of_idle (hhears.fits h)
    (State.leaseHearsPresence_idle (State.idle_of_waiting h hw))

theorem lawful_changeEntry (n : Nat) (f : Entry → Entry) (s : State) : Lawful s (s.changeEntry n f) := by
  cases he : s.entry n with
  | none => rw [State.changeEntry_of_no_entry f he]; exact .refl s
  | some e =>
    rw [State.changeEntry_of_entry f he]
    exact (sameWork_onRoster s _).lawful.trans (lawful_presenceChanged _ _ _ _)

theorem lawful_receive (dst src : Byte) {act : State → State} (s : State) (h : ∀ t, Lawful t (act t)) :
    Lawful s (s.receive dst src act) :=
  .ite _ (fun _ => .refl s) fun _ =>
    (sameWork_restartQuiet s).lawful.trans
      (.ite _ (fun _ => lawful_latch _ _ _) fun _ => .ite _ (fun _ => h _) fun _ => .refl _)

theorem lawful_takeQuery (dst : Byte) {act : State → State} (s : State) (h : ∀ t, Lawful t (act t)) :
    Lawful s (s.takeQuery dst act) :=
  .ite _ (fun _ => .refl s) fun _ => .ite _ (fun _ => h s) fun _ => (sameWork_onLif s _).lawful

theorem lawful_receiveQuery (dst src : Byte) {act : State → State} (s : State) (h : ∀ t, Lawful t (act t)) :
    Lawful s (s.receive dst src fun t => t.takeQuery dst act) :=
  lawful_receive dst src s fun t => lawful_takeQuery dst t h

theorem State.withdrawGone_of_not_asking {s : State} (h : s.lease.state ≠ .asking) : s.withdrawGone = s :=
  if_neg h

/-- After a withdrawal the lease is IDLE, unless it was HOLDING. -/
theorem State.withdrawGone_idle {s : State} (h : s.lease.state ≠ .holding) : s.withdrawGone.lease.state = .idle := by
  by_cases hask : s.lease.state = .asking
  · rw [State.withdrawGone_eq s hask, State.setRequest_lease]
    rfl
  · rw [State.withdrawGone_of_not_asking hask]
    cases hs : s.lease.state with
    | idle => rfl
    | asking => exact absurd hs hask
    | holding => exact absurd hs h

theorem samePlace_withdrawGone (s : State) : SamePlace s s.withdrawGone := by
  by_cases hask : s.lease.state = .asking
  · rw [State.withdrawGone_eq s hask]
    exact (samePlace_withdrawn s).trans (samePlace_setRequest _ _)
  · rw [State.withdrawGone_of_not_asking hask]
    exact (SameWork.refl s).toSamePlace

theorem State.listAnswered_withdrawGone {s : State} (h : s.listAnswered) : s.withdrawGone.listAnswered := by
  unfold State.withdrawGone
  split
  · exact toIdle_listAnswered _
  · exact h

theorem State.listQuiet_withdrawGone {s : State} (hg : s.grantsAll) (h : s.listQuiet) :
    s.withdrawGone.listQuiet := by
  have hans := State.listAnswered_withdrawGone h.answered
  exact (State.listAnswered_iff _).1 hans ((State.grantsAll_congr (samePlace_withdrawGone s)).2 hg)

/-- A release by the requester of a taken request leaves the lease IDLE (R55, R58). -/
theorem State.release_idle {s : State}
    (h : s.lease.state = .holding → s.request.map Request.status = some .taken) :
    s.release.lease.state = .idle := by
  by_cases hs : s.lease.state = .holding
  · rw [State.release_eq s hs (h hs), State.setRequest_lease]
    rfl
  · unfold State.release
    rw [if_neg hs]
    exact State.withdrawGone_idle hs

/-- Where nothing holds grants back, a release leaves no entry deferred in IDLE (R44, R58). -/
theorem State.listQuiet_release {s : State} (hg : s.grantsAll) (h : s.listQuiet) : s.release.listQuiet := by
  have hgone : SamePlace s (if s.request.map Request.status = some .taken then s.setRequest none else s) := by
    split
    · exact samePlace_setRequest none s
    · exact (SameWork.refl s).toSamePlace
  by_cases hs : s.lease.state = .holding
  · unfold State.release
    rw [if_pos hs]
    exact State.listQuiet_presentWaiting _ (State.listQuiet_toIdle ((State.grantsAll_congr hgone).2 hg))
  · unfold State.release
    rw [if_neg hs]
    exact State.listQuiet_withdrawGone hg h

/-! ## Phases without a requester -/

/-- A step between phases without a requester that leaves the lease's state. -/
theorem State.leaseFits_of_no_requesters {s t : State} (hs : ¬s.hasRequester) (ht : ¬t.hasRequester)
    (h : t.lease.state = s.lease.state) : s.leaseFits → t.leaseFits := by
  rw [State.leaseFits_of_no_requester hs, State.leaseFits_of_no_requester ht, h]
  exact id

theorem State.no_requester_of_phase {s : State} {p : Phase} (h : s.crew.phase = p)
    (hp : p ≠ .stressing ∧ p ≠ .locked := by decide) : ¬s.hasRequester := by
  rintro (h' | h')
  · exact hp.1 (h.symm.trans h')
  · exact hp.2 (h.symm.trans h')

/-- A move into GROUTING or SETTING from a phase without a requester. -/
theorem lawful_toFresh {s t : State} (hs : ¬s.hasRequester)
    (ht : t.crew.phase = .grouting ∨ t.crew.phase = .setting) (h : t.lease.state = s.lease.state) : Lawful s t := by
  have hnone : ¬t.hasRequester := ht.elim (State.no_requester_of_phase ·) (State.no_requester_of_phase ·)
  exact ⟨State.leaseFits_of_no_requesters hs hnone h, fun _ => State.listAnswered_of_fresh ht⟩

@[simp] theorem State.handOver_lease (j : Job) (s : State) : (s.handOver j).lease = s.lease := by
  unfold State.handOver; split <;> rfl

/-! ### Placement and the grout controller -/

theorem lawful_limitEvent (s : State) : Lawful s s.limitEvent := by
  refine .ite _ (fun _ => Lawful.trans ?_ (lawful_latch _ _ _)) fun _ => ?_
  · exact ((sameWork_onPlacement s _).trans (sameWork_onPlacement _ _)).lawful
  · exact ((sameWork_onPlacement s _).trans (sameWork_onPlacement _ _)).lawful

theorem sameWork_countRope (rise : Nat) (s : State) : SameWork s (s.countRope rise) := by
  unfold State.countRope
  exact sameWork_onPlacement s _

theorem lawful_placementScan (rise : Nat) (s : State) : Lawful s (s.placementScan rise) :=
  Lawful.trans (t := s.countRope rise) (sameWork_countRope rise s).lawful
    (.ite _ (fun _ => .refl _) fun _ => .guard _ fun _ =>
      .ite _ (fun _ => lawful_limitEvent _) fun _ => (sameWork_onPlacement _ _).lawful)

theorem lawful_breakInEvent (s : State) : Lawful s s.breakInEvent := .guard _ fun _ => lawful_latch _ _ _

theorem sameWork_cleanDistanceEvent (s : State) : SameWork s s.cleanDistanceEvent :=
  .ite _ (sameWork_onPlacement s _) (.refl s)

theorem sameWork_slackEvent (s : State) : SameWork s s.slackEvent := .ite _ (sameWork_onPlacement s _) (.refl s)

theorem calm_breakInEvent (s : State) : Calm s s.breakInEvent := .ite _ (calm_latch _ _ _) (.refl s)

theorem State.cleanDistanceEvent_crew (s : State) : s.cleanDistanceEvent.crew = s.crew := by
  unfold State.cleanDistanceEvent; split <;> rfl

theorem lawful_completePlacement {s : State} (h : s.crew.phase = .placing) : Lawful s s.completePlacement :=
  lawful_toFresh (State.no_requester_of_phase h) (.inl rfl) (congrArg Lease.state (State.handOver_lease _ s))

theorem lawful_placementEvent (s : State) : Lawful s s.placementEvent := by
  refine .guard _ fun h => (lawful_breakInEvent s).trans ((sameWork_cleanDistanceEvent _).lawful.trans ?_)
  refine lawful_completePlacement ?_
  rw [State.cleanDistanceEvent_crew, (calm_breakInEvent s).crew]
  exact State.phase_of_placementDue h

theorem lawful_offTimeEnd (s : State) : Lawful s s.offTimeEnd :=
  .guard _ fun _ => ((sameWork_elapse _ s).trans (sameWork_onPlacement _ _)).lawful

theorem sameWork_groutScan (s : State) : SameWork s s.groutScan := by
  unfold State.groutScan
  have hcount : SameWork s (s.countGrout.modulate.onGrout fun g => { g with testsOpen := s.groutOpen }) :=
    (SameWork.ite _ (sameWork_onGrout s _) (.refl s)).trans
      ((SameWork.ite _ (sameWork_onGrout _ _) (.refl _)).trans (sameWork_onGrout _ _))
  exact hcount.trans (.ite _ (.refl _) (.ite _ (sameWork_onGrout _ _) (.refl _)))

theorem lawful_endGrouting (r : GroutResult) {s : State} (h : s.crew.phase = .grouting) :
    Lawful s (s.endGrouting r) :=
  lawful_toFresh (State.no_requester_of_phase h) (.inr rfl) (congrArg Lease.state (State.handOver_lease _ s))

theorem lawful_volumeEvent (s : State) : Lawful s s.volumeEvent :=
  .guard _ fun h => lawful_endGrouting _ (State.phase_of_volumeDue h)

theorem lawful_refusalEvent (s : State) : Lawful s s.refusalEvent :=
  .ite _ (fun h => lawful_endGrouting _ (State.phase_of_volumeDue h)) fun _ =>
    .guard _ fun h => lawful_endGrouting _ (State.phase_of_refusalDue h)

theorem lawful_fillEvent (s : State) : Lawful s s.fillEvent :=
  .ite _ (fun h => lawful_endGrouting _ (State.phase_of_volumeDue h)) fun _ =>
    .guard _ fun _ => (sameWork_onGrout s _).lawful

theorem lawful_sagEvent (s : State) : Lawful s s.sagEvent :=
  .guard _ fun _ => (lawful_fillEvent s).trans (sameWork_onGrout _ _).lawful

theorem lawful_yieldEnd (s : State) : Lawful s s.yieldEnd :=
  .guard _ fun _ => ((sameWork_elapse _ s).trans (sameWork_onGrout _ _)).lawful

theorem sameWork_cleanTimeEvent (s : State) : SameWork s s.cleanTimeEvent :=
  .ite _ (sameWork_onGrout s _) (.refl s)

theorem lawful_groutStop (s : State) : Lawful s s.groutStop :=
  .guard _ fun h => lawful_endGrouting _ (State.phase_of_groutBegun h)

theorem sameWork_noteAlert (n : Nat) (cause : AlertCause) (phase : Phase) (s : State) :
    SameWork s (s.noteAlert n cause phase) := sameWork_onRoster s _

theorem lawful_hearAlert (src cause phase : Byte) (s : State) : Lawful s (s.hearAlert src cause phase) := by
  unfold State.hearAlert
  split
  next c p _ _ =>
    refine .guard _ fun _ => Lawful.trans (t := s.noteAlert src.toNat c p) (sameWork_noteAlert _ c p s).lawful ?_
    exact .guard _ fun h => lawful_endGrouting _ (State.phase_of_groutBegun h.2)
  · exact .refl s

theorem sameWork_settingEvent (s : State) : SameWork s s.settingEvent :=
  .ite _ ((sameWork_placeAlert _ s).trans (sameWork_onGrout _ _)) (.refl s)

theorem lawful_toCuring {s : State} (h : s.crew.phase = .setting) : Lawful s s.toCuring := by
  refine ⟨State.leaseFits_of_no_requesters (State.no_requester_of_phase h) ?_ ?_,
    fun _ => grantDeferred_listAnswered _⟩
  · rw [State.toCuring, (sameDuty_grantDeferred _).requester]
    exact State.no_requester_of_phase (p := .curing) rfl
  · exact (sameDuty_grantDeferred _).state

theorem lawful_setEnd (s : State) : Lawful s s.setEnd := by
  refine .guard _ fun h => (sameWork_elapse _ s).lawful.trans (lawful_toCuring ?_)
  exact beq_iff_eq.1 (Bool.and_eq_true_iff.1 h).2

theorem lawful_cureEnd (s : State) : Lawful s s.cureEnd := by
  refine .guard _ fun h => ?_
  have hphase : s.crew.phase = .curing := beq_iff_eq.1 (Bool.and_eq_true_iff.1 h).2
  refine ⟨State.leaseFits_of_no_requesters (State.no_requester_of_phase hphase)
    (State.no_requester_of_phase (p := .cured) rfl) rfl, fun hans => ?_⟩
  have hgrants : s.grantsAll := by simp [State.grantsAll, State.freshGrout, State.pendingTopUp, hphase]
  exact State.listQuiet.answered (s.listAnswered_iff.1 hans hgrants)

/-! ### The aftercare monitor -/

theorem sameWork_openTopUpSlot (s : State) : SameWork s s.openTopUpSlot := by
  unfold State.openTopUpSlot
  split
  · exact (sameWork_handOver _ s).trans (sameWork_onAft _ _ rfl rfl)
  · exact .refl s
  · exact .refl s

theorem State.listAnswered_setRequest (r : Option Request) {s : State} (h : s.listAnswered) :
    (s.setRequest r).listAnswered :=
  State.listAnswered_of_same (samePlace_setRequest r s) (by rw [State.setRequest_lease])
    (by rw [State.setRequest_lease]; exact id) h

theorem State.listQuiet_setRequest (r : Option Request) {s : State} (h : s.listQuiet) :
    (s.setRequest r).listQuiet := by
  unfold State.listQuiet
  rwa [State.setRequest_lease]

/-- A new request in IDLE, in a sub-state that has one. -/
theorem State.leaseFits_ask {cls : AskClass} {abort : Bool} {s : State} (hmay : s.mayAsk = true)
    (hidle : s.lease.state = .idle) : (s.ask cls abort).leaseFits := by
  refine State.leaseFits_present ?_ ?_ ?_
  · rw [(samePlace_setRequest _ s).mayAsk, hmay]
  · rw [State.request_setRequest (State.hasRequester_of_mayAsk hmay)]
    rfl
  · rwa [State.setRequest_lease]

theorem State.listAnswered_ask {cls : AskClass} {abort : Bool} {s : State} (h : s.listAnswered) :
    (s.ask cls abort).listAnswered := State.listAnswered_present (State.listAnswered_setRequest _ h)

theorem State.listQuiet_ask {cls : AskClass} {abort : Bool} {s : State} (h : s.listQuiet) :
    (s.ask cls abort).listQuiet := State.listQuiet_present (State.listQuiet_setRequest _ h)

theorem State.mayAsk_of_pending {s : State} (h : s.pendingTopUp = true) : s.mayAsk = true := by
  simp [State.mayAsk, h]

theorem State.leaseFits_askSlot {s : State} (hp : s.pendingTopUp = true) (hidle : s.lease.state = .idle) :
    s.askSlot.leaseFits := by
  have hslot := sameWork_openTopUpSlot s
  have hp' : s.openTopUpSlot.pendingTopUp = true := hslot.pending.trans hp
  unfold State.askSlot
  dsimp only
  split
  · exact State.leaseFits_ask (State.mayAsk_of_pending hp') (hslot.state.trans hidle)
  · have hmay := State.mayAsk_of_pending hp'
    have hlocked : s.openTopUpSlot.crew.phase = .locked := ((State.pendingTopUp_iff _).1 hp').1
    have hreq : (s.openTopUpSlot.onAft fun a =>
        { a with request := some ⟨.restore, false, .waiting (some .storeFull)⟩ }).request
        = some ⟨.restore, false, .waiting (some .storeFull)⟩ := by
      simp [State.request, hlocked]
    refine (State.leaseFits_idle ?_).2 ⟨State.mayHold_of_mayAsk hmay, ?_, ?_⟩
    · exact hslot.state.trans hidle
    · rw [hreq]
      exact hmay.symm
    · rw [hreq]
      simp

theorem State.listAnswered_askSlot {s : State} (h : s.listAnswered) : s.askSlot.listAnswered := by
  have hslot := (sameWork_openTopUpSlot s).lawful.answered h
  unfold State.askSlot
  dsimp only
  split
  · exact State.listAnswered_ask hslot
  · exact hslot

theorem lawful_lowEvent (s : State) : Lawful s s.lowEvent := by
  refine .guard _ fun hdue => .ite _ (fun _ => ?_) fun _ => ?_
  · obtain ⟨hphase, hsub⟩ := State.watch_of_lowDue hdue
    have hpending : (s.onAft fun a => { a with sub := some .pending, lowTime := 0, recovery := 0 }).pendingTopUp
        = true := (State.pendingTopUp_iff _).2 ⟨hphase, rfl⟩
    refine ⟨fun h => State.leaseFits_askSlot hpending ?_,
      fun _ => State.listAnswered_askSlot (State.listAnswered_of_pending hpending)⟩
    refine State.idle_of_neither (s := s) h ?_ ?_
    · simp [State.mayAsk, State.seqIn, State.pendingTopUp, hphase, hsub]
    · simp [State.mayHold, State.toppingUp, hphase, hsub]
  · unfold State.raiseLossExcess
    dsimp only
    refine Lawful.trans ?_ (sameWork_placeAlert _ _).lawful
    split
    · exact ((sameWork_onAft s _ rfl rfl).trans (sameWork_handOver _ _)).lawful
    · exact (sameWork_onAft s _ rfl rfl).lawful

/-- In WATCH, without a request, the lease fits where it is IDLE. -/
theorem State.leaseFits_watch {s : State} (hp : s.crew.phase = .locked) (hs : s.aft.sub = some .watch)
    (hr : s.aft.request = none) (hidle : s.lease.state = .idle) : s.leaseFits := by
  refine (State.leaseFits_idle hidle).2 ⟨?_, ?_, ?_⟩ <;>
    simp [State.mayHold, State.mayAsk, State.seqIn, State.toppingUp, State.pendingTopUp, State.request, hp, hs, hr]

theorem lawful_recoveryEvent (s : State) : Lawful s s.recoveryEvent := by
  refine .guard _ fun hdue => ⟨fun _ => ?_, fun _ => grantDeferred_listAnswered _⟩
  obtain ⟨⟨hphase, _⟩, hstate⟩ := State.pending_of_recoveryDue hdue
  refine (State.leaseFits_congr (sameDuty_grantDeferred _)).2 (State.leaseFits_watch ?_ rfl rfl ?_)
  · exact (samePlace_withdrawGone s).phase.trans hphase
  · exact State.withdrawGone_idle hstate

theorem lawful_retryStoreFull (s : State) : Lawful s s.retryStoreFull := by
  refine .guard _ fun hc => ?_
  obtain ⟨hpending, hwaits⟩ := Bool.and_eq_true_iff.1 hc
  have hask : Lawful s s.askSlot :=
    ⟨fun h => State.leaseFits_askSlot hpending (State.idle_of_waiting h hwaits), State.listAnswered_askSlot⟩
  refine .ite _ (fun _ => .ite _ (fun _ => ?_) fun _ => ?_) fun _ => hask
  · exact ((sameWork_drawFree s).trans (sameWork_openTopUpSlot _)).lawful.trans (lawful_recoveryEvent _)
  · refine ⟨fun h => State.leaseFits_askSlot hpending ?_, fun h => State.listAnswered_askSlot h⟩
    exact State.idle_of_waiting h hwaits

/-- The end of a top-up: from TOPUP the lease is released, and WATCH has neither work nor request (R150, R152). -/
theorem lawful_endTopUp (after : Nat) (ok : Bool) {s : State} (htop : s.toppingUp = true) :
    Lawful s (s.endTopUp after ok) := by
  unfold State.endTopUp
  dsimp only
  have hentry : SameWork s ((match s.aft.slot with
      | some n => s.handOver (.topUp n ⟨s.aft.before, after, ok⟩)
      | none => s).onAft fun a => { a with count := a.count + 1 }) := by
    split
    · exact (sameWork_handOver _ s).trans (sameWork_onAft _ _ rfl rfl)
    · exact sameWork_onAft _ _ rfl rfl
  refine hentry.lawful.trans ⟨fun h => ?_, fun h => ?_⟩
  · obtain ⟨hholding, htaken⟩ := State.holding_of_mayHold h
      (hentry.mayHold.trans (State.mayHold_of_toppingUp htop))
    refine State.leaseFits_watch ?_ rfl rfl (State.release_idle fun _ => htaken)
    refine Eq.trans (congrArg Crew.phase (calm_release _).crew) ?_
    exact hentry.phase.trans (s.toppingUp_iff.1 htop).1
  · have hgrants := (State.grantsAll_congr hentry.toSamePlace).2 (State.grantsAll_of_toppingUp htop)
    exact State.listQuiet.answered (State.listQuiet_release hgrants ((State.listAnswered_iff _).1 h hgrants))

theorem lawful_stageScan (x : TopUpStage) {s : State} (htop : s.toppingUp = true) : Lawful s (s.stageScan x) := by
  have hramp (lift : Bool) : Lawful s (s.topUpRampScan lift) :=
    (SameWork.ite _
      (.ite _ (sameWork_onAft s _ rfl rfl) (sameWork_onAft s _ rfl rfl))
      (.ite _ (sameWork_onAft s _ rfl rfl) (sameWork_onAft s _ rfl rfl))).lawful
  cases x with
  | lift => exact hramp true
  | ramp => exact hramp false
  | seating => exact .refl s
  | halted => exact .refl s
  | release => exact (SameWork.ite _ (sameWork_onAft s _ rfl rfl) (sameWork_onAft s _ rfl rfl)).lawful
  | abortUnload =>
    exact .ite _ (fun _ => lawful_endTopUp _ _ htop) fun _ => (sameWork_onAft s _ rfl rfl).lawful
  | settle =>
    exact .ite _ (fun _ => .refl s) fun _ => .ite _ (fun _ => lawful_endTopUp _ _ htop) fun _ =>
      (SameWork.ite _ (sameWork_onAft s _ rfl rfl) (.refl s)).lawful

theorem sameWork_watchScan (s : State) : SameWork s s.watchScan := by
  refine sameWork_onAft s _ ?_ ?_ <;> split_ifs <;> rfl

theorem sameWork_pendingScan (s : State) : SameWork s s.pendingScan := by
  refine sameWork_onAft s _ ?_ ?_ <;> split_ifs <;> rfl

theorem lawful_aftScan {s : State} (hp : s.crew.phase = .locked) : Lawful s s.aftScan := by
  unfold State.aftScan
  split
  · exact .refl s
  · exact (sameWork_watchScan s).lawful
  · exact (sameWork_pendingScan s).lawful
  next hs =>
    split
    · exact .refl s
    · exact lawful_stageScan _ (s.toppingUp_iff.2 ⟨hp, hs⟩)

theorem lawful_topUpSeatingEnd (s : State) : Lawful s s.topUpSeatingEnd :=
  .guard _ fun _ => ((sameWork_elapse _ s).trans (sameWork_onAft _ _ rfl rfl)).lawful

theorem lawful_topUpSettleEnd (s : State) : Lawful s s.topUpSettleEnd := by
  refine .guard _ fun hc => ?_
  have hstage := (s.stageIn_iff _).1 (Bool.and_eq_true_iff.1 hc).1
  have hend : SameWork s ((s.expire s.aft.jack.settle).onAft fun a => { a with jack := a.jack.endSettle }) :=
    (sameWork_elapse _ s).trans (sameWork_onAft _ _ rfl rfl)
  refine hend.lawful.trans (.guard _ fun _ => lawful_endTopUp _ _ ?_)
  exact (State.toppingUp_iff _).2 ⟨hstage.1, hstage.2.1⟩

theorem lawful_topUpReadEvent (s : State) : Lawful s s.topUpReadEvent := .guard _ fun _ => lawful_topUpSettleEnd s

/-! ### The sequencer -/

/-- WAIT_LEASE in STRESSING, from IDLE, with its request presented. -/
theorem State.leaseFits_waitLease {s : State} (hp : s.crew.phase = .stressing) (hidle : s.lease.state = .idle) :
    s.waitLease.leaseFits :=
  State.leaseFits_ask (by simp [State.mayAsk, State.seqIn, hp]) hidle

theorem State.leaseFits_abortWait {s : State} (hp : s.crew.phase = .stressing) (hidle : s.lease.state = .idle) :
    s.abortWait.leaseFits :=
  State.leaseFits_ask (by simp [State.mayAsk, State.seqIn, hp]) hidle

/-- A test that ends, with a lease that is not left HOLDING, leaves neither work nor request. -/
theorem State.leaseFits_endTest (v : Option Verdict) (residual : Option Nat) {p : Phase} {s : State}
    (hnext : p ≠ .stressing ∧ p ≠ .locked)
    (hrel : s.lease.state = .holding → s.request.map Request.status = some .taken) :
    (s.endTest v residual p).leaseFits := by
  have hclose := sameWork_closeTest v residual s
  refine (State.leaseFits_of_no_requester (State.no_requester_of_phase (p := p) rfl hnext)).2 ?_
  refine State.release_idle fun hs => ?_
  rw [hclose.request]
  exact hrel (hclose.state.symm.trans hs)

/-- The end of a test in a phase in which it leaves neither work nor request. -/
theorem lawful_endTest (v : Option Verdict) (residual : Option Nat) {p : Phase} {s : State}
    (hp : s.crew.phase = .stressing) (hnext : p ≠ .stressing ∧ p ≠ .locked)
    (hrel : s.leaseFits → s.lease.state = .holding → s.request.map Request.status = some .taken) :
    Lawful s (s.endTest v residual p) := by
  have hclose := sameWork_closeTest v residual s
  have hgrants : (s.closeTest v residual).grantsAll :=
    State.grantsAll_of_stressing (hclose.phase.trans hp)
  refine ⟨fun h => State.leaseFits_endTest v residual hnext (hrel h), fun h => ?_⟩
  · have hquiet := State.listQuiet_release hgrants ((State.listAnswered_iff _).1 (hclose.lawful.answered h) hgrants)
    exact State.listQuiet.answered (s := s.endTest v residual p) hquiet

/-- From a sub-state that holds the lease the request is taken. -/
theorem State.taken_of_sub {s : State} {x : SeqSub} (hp : s.crew.phase = .stressing) (hs : s.seq.sub = some x)
    (hx : x ≠ .waitLease ∧ x ≠ .abortWait) (h : s.leaseFits) :
    s.lease.state = .holding ∧ s.request.map Request.status = some .taken :=
  State.holding_of_mayHold h (State.mayHold_of_sub hp hs hx).1

theorem sameWork_lockOffRecords (s : State) :
    SameWork s
      (if residualLow s.scan.lc.toNat s.stepTarget s.par.lockTol then
        ((s.addPoint s.scan.lc.toNat s.testExt).onSeq fun q => { q with lockOffLow := true }).handTest .lockOffLow
      else s.addPoint s.scan.lc.toNat s.testExt) := by
  refine .ite _ ?_ (sameWork_addPoint _ _ s)
  exact (sameWork_addPoint _ _ s).trans ((sameWork_onSeq _ _ rfl rfl).trans (sameWork_handTest _ _))

/-- A completed lock-off: the lease released, LOCKED in WATCH (R134, R143). -/
theorem lawful_completeLockOff {s : State} {x : SeqSub} (hp : s.crew.phase = .stressing) (hs : s.seq.sub = some x)
    (hx : x ≠ .waitLease ∧ x ≠ .abortWait) : Lawful s s.completeLockOff := by
  have hrec := sameWork_lockOffRecords s
  unfold State.completeLockOff
  dsimp only
  refine hrec.lawful.trans ?_
  generalize (if residualLow s.scan.lc.toNat s.stepTarget s.par.lockTol then
    ((s.addPoint s.scan.lc.toNat s.testExt).onSeq fun q => { q with lockOffLow := true }).handTest .lockOffLow
    else s.addPoint s.scan.lc.toNat s.testExt) = u at hrec
  have hclose := hrec.trans (sameWork_closeTest (some .pass) (some s.scan.lc.toNat) u)
  have hgrants := State.grantsAll_of_stressing (hclose.phase.trans hp)
  refine ⟨fun h => State.leaseFits_watch rfl rfl rfl (State.release_idle fun _ => ?_), fun h => ?_⟩
  · rw [hclose.request]
    exact (State.taken_of_sub hp hs hx ((State.leaseFits_congr hrec.toSameDuty).1 h)).2
  · have hans := (sameWork_closeTest (some .pass) (some s.scan.lc.toNat) u).lawful.answered h
    exact State.listQuiet.answered
      (s := (u.endTest (some .pass) (some s.scan.lc.toNat) .locked).enterLocked s.stepTarget s.seq.slot)
      (State.listQuiet_release hgrants ((State.listAnswered_iff _).1 hans hgrants))

/-- A step ends in HOLD_LOAD: the lease is released, and the next step's request presented (R124, R125, R128). -/
theorem lawful_nextStep {s : State} {x : SeqSub} (hp : s.crew.phase = .stressing) (hs : s.seq.sub = some x)
    (hx : x ≠ .waitLease ∧ x ≠ .abortWait) : Lawful s s.nextStep := by
  have hstop : SameWork s (s.onSeq fun q => { q with holdTimer := .off, jack := q.jack.stop }) :=
    sameWork_onSeq s _ rfl rfl
  refine hstop.lawful.trans ⟨fun h => ?_, fun h => ?_⟩
  · refine State.leaseFits_waitLease ?_ (State.release_idle fun _ => ?_)
    · exact (congrArg Crew.phase (calm_release _).crew).trans hp
    · exact (State.taken_of_sub hp hs hx h).2
  · have hgrants := (State.grantsAll_congr hstop.toSamePlace).2 (State.grantsAll_of_stressing hp)
    have hquiet := State.listQuiet_release hgrants ((State.listAnswered_iff _).1 h hgrants)
    exact State.listQuiet.answered (State.listQuiet_ask hquiet)

/-- A test starts from a phase without a requester (R66, R119). -/
theorem lawful_startTest (slot : Nat) {s : State} (hp : s.crew.phase = .cured) : Lawful s (s.startTest slot) := by
  have hopen : SameWork s (s.openSlot .test slot) := sameWork_handOver _ s
  refine ⟨fun h => ?_, fun h => ?_⟩
  · refine State.leaseFits_waitLease rfl (hopen.state.trans ?_)
    exact (State.leaseFits_of_no_requester (State.no_requester_of_phase hp)).1 h
  · have hgrants : s.grantsAll := by simp [State.grantsAll, State.freshGrout, State.pendingTopUp, hp]
    have hgrants' := (State.grantsAll_congr hopen.toSamePlace).2 hgrants
    have hquiet : (s.openSlot .test slot).listQuiet := (State.listAnswered_iff _).1 (hopen.lawful.answered h) hgrants'
    exact State.listQuiet.answered (State.listQuiet_ask hquiet)

/-- A step within the work of a test that holds the lease, with the request and the lease as they were. -/
theorem lawful_of_subs {s t : State} {x y : SeqSub} (hp : s.crew.phase = .stressing)
    (ht : t.crew.phase = .stressing) (hs : s.seq.sub = some x) (hu : t.seq.sub = some y)
    (hx : x ≠ .waitLease ∧ x ≠ .abortWait) (hy : y ≠ .waitLease ∧ y ≠ .abortWait) (hl : t.lease = s.lease)
    (hr : t.request = s.request) : Lawful s t :=
  SameWork.lawful ⟨⟨samePlace_of_subs hp ht hs hu hx hy, by rw [hl], by rw [hl], hr⟩, fun h => hl ▸ h⟩

/-- A change of the sequencer within such work. -/
theorem lawful_onSeq {s : State} {f : Seq → Seq} {x y : SeqSub} (hp : s.crew.phase = .stressing)
    (hs : s.seq.sub = some x) (hf : (f s.seq).sub = some y) (hx : x ≠ .waitLease ∧ x ≠ .abortWait)
    (hy : y ≠ .waitLease ∧ y ≠ .abortWait) (hr : (f s.seq).request = s.seq.request) : Lawful s (s.onSeq f) :=
  lawful_of_subs hp hp hs hf hx hy rfl (State.request_congr rfl hr rfl)

@[simp] theorem State.handOver_seq (j : Job) (s : State) : (s.handOver j).seq = s.seq := by
  unfold State.handOver; split <;> rfl

@[simp] theorem State.handOver_crew (j : Job) (s : State) : (s.handOver j).crew = s.crew := by
  unfold State.handOver; split <;> rfl

@[simp] theorem State.handTest_seq (job : Nat → Job) (s : State) : (s.handTest job).seq = s.seq := by
  unfold State.handTest; split <;> simp

@[simp] theorem State.handTest_crew (job : Nat → Job) (s : State) : (s.handTest job).crew = s.crew := by
  unfold State.handTest; split <;> simp

@[simp] theorem State.addPoint_seq (load : Nat) (ext : Int) (s : State) : (s.addPoint load ext).seq = s.seq :=
  State.handTest_seq _ s

@[simp] theorem State.addPoint_crew (load : Nat) (ext : Int) (s : State) : (s.addPoint load ext).crew = s.crew :=
  State.handTest_crew _ s

theorem lawful_rampScan {s : State} (hp : s.crew.phase = .stressing) (hs : s.seq.sub = some .ramp) :
    Lawful s s.rampScan := by
  refine .ite _ (fun _ => .ite _ (fun _ => ?_) fun _ => ?_) fun _ => (sameWork_onSeq s _ rfl rfl).lawful
  · refine (sameWork_addPoint _ _ s).lawful.trans
      (lawful_onSeq (x := .ramp) (y := .seating) ?_ ?_ rfl (by decide) (by decide) rfl)
    · rwa [State.addPoint_crew]
    · rwa [State.addPoint_seq]
  · exact lawful_onSeq (y := .holdLoad) hp hs rfl (by decide) (by decide) rfl

theorem lawful_seqScan {s : State} (hp : s.crew.phase = .stressing) : Lawful s s.seqScan := by
  unfold State.seqScan
  split
  case h_1 hs => exact lawful_rampScan hp hs
  case h_2 => exact (sameWork_onSeq s _ rfl rfl).lawful
  case h_3 hs =>
    exact .ite _ (fun _ => lawful_onSeq (y := .settle) hp hs rfl (by decide) (by decide) rfl) fun _ =>
      (sameWork_onSeq s _ rfl rfl).lawful
  case h_4 hs | h_5 hs =>
    refine .ite _ (fun _ => lawful_endTest _ _ hp (by decide) fun h _ => ?_) fun _ =>
      (sameWork_onSeq s _ rfl rfl).lawful
    exact (State.taken_of_sub hp hs (by decide) h).2
  case h_6 hs =>
    exact .ite _ (fun _ => .refl s) fun _ =>
      .ite _ (fun _ => lawful_completeLockOff hp hs (by decide)) fun _ =>
        .guard _ fun _ => (sameWork_onSeq s _ rfl rfl).lawful
  all_goals exact .refl s

/-- The three tests of a hold command name HOLD_LOAD first. -/
theorem State.holdLoad_of_and {s : State} {b c : Bool} (h : (s.seqIn .holdLoad && b && c) = true) :
    s.crew.phase = .stressing ∧ s.seq.sub = some .holdLoad := by
  simp only [Bool.and_eq_true, State.seqIn_iff] at h
  exact h.1.1

theorem lawful_stepHoldEnd (s : State) : Lawful s s.stepHoldEnd := by
  refine .guard _ fun hc => ?_
  obtain ⟨hp, hs⟩ := State.holdLoad_of_and hc
  refine Lawful.trans (t := s.expire s.seq.holdTimer) (sameWork_elapse _ s).lawful
    ((sameWork_addPoint _ _ _).lawful.trans (lawful_nextStep (x := .holdLoad) ?_ ?_ (by decide)))
  · rw [State.addPoint_crew]
    exact hp
  · rw [State.addPoint_seq]
    exact hs

theorem lawful_alignEnd {s : State} (hp : s.crew.phase = .stressing) (hs : s.seq.sub = some .holdLoad) :
    Lawful s s.alignEnd := by
  refine Lawful.trans (t := s.onSeq fun q => { q with datum := some s.scan.ext }) (sameWork_onSeq s _ rfl rfl).lawful
    ((sameWork_addPoint _ _ _).lawful.trans (lawful_nextStep (x := .holdLoad) ?_ ?_ (by decide)))
  · rw [State.addPoint_crew]
    exact hp
  · rw [State.addPoint_seq]
    exact hs

theorem lawful_alignCheck (s : State) : Lawful s s.alignCheck := by
  refine .guard _ fun hc => ?_
  obtain ⟨hp, hs⟩ := State.holdLoad_of_and hc
  exact Lawful.trans (t := s.holdTo (60 * (s.seq.checks + 1))) (sameWork_elapse _ s).lawful
    (.ite _ (fun _ => lawful_alignEnd hp hs) fun _ => (sameWork_onSeq _ _ rfl rfl).lawful)

theorem lawful_failProof (v : FailVerdict) {s : State} (hp : s.crew.phase = .stressing)
    (hs : s.seq.sub = some .holdLoad) : Lawful s (s.failProof v) :=
  lawful_of_subs (y := .failUnload) hp hp hs rfl (by decide) (by decide) rfl rfl

theorem lawful_proofCheck (reading : Nat) {s : State} (hp : s.crew.phase = .stressing)
    (hs : s.seq.sub = some .holdLoad) : Lawful s (s.proofCheck reading) :=
  .ite _ (fun _ => .ite _ (fun _ => .refl s) fun _ => lawful_failProof _ hp hs) fun _ =>
    .ite _
      (fun _ => .ite _ (fun _ => lawful_nextStep hp hs (by decide)) fun _ =>
        ((sameWork_onSeq s _ rfl rfl).trans (sameWork_handTest _ _)).lawful)
      fun _ =>
        .guard _ fun _ => .ite _ (fun _ => lawful_nextStep hp hs (by decide)) fun _ => lawful_failProof _ hp hs

theorem lawful_takeReading (reading : Nat) {s : State} (hp : s.crew.phase = .stressing)
    (hs : s.seq.sub = some .holdLoad) : Lawful s (s.takeReading reading) := by
  refine Lawful.trans ((sameWork_addPoint _ _ s).trans (sameWork_onSeq _ _ rfl rfl)).lawful
    (lawful_proofCheck _ ?_ ?_)
  · rw [State.onSeq_crew, State.addPoint_crew]
    exact hp
  · rw [State.onSeq_seq, State.addPoint_seq]
    exact hs

theorem lawful_proofReading (s : State) : Lawful s s.proofReading := by
  unfold State.proofReading
  split
  · exact .refl s
  next mark _ =>
    refine .guard _ fun hc => ?_
    obtain ⟨hp, hs⟩ := State.holdLoad_of_and (Bool.and_eq_true_iff.1 hc).1
    exact Lawful.trans (t := s.holdTo mark) (sameWork_elapse _ s).lawful (lawful_takeReading _ hp hs)

theorem lawful_rampTimerLimit (s : State) : Lawful s s.rampTimerLimit := by
  unfold State.rampTimerLimit
  split
  · exact .refl s
  · exact (sameWork_elapse _ s).lawful.trans (lawful_latch _ _ _)

theorem sameWork_spendUnload (s : State) : SameWork s s.spendUnload :=
  .ite _ (sameWork_onSeq s _ rfl rfl) (sameWork_onAft s _ rfl rfl)

theorem lawful_unloadTimerLimit (s : State) : Lawful s s.unloadTimerLimit := by
  unfold State.unloadTimerLimit
  split
  · exact .refl s
  next timer _ =>
    exact (sameWork_elapse timer.left s).lawful.trans ((sameWork_spendUnload _).lawful.trans (lawful_latch _ _ _))

theorem lawful_seatingEnd (s : State) : Lawful s s.seatingEnd := by
  refine .guard _ fun hc => ?_
  obtain ⟨hp, hs⟩ := (s.seqIn_iff _).1 (Bool.and_eq_true_iff.1 hc).1
  refine Lawful.trans (t := s.expire s.seq.jack.seating) (sameWork_elapse _ s).lawful ?_
  exact lawful_onSeq (x := .seating) (y := .release) hp hs rfl (by decide) (by decide) rfl

theorem lawful_settleEnd (s : State) : Lawful s s.settleEnd := by
  refine .guard _ fun hc => ?_
  obtain ⟨hp, hs⟩ := (s.seqIn_iff _).1 (Bool.and_eq_true_iff.1 hc).1
  refine Lawful.trans (t := (s.expire s.seq.jack.settle).onSeq fun q => { q with jack := q.jack.endSettle })
    ((sameWork_elapse s.seq.jack.settle.left s).trans (sameWork_onSeq _ _ rfl rfl)).lawful ?_
  exact .guard _ fun _ => lawful_completeLockOff (x := .settle) hp hs (by decide)

theorem lawful_settleReadEvent (s : State) : Lawful s s.settleReadEvent := .guard _ fun _ => lawful_settleEnd s

/-! ### The press of STOP -/

theorem State.endTest_listAnswered (v : Option Verdict) (residual : Option Nat) (p : Phase) {s : State}
    (hp : s.crew.phase = .stressing) (h : s.listAnswered) : (s.endTest v residual p).listAnswered := by
  have hclose := sameWork_closeTest v residual s
  have hgrants : (s.closeTest v residual).grantsAll :=
    State.grantsAll_of_stressing (hclose.phase.trans hp)
  exact State.listQuiet.answered (s := s.endTest v residual p)
    (State.listQuiet_release hgrants ((State.listAnswered_iff _).1 (hclose.lawful.answered h) hgrants))

theorem State.listAnswered_onSeq {s : State} (f : Seq → Seq) (h : s.listAnswered) : (s.onSeq f).listAnswered := h

theorem State.seqStop_listAnswered (asked : Bool) {s : State} (hp : s.crew.phase = .stressing)
    (h : s.listAnswered) : (s.seqStop asked).listAnswered := by
  have hgone := State.listAnswered_setRequest none h
  unfold State.seqStop
  split
  · exact h
  · split
    · dsimp only
      split
      · refine State.endTest_listAnswered _ _ _ ?_ hgone
        exact (congrArg Crew.phase (State.setRequest_crew none s)).trans hp
      · exact State.listAnswered_ask (State.listAnswered_onSeq _ hgone)
    · split
      · exact State.listAnswered_ask h
      · exact h

theorem State.aftStop_listAnswered (asked : Bool) {s : State} (h : s.listAnswered) :
    (s.aftStop asked).listAnswered := by
  unfold State.aftStop
  split
  · exact h
  · split
    · split
      · exact State.listAnswered_ask h
      · exact (lawful_retryStoreFull s).answered h
    · exact h

theorem State.ownerStop_listAnswered (asked : Bool) {s : State} (h : s.listAnswered) :
    (s.ownerStop asked).listAnswered := by
  unfold State.ownerStop
  split
  case h_1 => exact h
  case h_2 => exact (lawful_groutStop s).answered h
  case h_3 hp => exact State.seqStop_listAnswered asked hp h
  case h_4 => exact State.aftStop_listAnswered asked h
  all_goals exact h

/-- In an abort from work that holds the lease, the lease stays held (R138). -/
theorem lawful_abortUnload {s : State} {x : SeqSub} (hp : s.crew.phase = .stressing) (hs : s.seq.sub = some x)
    (hx : x ≠ .waitLease ∧ x ≠ .abortWait) : Lawful s (s.fixAbort.enterUnload .abortUnload) :=
  lawful_of_subs (y := .abortUnload) hp hp hs rfl hx (by decide) rfl rfl

/-- In WAIT_LEASE or ABORT_WAIT no sub-state holds the lease. -/
theorem State.not_seqIn_of_mayAsk {s : State} (h : s.mayAsk = true) (x : SeqSub)
    (hx : x ≠ .waitLease ∧ x ≠ .abortWait) : s.seqIn x = false := by
  by_contra hc
  obtain ⟨hp, hs⟩ := (s.seqIn_iff x).1 (Bool.eq_true_of_not_eq_false hc)
  exact absurd (h.symm.trans (State.mayHold_of_sub hp hs hx).2) (by decide)

/-- STOP in STRESSING with no ask out (R138). -/
theorem State.leaseFits_seqStop {s : State} (hp : s.crew.phase = .stressing) (hstate : s.lease.state ≠ .asking)
    (h : s.leaseFits) : (s.seqStop false).leaseFits := by
  unfold State.seqStop
  split
  next hc =>
    simp only [Bool.or_eq_true, State.seqIn_iff] at hc
    rcases hc with (⟨_, hs⟩ | ⟨_, hs⟩) | ⟨_, hs⟩ <;> exact (lawful_abortUnload hp hs (by decide)).fits h
  · split
    next hw =>
      have hmay : s.mayAsk = true := by simp [State.mayAsk, hw]
      have hphase : ((s.setRequest none).fixAbort).crew.phase = .stressing :=
        (congrArg Crew.phase (State.setRequest_crew none s)).trans hp
      have hlease : ((s.setRequest none).fixAbort).lease.state = s.lease.state :=
        congrArg Lease.state (State.setRequest_lease none s)
      have hnot := State.not_holding_of_mayAsk h hmay
      split
      · exact State.leaseFits_endTest _ _ (by decide) fun hs => absurd (hlease.symm.trans hs) hnot
      · refine State.leaseFits_abortWait hphase (hlease.trans ?_)
        cases hs : s.lease.state with
        | idle => rfl
        | asking => exact absurd hs hstate
        | holding => exact absurd hs hnot
    · split
      next hc => exact absurd (Bool.and_eq_true_iff.1 hc).2 (by decide)
      · exact h

/-- STOP in STRESSING after the ask has been withdrawn: ABORT_WAIT with a new request (R53, R138, R139). -/
theorem State.leaseFits_seqStop_asked {s : State} (hp : s.crew.phase = .stressing) (hmay : s.mayAsk = true)
    (hidle : s.lease.state = .idle) : (s.seqStop true).leaseFits := by
  have hsub := State.not_seqIn_of_mayAsk hmay
  unfold State.seqStop
  rw [hsub .ramp (by decide), hsub .holdLoad (by decide), hsub .halted (by decide)]
  by_cases hw : s.seqIn .waitLease = true
  · simp only [hw]
    refine State.leaseFits_abortWait ?_ ?_
    · exact (congrArg Crew.phase (State.setRequest_crew none s)).trans hp
    · exact (congrArg Lease.state (State.setRequest_lease none s)).trans hidle
  · have habort : s.seqIn .abortWait = true := by
      simpa [State.mayAsk, hw, State.pendingTopUp, hp] using hmay
    simp only [hw, habort]
    exact State.leaseFits_abortWait hp hidle

/-- STOP in LOCKED with no ask out (R148, R152). -/
theorem lawful_aftStop (s : State) : Lawful s (s.aftStop false) :=
  .ite _ (fun _ => (sameWork_onAft s _ rfl rfl).lawful) fun _ => .guard _ fun _ => lawful_retryStoreFull s

/-- STOP in LOCKED after the ask has been withdrawn: a new request (R53, R148). -/
theorem State.leaseFits_aftStop_asked {s : State} (hp : s.crew.phase = .locked) (hmay : s.mayAsk = true)
    (hidle : s.lease.state = .idle) : (s.aftStop true).leaseFits := by
  have hpending : s.pendingTopUp = true := by simpa [State.mayAsk, State.seqIn, hp] using hmay
  have hstage (x : TopUpStage) : s.stageIn x = false := by
    by_contra hc
    have htop := ((s.stageIn_iff x).1 (Bool.eq_true_of_not_eq_false hc)).2.1
    exact absurd ((s.pendingTopUp_iff.1 hpending).2.symm.trans htop) (by decide)
  unfold State.aftStop
  rw [hstage .lift, hstage .ramp, hstage .halted, hpending]
  exact State.leaseFits_ask hmay hidle

theorem State.ownerStop_of_stressing (asked : Bool) {s : State} (h : s.crew.phase = .stressing) :
    s.ownerStop asked = s.seqStop asked := by
  unfold State.ownerStop; rw [h]

theorem State.ownerStop_of_locked (asked : Bool) {s : State} (h : s.crew.phase = .locked) :
    s.ownerStop asked = s.aftStop asked := by
  unfold State.ownerStop; rw [h]

/-- STOP at the owner of the work with no ask out. -/
theorem State.leaseFits_ownerStop {s : State} (hstate : s.lease.state ≠ .asking) (h : s.leaseFits) :
    (s.ownerStop false).leaseFits := by
  unfold State.ownerStop
  split
  case h_1 => exact (sameWork_onPlacement s _).lawful.fits h
  case h_2 => exact (lawful_groutStop s).fits h
  case h_3 hp => exact State.leaseFits_seqStop hp hstate h
  case h_4 => exact (lawful_aftStop s).fits h
  all_goals exact h

theorem State.pressOwner_of_not_asking {s : State} (h : s.lease.state ≠ .asking) :
    s.pressOwner = s.ownerStop false := by
  rw [State.pressOwner, State.withdrawGone_of_not_asking h, beq_false_of_ne h]

theorem State.pressOwner_of_asking {s : State} (h : s.lease.state = .asking) :
    s.pressOwner = s.withdrawGone.ownerStop true := by
  rw [State.pressOwner, h]
  rfl

theorem lawful_pressOwner (s : State) : Lawful s s.pressOwner := by
  refine ⟨fun h => ?_, fun h => State.ownerStop_listAnswered _ (State.listAnswered_withdrawGone h)⟩
  by_cases hask : s.lease.state = .asking
  · obtain ⟨hmay, _⟩ := (State.leaseFits_asking hask).1 h
    have hplace := samePlace_withdrawGone s
    have hmay' : s.withdrawGone.mayAsk = true := hplace.mayAsk.trans hmay
    have hidle : s.withdrawGone.lease.state = .idle := State.withdrawGone_idle (by rw [hask]; decide)
    rw [State.pressOwner_of_asking hask]
    rcases State.hasRequester_of_mayAsk hmay' with hp | hp
    · rw [State.ownerStop_of_stressing _ hp]
      exact State.leaseFits_seqStop_asked hp hmay' hidle
    · rw [State.ownerStop_of_locked _ hp]
      exact State.leaseFits_aftStop_asked hp hmay' hidle
  · rw [State.pressOwner_of_not_asking hask]
    exact State.leaseFits_ownerStop hask h

end Sys2Proof.Machine

/-! SUPPORT. Lease and work, and the deferred list, along the commands of the crew, of the line, of the lease, of the
scan, of the roster and of the responder; the laws that every command keeps (R37, R44, R47). -/

namespace Sys2Proof.Machine

/-! ## The crew's controls -/

theorem lawful_pressRelease (s : State) : Lawful s s.pressRelease :=
  Lawful.trans (t := s.onTrip fun x => x.leave s.staysSet s.staysNamed) (sameWork_onTrip s _).lawful
    (.guard _ fun _ => lawful_presentWaiting _ _)

theorem lawful_pressWork (s : State) : Lawful s s.pressWork := by
  have howner (t : State) : Lawful t t.pressOwner.pressRelease := (lawful_pressOwner t).trans (lawful_pressRelease _)
  have hclears (t : State) : Lawful t t.pressRelease.pressOwner := (lawful_pressRelease t).trans (lawful_pressOwner _)
  refine .ite _ (fun _ => .ite _ (fun _ => ?_) fun _ => howner s) fun _ => hclears s
  exact (sameWork_drawFree s).lawful.trans (.ite _ (fun _ => hclears _) fun _ => howner _)

theorem lawful_stopPress (s : State) : Lawful s s.stopPress :=
  .ite _ (fun _ => .refl s) fun _ => (lawful_pressWork s).trans (sameWork_onCrew _ _ rfl).lawful

theorem lawful_curedGo {s : State} (h : s.crew.phase = .cured) : Lawful s s.curedGo := by
  unfold State.curedGo
  split
  · exact lawful_startTest _ h
  · exact ((sameWork_onCrew s _ rfl).trans (sameWork_onDrives _ _)).lawful

theorem lawful_goPress (s : State) : Lawful s s.goPress :=
  .ite _ (fun _ => .refl s) fun _ => .ite _ (fun _ => (sameWork_onPlacement s _).lawful) fun _ =>
    .ite _ (fun _ => (sameWork_onGrout s _).lawful) fun _ => .ite _ (fun _ => (sameWork_onGrout s _).lawful) fun _ =>
      .guard _ fun h => lawful_curedGo h

/-- A detaching controller grants its whole list, and nothing is held for work (R45, R69). -/
theorem lawful_detach {s : State} (hidle : s.lease.state = .idle) : Lawful s s.detach := by
  have hlease : s.detach.lease = (s.grantThose fun _ => true).lease := by
    unfold State.detach State.placeAsk
    dsimp only
    split <;> rfl
  refine ⟨fun _ => ?_, fun _ => State.listQuiet.answered fun _ => ?_⟩
  · refine (State.leaseFits_of_no_requester (State.no_requester_of_phase (p := .detached) ?_)).2 ?_
    · rfl
    · rw [hlease, State.grantThose_lease_state, hidle]
  · rw [hlease, (grantThose_fields _ s).1]
    simp

theorem lawful_longStop (s : State) : Lawful s s.longStop := by
  refine .guard _ fun _ => ?_
  refine Lawful.trans (t := (s.expire s.crew.stopHold).onCrew fun c => { c with stopHold := .off })
    ((sameWork_elapse s.crew.stopHold.left s).trans (sameWork_onCrew _ _ rfl)).lawful (.guard _ fun h => ?_)
  exact lawful_detach (beq_iff_eq.1 (Bool.and_eq_true_iff.1 (Bool.and_eq_true_iff.1 h).1).2)

theorem sameWork_restartWatches (s : State) : SameWork s s.restartWatches :=
  (sameWork_onPlacement s _).trans (sameWork_onGrout _ _)

theorem lawful_holdOn (s : State) : Lawful s s.holdOn := by
  refine Lawful.trans (t := s.onCrew fun c => { c with holdSwitch := true }) (sameWork_onCrew s _ rfl).lawful ?_
  refine .ite _ (fun _ => .refl _) fun _ => ?_
  exact (sameWork_onCrew _ _ rfl).lawful.trans ((sameWork_restartWatches _).lawful.trans (lawful_withdrawFor _ _))

theorem lawful_holdOff (s : State) : Lawful s s.holdOff := by
  refine Lawful.trans (t := s.onCrew fun c => { c with holdSwitch := false }) (sameWork_onCrew s _ rfl).lawful ?_
  refine .ite _ (fun _ => .refl _) fun _ => ?_
  exact (sameWork_onCrew _ _ rfl).lawful.trans
    ((sameWork_restartWatches _).lawful.trans (lawful_presentWaiting _ _))

/-! ## The line interface -/

theorem sameWork_countRxError (s : State) : SameWork s s.countRxError := sameWork_onLif s _

theorem lawful_badReception (burst : List Byte) (s : State) : Lawful s (s.badReception burst) := by
  unfold State.badReception
  split
  · exact .ite _ (fun _ => .refl s) fun _ => ((sameWork_restartQuiet s).trans (sameWork_countRxError _)).lawful
  · refine lawful_receive _ _ s fun t => ?_
    exact .ite _ (fun _ => .refl t) fun _ => (sameWork_countRxError t).lawful

theorem lawful_hearOnly (dst src : Byte) (s : State) : Lawful s (s.hearOnly dst src) :=
  lawful_receive dst src s Lawful.refl

theorem sameWork_quietWaitEnd (s : State) : SameWork s s.quietWaitEnd :=
  .ite _ ((sameWork_elapse _ s).trans (sameWork_onLif _ _)) (.refl s)

theorem sameWork_collision (s : State) : SameWork s s.collision := by
  by_cases h : ∃ f n, s.lif.tx = .sending f n
  · obtain ⟨f, n, htx⟩ := h
    unfold State.collision
    rw [htx]
    have hback := (sameWork_onLif s fun l =>
      if Config.maxAttempts ≤ n + 1 then { l.lose f with txDrops := satInc l.txDrops }
      else if s.returnsFrame f then l.putBack f (n + 1) else l).trans (sameWork_onLif _ fun l =>
        { l.backOff (backoffSlots (rngDraw s.lif.rng) (n + 1)) with rng := rngDraw s.lif.rng })
    exact hback.trans (.ite _ (sameWork_onLif _ _) (.refl _))
  · rw [State.collision_of_not_sending fun f n htx => h ⟨f, n, htx⟩]
    exact .refl s

theorem sameWork_backoffEnd (s : State) : SameWork s s.backoffEnd := by
  unfold State.backoffEnd
  split
  · exact (sameWork_elapse _ s).trans (sameWork_onLif _ _)
  all_goals exact .refl s

theorem sameWork_transmitComplete (s : State) : SameWork s s.transmitComplete := by
  unfold State.transmitComplete
  split
  · exact sameWork_onLif s _
  all_goals exact .refl s

theorem lawful_jabberCutoff (s : State) : Lawful s s.jabberCutoff := by
  unfold State.jabberCutoff
  split
  · exact ((sameWork_elapse _ s).trans (sameWork_onLif _ _)).lawful.trans (lawful_latch _ _ _)
  all_goals exact .refl s

/-! ## The negotiation -/

/-- An ask is deferred only where the lease is busy or holds grants back (R41, R44). -/
theorem State.listAnswered_of_answerTo {src : Nat} {cls : AskClass} {stamp : Stamp} {r : ReplyReason} {s t : State}
    (h : s.answerTo src cls stamp = some r) (hp : SamePlace s t) (hs : t.lease.state = s.lease.state) :
    t.listAnswered := by
  intro hi hf hpending
  rw [State.freshGrout_congr hp.phase] at hf
  rw [hp.pending] at hpending
  rw [hs] at hi
  simp [State.answerTo, hf, hpending, hi] at h

theorem lawful_deferAsk {src : Nat} {cls : AskClass} {stamp : Stamp} {r : ReplyReason} {s : State}
    (h : s.answerTo src cls stamp = some r) : Lawful s (s.deferAsk src cls stamp r) := by
  have hreply := sameWork_addReply ⟨src, stamp, .defer, r⟩ s
  have hduty : SameDuty s (s.deferAsk src cls stamp r) := hreply.toSameDuty.trans ⟨⟨rfl, rfl, rfl, rfl⟩, rfl, rfl, rfl⟩
  exact ⟨(State.leaseFits_congr hduty).2, fun _ => State.listAnswered_of_answerTo h hduty.toSamePlace hduty.state⟩

theorem sameWork_grantAsk (src : Nat) (stamp : Stamp) (s : State) : SameWork s (s.grantAsk src stamp) := by
  unfold State.grantAsk
  dsimp only
  refine (sameWork_addReply ⟨src, stamp, .grant, .none⟩ s).trans
    ((sameWork_onLease _ _ rfl rfl fun h => ?_).trans
      (.ite _ ((sameWork_onLease _ _ rfl rfl id).trans (sameWork_sendAsk _)) (.refl _)))
  rw [h]
  rfl

theorem lawful_hearAsk (src cls : Byte) (stamp : Stamp) (s : State) : Lawful s (s.hearAsk src cls stamp) := by
  unfold State.hearAsk
  dsimp only
  refine (sameWork_raiseClock stamp s).lawful.trans ?_
  split
  · exact .refl _
  · refine .guard _ fun _ => ?_
    split
    next h => exact lawful_deferAsk h
    · exact (sameWork_grantAsk _ _ _).lawful

theorem sameWork_mark (n : Nat) (k : Mark) (s : State) : SameWork s (s.mark n k) := sameWork_onLease s _ rfl rfl id

theorem lawful_hearReplyEntry (src : Nat) (s : State) (e : ReplyIn) : Lawful s (s.hearReplyEntry src e) := by
  refine .guard _ fun _ => ?_
  split
  · exact (sameWork_mark _ _ s).lawful.trans (lawful_checkComplete _)
  · exact (sameWork_mark _ _ s).lawful
  · exact .refl s

theorem lawful_hearReply (src : Byte) (es : List ReplyIn) (s : State) : Lawful s (s.hearReply src es) :=
  (Lawful.foldl (fun t e => (sameWork_raiseClock e.stamp t).lawful) es s).trans
    (Lawful.foldl (lawful_hearReplyEntry _) es _)

theorem lawful_hearWithdraw (src : Byte) (stamp : Stamp) (s : State) : Lawful s (s.hearWithdraw src stamp) := by
  unfold State.hearWithdraw
  dsimp only
  refine (sameWork_raiseClock stamp s).lawful.trans (.guard _ fun _ => ?_)
  refine (sameWork_onLease _ _ rfl rfl fun h => ?_).lawful
  rw [h]
  rfl

/-! ### The lease's timers -/

@[simp] theorem State.toIdle_lease_state (s : State) : s.toIdle.lease.state = .idle := by
  rw [State.toIdle_eq]; rfl

theorem lawful_lapse {s : State} (hask : s.lease.state = .asking) : Lawful s s.lapse := by
  unfold State.lapse
  dsimp only
  have hcount : SameWork s ((s.placeAsk (.withdraw s.askStamp)).onLease fun l =>
      { l with askLapses := satInc l.askLapses, reask := .start Config.reaskUs }) :=
    (sameWork_placeAsk _ s).trans (sameWork_onLease _ _ rfl rfl id)
  generalize (s.placeAsk (.withdraw s.askStamp)).onLease _ = t at hcount
  have hidle (x : Option HoldReason) (h : s.leaseFits) : (t.setStatus (.waiting x)).toIdle.leaseFits := by
    obtain ⟨hmay, htaken, _⟩ := (State.leaseFits_asking hask).1 h
    refine State.leaseFits_toIdle (x := x) ?_ (State.status_setStatus _ ?_)
    · exact (samePlace_setStatus _ t).mayAsk.trans (hcount.mayAsk.trans hmay)
    · rw [hcount.request]
      exact Option.isSome_of_map_eq_some htaken
  split
  · exact ⟨fun h => State.leaseFits_present_of_idle (hidle _ h) (State.toIdle_lease_state _),
      fun _ => State.listAnswered_present (toIdle_listAnswered _)⟩
  · exact ⟨hidle _, fun _ => toIdle_listAnswered _⟩

theorem lawful_askTimeout {s : State} (hask : s.lease.state = .asking) : Lawful s s.askTimeout := by
  refine .ite _ (fun _ => .ite _ (fun _ => ?_) fun _ => lawful_lapse hask) fun _ => (sameWork_sendAsk s).lawful
  exact ((sameWork_onLease s _ rfl (by simp) id).trans (sameWork_sendAsk _)).lawful

theorem lawful_askTimerEnd (s : State) : Lawful s s.askTimerEnd := by
  refine .guard _ fun h => Lawful.trans (t := s.expire s.lease.askTimer) (sameWork_elapse _ s).lawful ?_
  exact lawful_askTimeout (beq_iff_eq.1 (Bool.and_eq_true_iff.1 h).2)

theorem lawful_reaskEnd (s : State) : Lawful s s.reaskEnd :=
  .guard _ fun _ => ((sameWork_elapse _ s).trans (sameWork_onLease _ _ rfl rfl id)).lawful.trans
    (lawful_presentWaiting _ _)

theorem lawful_holdOverrun (s : State) : Lawful s s.holdOverrun :=
  .guard _ fun _ => ((sameWork_elapse _ s).trans (sameWork_onLease _ _ rfl rfl id)).lawful.trans (lawful_latch _ _ _)

/-! ## The trip monitor and the scan -/

theorem lawful_sensorEvent (c : Channel) (s : State) : Lawful s (s.sensorEvent c) :=
  .guard _ fun _ => lawful_nameChannel c s

theorem lawful_jackOverEvent (s : State) : Lawful s s.jackOverEvent := .guard _ fun _ => lawful_latch _ _ s

theorem lawful_groutOverEvent (s : State) : Lawful s s.groutOverEvent := .guard _ fun _ => lawful_latch _ _ s

theorem lawful_extRunawayEvent (s : State) : Lawful s s.extRunawayEvent := .guard _ fun _ => lawful_latch _ _ s

theorem lawful_takeLatches (s : State) : Lawful s s.takeLatches :=
  (Lawful.foldl (fun t c => lawful_sensorEvent c t) allChannels s).trans
    ((lawful_jackOverEvent _).trans ((lawful_groutOverEvent _).trans (lawful_extRunawayEvent _)))

theorem lawful_takeOverdue (s : State) : Lawful s s.takeOverdue := by
  have hplace := (lawful_takeLatches s).trans ((lawful_breakInEvent _).trans
    ((sameWork_cleanDistanceEvent _).lawful.trans ((lawful_placementEvent _).trans (sameWork_slackEvent _).lawful)))
  have hgrout := hplace.trans ((lawful_refusalEvent _).trans ((lawful_fillEvent _).trans
    ((lawful_sagEvent _).trans ((sameWork_cleanTimeEvent _).trans (sameWork_settingEvent _)).lawful)))
  exact hgrout.trans ((lawful_lowEvent _).trans ((lawful_recoveryEvent _).trans
    ((lawful_settleReadEvent _).trans (lawful_topUpReadEvent _))))

theorem sameWork_measureRails (s : State) : SameWork s s.measureRails := sameWork_onScan s _

theorem sameWork_keepTrusted (s : State) : SameWork s s.keepTrusted := .ite _ (sameWork_onScan s _) (.refl s)

theorem sameWork_measureTrips (s : State) : SameWork s s.measureTrips := by
  unfold State.measureTrips
  exact sameWork_onTrip s _

theorem sameWork_publish (v : ScanSet) (s : State) : SameWork s (s.publish v) :=
  (sameWork_onScan s _).trans
    ((sameWork_measureRails _).trans ((sameWork_keepTrusted _).trans (sameWork_measureTrips _)))

theorem sameWork_settingScan (s : State) : SameWork s s.settingScan := sameWork_onGrout s _

theorem lawful_consume (rise : Nat) (s : State) : Lawful s (s.consume rise) := by
  unfold State.consume
  split
  case h_1 => exact lawful_placementScan rise s
  case h_2 => exact (sameWork_groutScan s).lawful
  case h_3 => exact (sameWork_settingScan s).lawful
  case h_4 hp => exact lawful_seqScan hp
  case h_5 hp => exact lawful_aftScan hp
  all_goals exact .refl s

theorem lawful_scanEffect (v : ScanSet) (s : State) : Lawful s (s.scanEffect v) := by
  refine (sameWork_publish v s).lawful.trans (.ite _ (fun _ => ?_) fun _ => lawful_consume _ _)
  refine (sameWork_drawFree _).lawful.trans (.ite _ (fun _ => ?_) fun _ => lawful_consume _ _)
  exact (lawful_takeLatches _).trans (lawful_consume _ _)

theorem lawful_scan (v : ScanSet) (s : State) :
    Lawful s ((s.takeOverdue.finish.elapse Config.scanUs).scanEffect v) :=
  (lawful_takeOverdue s).trans
    (((sameWork_finish _).trans (sameWork_elapse _ _)).lawful.trans (lawful_scanEffect v _))

/-! ## The roster -/

theorem sameWork_sendBeacon (s : State) : SameWork s s.sendBeacon :=
  (sameWork_placeBeacon _ s).trans (sameWork_onRoster _ _)

theorem sameWork_beaconDue (s : State) : SameWork s s.beaconDue :=
  .ite _ ((sameWork_elapse _ s).trans (sameWork_sendBeacon _)) (.refl s)

theorem lawful_hearBeacon (src : Byte) (b : BeaconIn) (s : State) : Lawful s (s.hearBeacon src b) := by
  unfold State.hearBeacon
  split
  · exact .refl s
  · refine .guard _ fun _ => ?_
    exact ((sameWork_onRoster s _).trans (sameWork_raiseClock _ _)).lawful.trans (lawful_changeEntry _ _ _)

theorem lawful_ageExpiry (n : Nat) (s : State) : Lawful s (s.ageExpiry n) := by
  unfold State.ageExpiry
  split
  · exact .refl s
  · exact .guard _ fun _ => (sameWork_elapse _ s).lawful.trans (lawful_changeEntry _ _ _)

/-! ## The responder, the store and the binding -/

theorem sameWork_answerStatus (src : Byte) (s : State) : SameWork s (s.answerStatus src) :=
  (sameWork_pushReport _ _ s).trans (sameWork_onRoster _ _)

theorem sameWork_answerRecord (src : Byte) (slot part : Nat) (s : State) : SameWork s (s.answerRecord src slot part) := by
  refine (sameWork_pushReport src (s.recordAnswer slot part) s).trans (.ite _ (sameWork_drawFree _) (.refl _))

theorem lawful_answerExported (src : Byte) (slot : Nat) (number : Half) (s : State) :
    Lawful s (s.answerExported src slot number) :=
  (sameWork_pushReport src (s.exportedAnswer slot number) s).lawful.trans
    (.guard _ fun _ => (sameWork_handOver _ _).lawful.trans (lawful_retryStoreFull _))

theorem lawful_keepChange (high : Bool) (s : State) : Lawful s (s.keepChange high) :=
  .ite _ (fun _ => .refl s) fun _ => (sameWork_onStore s _).lawful.trans (lawful_retryStoreFull _)

theorem startPhaseOfCode_ne_stressing (n : Nat) : (startPhaseOfCode n).getD .setup ≠ .stressing := by
  unfold startPhaseOfCode
  split <;> decide

@[simp] theorem State.openInstallation_lease (x : Option Nat) (s : State) : (s.openInstallation x).lease = s.lease :=
  State.handOver_lease _ s

@[simp] theorem State.openInstallation_crew (x : Option Nat) (s : State) : (s.openInstallation x).crew = s.crew :=
  State.handOver_crew _ s

theorem State.enterStart_lease (p : Phase) (s : State) : (s.enterStart p).lease = s.lease := by
  cases p <;> rfl

theorem State.enterStart_crew (p : Phase) (s : State) : (s.enterStart p).crew = s.crew := by
  cases p <;> rfl

/-- In SETUP nothing is held for work, and an accepted binding enters LOCKED in WATCH at the most (R64). -/
theorem lawful_acceptBind (src : Byte) (b : BindIn) {s : State} (h : s.crew.phase = .setup) :
    Lawful s (s.acceptBind src b) := by
  have hstart : (bindingOf b).startPhase ≠ .stressing := startPhaseOfCode_ne_stressing _
  have hlease : (s.acceptBind src b).lease = s.lease := State.enterStart_lease _ _
  have hcrew : (s.acceptBind src b).crew.phase = (bindingOf b).startPhase :=
    congrArg Crew.phase (State.enterStart_crew _ _)
  have hgrants : s.grantsAll := by simp [State.grantsAll, State.freshGrout, State.pendingTopUp, h]
  refine ⟨fun hfits => ?_, fun hans => State.listQuiet.answered ?_⟩
  · have hidle : (s.acceptBind src b).lease.state = .idle := by
      rw [hlease]
      exact (State.leaseFits_of_no_requester (State.no_requester_of_phase h)).1 hfits
    by_cases hl : (bindingOf b).startPhase = .locked
    · refine State.leaseFits_watch (hcrew.trans hl) ?_ ?_ hidle
      all_goals
        unfold State.acceptBind
        dsimp only
        rw [hl]
        rfl
    · refine (State.leaseFits_of_no_requester ?_).2 hidle
      rw [State.hasRequester, hcrew]
      exact fun hc => hc.elim hstart hl
  · unfold State.listQuiet
    rw [hlease]
    exact (State.listAnswered_iff _).1 hans hgrants

theorem lawful_decideBind (src : Byte) (b : BindIn) (s : State) : Lawful s (s.decideBind src b) := by
  refine .ite _ (fun _ => (sameWork_pushReport _ _ s).lawful) fun h => ?_
  split
  · exact (sameWork_pushReport _ _ s).lawful
  · simp only [Bool.or_eq_true, bne_iff_ne, not_or, not_not] at h
    exact lawful_acceptBind src b h.2

theorem lawful_powerOn (straps : BitVec 6) (keep hold : Bool) (s : State) : Lawful s (s.powerOn straps keep hold) :=
  ⟨fun _ => (State.leaseFits_of_no_requester (State.no_requester_of_phase (p := .setup) rfl)).2 rfl, fun _ _ _ _ => rfl⟩

theorem sameWork_storeScanEnd (s : State) : SameWork s s.storeScanEnd :=
  .ite _ ((sameWork_onStore s _).trans (.ite _ (.refl _) (sameWork_onCrew _ (fun c =>
    { c with stage := .listen, listen := .start Config.listenUs }) rfl))) (.refl s)

theorem sameWork_listenEnd (s : State) : SameWork s s.listenEnd :=
  .ite _ ((sameWork_elapse s.crew.listen.left s).trans ((sameWork_onCrew _ (fun c =>
    { c with stage := .online, listen := .off, hold := c.holdSwitch }) rfl).trans (sameWork_sendBeacon _))) (.refl s)

/-! ## Every command -/

theorem lawful_eventOf (c : Instr) (s : State) : Lawful s (eventOf c s) := by
  cases c with
  | powerOn straps keepHigh holdSwitch => exact lawful_powerOn _ _ _ s
  | startListenEnd => exact (sameWork_listenEnd s).lawful
  | go => exact lawful_goPress s
  | stop => exact lawful_stopPress s
  | stopRelease => exact (sameWork_onCrew s (fun x => { x with stopHold := .off }) rfl).lawful
  | longStop => exact lawful_longStop s
  | holdOn => exact lawful_holdOn s
  | holdOff => exact lawful_holdOff s
  | keepPinChange high => exact lawful_keepChange high s
  | badReception burst => exact lawful_badReception burst s
  | beacon dst src b => exact lawful_receive dst src s (lawful_hearBeacon src b)
  | ask dst src cls stamp _ => exact lawful_receive dst src s (lawful_hearAsk src cls stamp)
  | reply dst src entries => exact lawful_receive dst src s (lawful_hearReply src entries)
  | withdraw dst src stamp => exact lawful_receive dst src s (lawful_hearWithdraw src stamp)
  | leave dst src => exact lawful_receive dst src s (lawful_changeEntry _ _)
  | retire dst src number => exact lawful_receive dst src s (lawful_changeEntry _ _)
  | alert dst src cause phase _ => exact lawful_receive dst src s (lawful_hearAlert src cause phase)
  | reportDiscard dst src => exact lawful_hearOnly dst src s
  | frameNotAccepted dst src => exact lawful_hearOnly dst src s
  | bind dst src b => exact lawful_receiveQuery dst src s (lawful_decideBind src b)
  | statusQuery dst src => exact lawful_receiveQuery dst src s fun t => (sameWork_answerStatus src t).lawful
  | recordQuery dst src slot part =>
    exact lawful_receiveQuery dst src s fun t => (sameWork_answerRecord src _ _ t).lawful
  | exportedQuery dst src slot number => exact lawful_receiveQuery dst src s (lawful_answerExported src _ number)
  | queryUnknown dst src what => exact lawful_receiveQuery dst src s fun t => (sameWork_pushReport src _ t).lawful
  | quietWaitEnd => exact (sameWork_quietWaitEnd s).lawful
  | collision => exact (sameWork_collision s).lawful
  | backoffEnd => exact (sameWork_backoffEnd s).lawful
  | transmitComplete => exact (sameWork_transmitComplete s).lawful
  | jabberCutoff => exact lawful_jabberCutoff s
  | beaconTimer => exact (sameWork_beaconDue s).lawful
  | beaconAgeExpiry number => exact lawful_ageExpiry _ s
  | askTimer => exact lawful_askTimerEnd s
  | reaskDelayEnd => exact lawful_reaskEnd s
  | holdTimerOverrun => exact lawful_holdOverrun s
  | scanPublish v => exact lawful_scan v s
  | offTimeEnd => exact lawful_offTimeEnd s
  | slackFound => exact (sameWork_slackEvent s).lawful
  | cleanDistanceReached => exact (sameWork_cleanDistanceEvent s).lawful
  | placementComplete => exact lawful_placementEvent s
  | breakIn => exact lawful_breakInEvent s
  | fillComplete => exact lawful_fillEvent s
  | volumeLimit => exact lawful_volumeEvent s
  | refusal => exact lawful_refusalEvent s
  | headerSag => exact lawful_sagEvent s
  | yieldEnd => exact lawful_yieldEnd s
  | cleanTimeReached => exact (sameWork_cleanTimeEvent s).lawful
  | settingBreakthrough => exact (sameWork_settingEvent s).lawful
  | setTimerEnd => exact lawful_setEnd s
  | cureTimerEnd => exact lawful_cureEnd s
  | rampTimerLimit => exact lawful_rampTimerLimit s
  | stepHoldEnd => exact lawful_stepHoldEnd s
  | alignCheck => exact lawful_alignCheck s
  | proofReading => exact lawful_proofReading s
  | seatingEnd => exact lawful_seatingEnd s
  | unloadTimerLimit => exact lawful_unloadTimerLimit s
  | settleEnd => exact lawful_settleEnd s
  | lowTimeReached => exact lawful_lowEvent s
  | recoveryTimeReached => exact lawful_recoveryEvent s
  | topupSeatingEnd => exact lawful_topUpSeatingEnd s
  | topupSettleEnd => exact lawful_topUpSettleEnd s
  | jackOver => exact lawful_jackOverEvent s
  | groutOver => exact lawful_groutOverEvent s
  | extRunaway => exact lawful_extRunawayEvent s
  | sensorFault ch => exact lawful_sensorEvent ch s
  | writeJobComplete => exact (sameWork_onStore s _).lawful
  | storeScanEnd => exact (sameWork_storeScanEnd s).lawful

theorem singles_powerOn (straps : BitVec 6) (keep hold : Bool) (s : State) :
    SinglesKept s (s.powerOn straps keep hold) :=
  fun _ => ⟨List.nodup_nil, List.nodup_nil, fun _ _ h => nomatch h⟩

theorem singles_eventOf (c : Instr) (s : State) : SinglesKept s (eventOf c s) := by
  by_cases hlisten : c = .startListenEnd
  · subst hlisten
    exact singles_listenEnd s
  · by_cases hscan : c = .storeScanEnd
    · subst hscan
      exact singles_storeScanEnd s
    · by_cases hpower : ∃ a b d, c = .powerOn a b d
      · obtain ⟨a, b, d, rfl⟩ := hpower
        exact singles_powerOn a b d s
      · exact (regular_eventOf c s (fun a b d h => hpower ⟨a, b, d, h⟩) hlisten hscan).singles

/-- Settles O58: every event keeps the law of the deferred list (`lawful_eventOf`) and one entry per neighbour
(`singles_eventOf`), and the closing of an event keeps both. -/
theorem deferredListIsAnswered : Obligations.DeferredListIsAnswered := by
  unfold Obligations.DeferredListIsAnswered
  intro c s t h
  obtain rfl := eq_finish_of_exec h
  exact ⟨fun hs => (sameWork_finish _).lawful.answered ((lawful_eventOf c s).answered hs),
    fun hs => singles_finish _ (singles_eventOf c s hs)⟩

/-- Settles O59: every event keeps lease and work fitting (`lawful_eventOf`), and the closing of an event leaves what
the law reads. -/
theorem leaseFitsTheWork : Obligations.LeaseFitsTheWork := by
  unfold Obligations.LeaseFitsTheWork
  intro c s t h hs
  obtain rfl := eq_finish_of_exec h
  exact (sameWork_finish _).lawful.fits ((lawful_eventOf c s).fits hs)

end Sys2Proof.Machine

/-! The closing of an event and passing time; one step; power-on and reset; the outputs (R7, R71, R78, R82, R95, R115,
R116, R117, R186; log entries 1, 2, 3). -/

namespace Sys2Proof.Machine

/-- A command's answer, where its event is known. -/
theorem exec_of_eventOf {c : Instr} {s t : State} (h : eventOf c s = t) : exec c s = .next t.finish := by
  rw [exec_eq_finish, h]

/-! ## One step -/

/-- Settles O1: both halves are the two cases of `step`. -/
theorem stepRunsFrontCommand : Obligations.StepRunsFrontCommand := by
  refine ⟨fun s c rest h => ?_, fun s h => ?_⟩ <;>
    · unfold step
      rw [h]

/-! ## The closing of an event -/

theorem State.finish_trip (s : State) : s.finish.trip = s.clearTimes.trip := by
  unfold State.finish State.showDrives State.startTx; split <;> rfl

theorem State.finish_scan (s : State) : s.finish.scan = s.clearTimes.scan := by
  unfold State.finish State.showDrives State.startTx; split <;> rfl

/-- A free transmitter with something to send waits quiet (R7). -/
theorem State.startTx_lif (s : State) :
    s.startTx.lif =
      { s.lif with
        tx :=
          if s.lif.tx = .free ∧ s.crew.stage = .online ∧ s.listenOnly = false ∧ s.anySlot = true then .waitingQuiet
          else s.lif.tx } := by
  unfold State.startTx
  by_cases h : s.lif.tx = .free ∧ s.crew.stage = .online ∧ s.listenOnly = false ∧ s.anySlot = true
  · rw [if_pos h, if_pos (by simp [h])]
    rfl
  · rw [if_neg h, if_neg (by simpa [and_assoc] using h)]

/-- The outputs read nothing that a transmitter's start changes. -/
theorem State.startTx_drivesNow (s : State) : s.startTx.drivesNow = s.drivesNow := by
  unfold State.startTx; split <;> rfl

/-- The closing of an event shows the outputs that the state gives. -/
theorem State.finish_drives_eq (s : State) : s.finish.drives = s.drivesNow :=
  s.clearTimes.startTx_drivesNow

theorem Timer.tick_of_on {t : Timer} (h : t.on = true) (d : Nat) :
    t.tick d = { t with elapsed := min t.limit (t.elapsed + d) } := if_pos h

theorem State.reliefOpen_of_hold {s : State} (h : s.crew.hold = true) : s.reliefOpen = false := by
  simp [State.reliefOpen, h]

/-- Settles O2: the fields of the closing by the lemmas of Laws/Finish, and passing time by the definition of
`State.elapse`, HOLD and the relief valve deciding for the suspended timers. -/
theorem endOfEventAndPassingTime : Obligations.EndOfEventAndPassingTime := by
  refine ⟨fun s => ⟨s.finish, rfl, s.finish_pending, s.finish_free, s.finish_binding, s.finish_roster, s.finish_lease,
    s.finish_crew, s.finish_placement, s.finish_grout, s.finish_seq, s.finish_aft, s.finish_store, s.finish_trip,
    s.finish_scan, s.clearTimes.startTx_lif, s.finish_drives_eq⟩, fun d s => ?_⟩
  refine ⟨fun h => ⟨if_pos h, if_pos h, if_pos h, State.reliefOpen_of_hold h⟩, fun h => ?_, fun h => ⟨if_pos h, if_pos h⟩,
    fun h => ?_, rfl, rfl, rfl, rfl, rfl, rfl, rfl, rfl, rfl, fun t h => Timer.tick_of_on h d⟩
  · have hoff : ¬s.crew.hold = true := by rw [h]; exact Bool.false_ne_true
    exact ⟨if_neg hoff, if_neg hoff, if_neg hoff⟩
  · have hclosed : ¬s.reliefOpen = true := by rw [h]; exact Bool.false_ne_true
    exact ⟨if_neg hclosed, if_neg hclosed⟩

/-! ## Power-on and reset -/

theorem execPowerOn_eq (straps : BitVec 6) (keep hold : Bool) (s : State) :
    exec (.powerOn straps keep hold) s = .next (s.powerOn straps keep hold).finish := rfl

/-- No slot holds a frame after power-on, so the transmitter stays free. -/
theorem State.powerOn_finish_lif (straps : BitVec 6) (keep hold : Bool) (s : State) :
    (s.powerOn straps keep hold).finish.lif = Lif.reset straps := by
  refine (State.startTx_lif _).trans ?_
  rw [if_neg fun h => Bool.false_ne_true h.2.2.2]
  rfl

/-- The own number is absent just at a strap value of 0 or 63 (R1). -/
theorem State.strapFault_iff (s : State) : s.strapFault = true ↔ s.lif.straps = 0 ∨ s.lif.straps = 63 := by
  have hlt := s.lif.straps.isLt
  have h0 : s.lif.straps = 0 ↔ s.lif.straps.toNat = 0 := by rw [← BitVec.toNat_inj]; rfl
  have h63 : s.lif.straps = 63 ↔ s.lif.straps.toNat = 63 := by rw [← BitVec.toNat_inj]; rfl
  rw [State.strapFault, State.own, Option.isNone_iff_eq_none, ite_eq_right_iff, h0, h63]
  simp only [reduceCtorEq, imp_false]
  omega

theorem Crew.reset_stage_ne_online (hold scanning : Bool) : (Crew.reset hold scanning).stage ≠ .online := by
  cases scanning <;> exact nofun

theorem State.powerOn_lampPattern (straps : BitVec 6) (keep hold : Bool) (s : State) :
    (s.powerOn straps keep hold).lampPattern = if straps = 0 ∨ straps = 63 then .fastBlink else .off := by
  have hfault := (s.powerOn straps keep hold).strapFault_iff
  unfold State.lampPattern
  by_cases h : straps = 0 ∨ straps = 63
  · rw [if_pos h, if_pos (hfault.2 h)]
  · rw [if_neg h, if_neg (mt hfault.1 h)]
    exact if_pos (Crew.reset_stage_ne_online _ _)

/-- Settles O3: every block of `State.powerOn` is at its value, the closing of the event keeps it, and the transmitter
stays free and the lamp shows what the straps say. -/
theorem powerOnResetsEveryBlock : Obligations.PowerOnResetsEveryBlock := by
  intro straps keep hold s
  refine ⟨_, execPowerOn_eq straps keep hold s, ?_⟩
  rw [State.powerOn_finish_lif, State.finish_drives_eq]
  simp only [State.finish_pending, State.finish_binding, State.finish_roster, State.finish_lease, State.finish_crew,
    State.finish_placement, State.finish_grout, State.finish_seq, State.finish_aft, State.finish_trip,
    State.finish_scan, State.drivesNow, State.powerOn_lampPattern]
  refine ⟨rfl, rfl, rfl, rfl, rfl, rfl, rfl, rfl, ?_⟩
  repeat' constructor

/-- Settles O6: the reset state is one closed term, and so is what POWER_ON makes of it. -/
theorem resetMeetsTheInvariants : Obligations.ResetMeetsTheInvariants := by
  refine ⟨⟨⟨rfl, by decide, by decide⟩, fun _ _ _ => rfl, ?_, ?_, by decide, nofun, nofun, nofun, nofun⟩, ?_⟩
  · exact (State.leaseFits_of_no_requester (State.no_requester_of_phase (p := .setup) rfl)).2 rfl
  · exact ⟨List.nodup_nil, List.nodup_nil, fun _ _ h => nomatch h⟩
  · rfl

end Sys2Proof.Machine

/-! What the outputs show, and what GO does outside placement (R71, R72, R78, R82, R95, R97, R103, R115, R116, R117). -/

namespace Sys2Proof.Machine

/-! ## The outputs as the state gives them -/

theorem State.held_iff (s : State) : s.held = false ↔ s.trip.latches = [] := by simp [State.held]

theorem State.held_of_latches {s : State} (h : s.trip.latches ≠ []) : s.held = true := by
  rw [← Bool.not_eq_false]
  exact mt s.held_iff.1 h

/-- Winch drive (R82). -/
theorem State.winchOn_rule (s : State) :
    s.winchOn = true ↔
      s.crew.phase = .placing ∧ s.placement.sub = some .payout ∧ s.crew.hold = false ∧ s.trip.latches = [] := by
  rw [s.winchOn_iff, s.placeIn_iff, s.held_iff, and_assoc]

/-- Grout valve (R95). -/
theorem State.valveOf_rule (s : State) :
    s.valveOf =
      if s.crew.phase = .grouting ∧ s.crew.hold = false ∧ s.trip.latches = [] then
        if s.grout.sub = some .fill then .opened else if s.grout.sub = some .press then .modulated else .closed
      else .closed := by
  unfold State.valveOf
  simp only [State.groutIn_iff]
  by_cases hp : s.crew.phase = .grouting
  · by_cases hh : s.crew.hold = true
    · simp [hh]
    · by_cases hl : s.trip.latches = []
      · simp [hp, hh, hl, s.held_iff.2 hl]
      · simp [hl, State.held_of_latches hl]
  · simp [hp]

/-- Jack pump (R115). -/
theorem State.pumpOn_rule (s : State) :
    s.pumpOn = true ↔
      s.lease.state = .holding ∧ s.crew.hold = false ∧ s.trip.latches = []
        ∧ ((s.crew.phase = .stressing ∧ (s.seq.sub = some .ramp ∨ s.seq.sub = some .holdLoad)
              ∧ s.seq.jack.raise = true)
          ∨ (s.crew.phase = .locked ∧ s.aft.sub = some .topUp
              ∧ (s.aft.stage = some .lift ∨ s.aft.stage = some .ramp) ∧ s.aft.jack.raise = true)) := by
  simp only [State.pumpOn, State.raiseCalled, Bool.and_eq_true, Bool.or_eq_true, Bool.not_eq_true', beq_iff_eq,
    State.seqIn_iff, State.stageIn_iff, State.held_iff, ← and_or_left, and_assoc]

/-- A called relief valve opens under HELD in an unload alone (R116). -/
theorem State.reliefOpen_iff (s : State) :
    s.reliefOpen = true ↔
      s.lease.state = .holding ∧ s.crew.hold = false ∧ s.lowerCalled = true
        ∧ (s.trip.latches = [] ∨ s.unloading = true) := by
  simp only [State.reliefOpen, Bool.and_eq_true, Bool.or_eq_true, Bool.not_eq_true', beq_iff_eq, State.held_iff,
    and_assoc]

/-- Relief valve (R116). -/
theorem State.reliefOpen_rule (s : State) :
    s.reliefOpen = true ↔
      s.lease.state = .holding ∧ s.crew.hold = false
        ∧ ((s.crew.phase = .stressing ∧ s.seq.jack.lower = true
              ∧ ((s.seq.sub = some .ramp ∧ s.trip.latches = []) ∨ s.seq.sub = some .release
                ∨ s.seq.sub = some .failUnload ∨ s.seq.sub = some .abortUnload))
          ∨ (s.crew.phase = .locked ∧ s.aft.sub = some .topUp ∧ s.aft.jack.lower = true
              ∧ ((s.aft.stage = some .ramp ∧ s.trip.latches = []) ∨ s.aft.stage = some .release
                ∨ s.aft.stage = some .abortUnload))) := by
  rw [s.reliefOpen_iff]
  refine and_congr_right fun _ => and_congr_right fun _ => ?_
  simp only [State.lowerCalled, State.unloading, Bool.and_eq_true, Bool.or_eq_true, State.seqIn_iff, State.stageIn_iff]
  by_cases hp : s.crew.phase = .stressing
  · simp only [hp, true_and, reduceCtorEq, false_and, or_false]
    by_cases hr : s.seq.sub = some .ramp
    · simp [hr]
    · simp only [hr, false_and, false_or]
      tauto
  · by_cases hl : s.crew.phase = .locked
    · simp only [hl, true_and, reduceCtorEq, false_and, false_or]
      by_cases hr : s.aft.stage = some .ramp
      · simp [hr]
        tauto
      · simp only [hr, and_false, false_and, false_or]
        tauto
    · simp [hp, hl]

/-- Lock valve (R117, R150). -/
theorem State.seatingOn_rule (s : State) :
    s.seatingOn = true ↔
      (s.crew.phase = .stressing ∧ s.seq.sub = some .seating)
        ∨ (s.crew.phase = .locked ∧ s.aft.sub = some .topUp ∧ s.aft.stage = some .seating) := by
  simp only [State.seatingOn, Bool.or_eq_true, State.seqIn_iff, State.stageIn_iff]

/-- Row 6 of the lamp's table (R78). -/
theorem State.waitsForCrew_iff (s : State) :
    s.waitsForCrew = true ↔
      (s.crew.phase = .placing
          ∧ (s.placement.sub = some .waitGo ∨ s.placement.sub = some .slack ∨ s.crew.hold = true))
        ∨ (s.crew.phase = .grouting
          ∧ (s.grout.sub = some .waitGo ∨ s.grout.sub = some .supplyWeak ∨ s.crew.hold = true))
        ∨ s.crew.phase = .cured ∨ (s.crew.phase = .stressing ∧ s.crew.hold = true)
        ∨ (s.crew.phase = .locked ∧ s.aft.sub = some .topUp ∧ s.crew.hold = true) := by
  simp only [State.waitsForCrew, Bool.or_eq_true, Bool.and_eq_true, beq_iff_eq, State.placeIn_iff, State.groutIn_iff,
    State.toppingUp_iff]
  tauto

/-- The lamp's table (R78). -/
theorem State.lampPattern_rule (s : State) :
    s.lampPattern =
      (if s.lif.straps = 0 ∨ s.lif.straps = 63 then .fastBlink
      else if s.crew.stage ≠ .online then .off
      else if s.crew.phase = .detached then .shortFlash
      else if s.trip.latches ≠ [] then .fastBlink
      else if s.crew.storeFull = true then .doubleBlink
      else if s.crew.phase = .setup ∨ s.crew.phase = .rejected then .off
      else if (s.crew.phase = .placing
            ∧ (s.placement.sub = some .waitGo ∨ s.placement.sub = some .slack ∨ s.crew.hold = true))
          ∨ (s.crew.phase = .grouting
            ∧ (s.grout.sub = some .waitGo ∨ s.grout.sub = some .supplyWeak ∨ s.crew.hold = true))
          ∨ s.crew.phase = .cured ∨ (s.crew.phase = .stressing ∧ s.crew.hold = true)
          ∨ (s.crew.phase = .locked ∧ s.aft.sub = some .topUp ∧ s.crew.hold = true) then .steady
      else .slowBlink) := by
  have hheld : s.held = true ↔ s.trip.latches ≠ [] := by
    rw [← Bool.not_eq_false, s.held_iff]
  simp only [State.lampPattern, State.strapFault_iff, hheld, State.waitsForCrew_iff]

theorem lampLit_rule (us : Nat) :
    lampLit .off us = false ∧ lampLit .steady us = true
      ∧ (lampLit .slowBlink us = true ↔ us % 1000000 < 500000)
      ∧ (lampLit .fastBlink us = true ↔ us % 200000 < 100000)
      ∧ (lampLit .doubleBlink us = true ↔
          us % 1500000 < 150000 ∨ (300000 ≤ us % 1500000 ∧ us % 1500000 < 450000))
      ∧ (lampLit .shortFlash us = true ↔ us % 4000000 < 100000) := by simp [lampLit]

/-! ## What every event shows -/

/-- The outputs that a closed event gives are those it shows. -/
theorem State.finish_drivesFollow (s : State) : s.finish.drivesFollow := by
  have hsame : s.finish.drivesNow = { s.drivesNow with
      lampUs := if s.finish.drives.lamp = s.lampPattern then s.finish.drives.lampUs else 0 } := by
    unfold State.finish State.showDrives State.startTx; split <;> rfl
  unfold State.drivesFollow
  rw [hsame, State.finish_drives_eq]
  simp [State.drivesNow]

/-- Outputs that follow the state obey the laws of the device. -/
theorem State.drivesFollow.safe {s : State} (h : s.drivesFollow) : s.drivesSafe := by
  unfold State.drivesSafe
  rw [h]
  refine ⟨fun hpump => ?_, fun hrelief => ?_, fun hvalve => ?_, fun hwinch => ?_⟩
  · obtain ⟨hlease, hhold, hlatches, _⟩ := s.pumpOn_rule.1 hpump
    exact ⟨hlease, s.held_iff.2 hlatches, hhold⟩
  · obtain ⟨hlease, hhold, _⟩ := s.reliefOpen_iff.1 hrelief
    exact ⟨hlease, hhold⟩
  · change s.valveOf ≠ .closed at hvalve
    rw [s.valveOf_rule] at hvalve
    simp only [State.groutIn_iff, s.held_iff]
    split at hvalve
    next hopen =>
      obtain ⟨hphase, hhold, hlatches⟩ := hopen
      refine ⟨?_, hlatches, hhold⟩
      by_cases hfill : s.grout.sub = some .fill
      · exact .inl ⟨hphase, hfill⟩
      · by_cases hpress : s.grout.sub = some .press
        · exact .inr ⟨hphase, hpress⟩
        · simp [hfill, hpress] at hvalve
    · exact absurd rfl hvalve
  · obtain ⟨hsub, hhold, hheld⟩ := s.winchOn_iff.1 hwinch
    exact ⟨hsub, hheld, hhold⟩

/-- Settles O56: every event ends with the outputs of its state (`State.finish_drivesFollow`), and each output has its
rule. -/
theorem outputsObeyTheirLaws : Obligations.OutputsObeyTheirLaws :=
  ⟨fun c s => ⟨_, exec_eq_finish c s, State.finish_drivesFollow _, (State.finish_drivesFollow _).safe⟩,
    fun s => ⟨s.winchOn_rule, s.valveOf_rule, s.pumpOn_rule, s.reliefOpen_rule, s.seatingOn_rule, s.lampPattern_rule⟩,
    lampLit_rule⟩

/-! ## GO outside placement -/

theorem State.placeIn_of_grouting {s : State} (h : s.crew.phase = .grouting) (x : PlacementSub) :
    s.placeIn x = false := by simp [State.placeIn, h]

/-- A press that is taken, where placement does not wait for it. -/
theorem State.goPress_of_taken {s : State} (honline : s.crew.stage = .online) (hhold : s.crew.hold = false)
    (hheld : s.held = false) (hplace : s.placeIn .waitGo = false ∧ s.placeIn .slack = false) :
    s.goPress =
      if s.groutIn .waitGo then s.groutGo
      else if s.groutIn .supplyWeak then s.supplyGo
      else if s.crew.phase = .cured then s.curedGo
      else s := by
  unfold State.goPress
  rw [if_neg (by simp [honline, hhold, hheld]), if_neg (by simp [hplace])]

theorem State.goPress_of_groutWaitGo {s : State} (honline : s.crew.stage = .online) (hhold : s.crew.hold = false)
    (hheld : s.held = false) (hsub : s.groutIn .waitGo = true) : s.goPress = s.groutGo := by
  have hplace := State.placeIn_of_grouting (State.phase_of_groutIn hsub)
  rw [State.goPress_of_taken honline hhold hheld ⟨hplace _, hplace _⟩, if_pos hsub]

theorem State.goPress_of_supplyWeak {s : State} (honline : s.crew.stage = .online) (hhold : s.crew.hold = false)
    (hheld : s.held = false) (hsub : s.groutIn .supplyWeak = true) : s.goPress = s.supplyGo := by
  obtain ⟨hphase, hweak⟩ := (s.groutIn_iff _).1 hsub
  have hplace := State.placeIn_of_grouting hphase
  rw [State.goPress_of_taken honline hhold hheld ⟨hplace _, hplace _⟩, if_neg (by simp [State.groutIn, hweak]),
    if_pos hsub]

theorem State.goPress_of_cured {s : State} (honline : s.crew.stage = .online) (hhold : s.crew.hold = false)
    (hheld : s.held = false) (hphase : s.crew.phase = .cured) : s.goPress = s.curedGo := by
  rw [State.goPress_of_taken honline hhold hheld (by simp [State.placeIn, hphase]),
    if_neg (by simp [State.groutIn, hphase]), if_neg (by simp [State.groutIn, hphase]), if_pos hphase]

/-- In GROUTING, with HOLD off and no latch, FILL opens the valve. -/
theorem State.valveOf_of_fill {s : State} (hphase : s.crew.phase = .grouting) (hhold : s.crew.hold = false)
    (hheld : s.held = false) (hsub : s.grout.sub = some .fill) : s.valveOf = .opened := by
  rw [s.valveOf_rule, if_pos ⟨hphase, hhold, s.held_iff.1 hheld⟩, if_pos hsub]

/-- Settles O8: the press that the grout controller waits for is its own; every other is not taken or waited for by no
block. -/
theorem goInGroutingAndElsewhere : Obligations.GoInGroutingAndElsewhere := by
  refine ⟨⟨fun s honline hhold hheld hphase hsub => ⟨?_, ?_⟩, fun s x honline hhold hheld hphase hsub hleft => ?_⟩,
    fun s hignored => ?_⟩
  · exact exec_of_eventOf (State.goPress_of_groutWaitGo honline hhold hheld ((s.groutIn_iff _).2 ⟨hphase, hsub⟩))
  · rw [State.finish_drives_eq]
    exact State.valveOf_of_fill (s := s.groutGo) hphase hhold hheld rfl
  · refine exec_of_eventOf ((State.goPress_of_supplyWeak honline hhold hheld ((s.groutIn_iff _).2 ⟨hphase, hsub⟩)).trans ?_)
    simp [State.supplyGo, State.onGrout, Grout.resume, hleft]
  · refine exec_of_eventOf ?_
    show s.goPress = s
    by_cases htaken : s.crew.stage ≠ .online ∨ s.crew.hold = true ∨ s.held = true
    · exact State.goPress_of_not_taken htaken
    · obtain hnot | hnot | hnot | ⟨hwait, hslack, hgrout, hweak, hcured⟩ := hignored
      · exact absurd (.inl hnot) htaken
      · exact absurd (.inr (.inl hnot)) htaken
      · exact absurd (.inr (.inr hnot)) htaken
      · simp only [not_or, not_not, Bool.not_eq_true] at htaken
        obtain ⟨honline, hhold, hheld⟩ := htaken
        rw [State.goPress_of_taken honline hhold hheld ⟨hwait, hslack⟩, if_neg (by simp [hgrout]),
          if_neg (by simp [hweak]), if_neg hcured]

end Sys2Proof.Machine

/-! The record store: hand-overs as changes of the store alone, the choice and the opening of a slot, the KEEP pin, the
queue and the retry for a slot (R146, R154, R173, R175, R176, R177, R180, R184). -/

namespace Sys2Proof.Machine

/-! ## Hand-overs -/

/-- What a hand-over makes of the store: the change and its job where it is accepted. -/
def Store.offer (j : Job) (t : Store) : Store := if acceptsJob t.image j then t.hand j else t

theorem State.handOver_eq (j : Job) (s : State) : s.handOver j = { s with store := s.store.offer j } := by
  unfold State.handOver Store.offer; split <;> rfl

@[simp] theorem State.handOver_store (j : Job) (s : State) : (s.handOver j).store = s.store.offer j := by
  rw [State.handOver_eq]

theorem Store.offer_of_not_accepted {j : Job} {t : Store} (h : acceptsJob t.image j = false) : t.offer j = t := by
  simp [Store.offer, h]

theorem Store.hand_of_room {t : Store} (j : Job) (h : t.queue.length < 4) :
    t.hand j = { t with image := applyJob t.image j, queue := t.queue ++ [j] } := by
  unfold Store.hand
  dsimp only
  rw [if_neg (by simp only [Config.queuePlaces]; omega)]

/-- Whatever the queue holds, a hand-over changes the image at once and leaves its job at the tail (R173). -/
theorem Store.hand_image (t : Store) (j : Job) : (t.hand j).image = applyJob t.image j := by
  unfold Store.hand
  dsimp only
  split
  · rw [Store.completeHead_image]
  · rfl

theorem Store.hand_queue_getLast (t : Store) (j : Job) : (t.hand j).queue.getLast? = some j := by
  unfold Store.hand
  simp

theorem State.openSlot_eq (k : SlotKind) (n : Nat) (s : State) :
    s.openSlot k n = { s with store := (s.openSlot k n).store } := by
  unfold State.openSlot
  rw [State.handOver_eq]

/-- A free value drawn is no part of what an opening reads or writes. -/
theorem State.openSlot_drawFree_store (k : SlotKind) (n : Nat) (s : State) :
    (s.drawFree.openSlot k n).store = (s.openSlot k n).store := by
  rw [State.openSlot, State.openSlot, State.handOver_store, State.handOver_store]
  rfl

/-! ## The choice of a slot -/

/-- The first slot that a test picks. -/
theorem firstSlot_eq_some {p : Option SlotRecord → Bool} {l : List (Option SlotRecord)} {n m : Nat}
    (h : firstSlot p n l = some m) :
    ∃ i, m = n + i ∧ ∃ x, l[i]? = some x ∧ p x = true
      ∧ ∀ (k : Nat) (y : Option SlotRecord), k < i → l[k]? = some y → p y = false := by
  induction l generalizing n with
  | nil => simp [firstSlot] at h
  | cons a l ih =>
    unfold firstSlot at h
    by_cases ha : p a = true
    · rw [if_pos ha] at h
      cases h
      exact ⟨0, rfl, a, rfl, ha, fun k y hk => absurd hk (Nat.not_lt_zero k)⟩
    · rw [if_neg ha] at h
      obtain ⟨i, rfl, x, hx, hpx, hbefore⟩ := ih h
      refine ⟨i + 1, by omega, x, hx, hpx, fun k y hk hy => ?_⟩
      cases k with
      | zero =>
        cases hy
        exact Bool.eq_false_of_not_eq_true ha
      | succ k => exact hbefore k y (by omega) hy

theorem firstSlot_eq_none {p : Option SlotRecord → Bool} {l : List (Option SlotRecord)} {n : Nat}
    (h : firstSlot p n l = none) : ∀ x ∈ l, p x = false := by
  induction l generalizing n with
  | nil => exact nofun
  | cons a l ih =>
    unfold firstSlot at h
    split at h
    · cases h
    next ha =>
      intro x hx
      obtain rfl | hx := List.mem_cons.1 hx
      · exact Bool.eq_false_of_not_eq_true ha
      · exact ih h x hx

/-- A slot that may be reused: CLOSED, exported, of another label (R176). -/
theorem slotReusable_iff {label : List Byte} {r : SlotRecord} :
    slotReusable label (some r) = true ↔ r.isOpen = false ∧ r.exported = true ∧ r.label ≠ label := by
  simp [slotReusable, and_assoc]

theorem lowestReusable_none {label : List Byte} {l : List (Option SlotRecord)} {n : Nat}
    (h : lowestReusable label n l = none) : ∀ q, some q ∈ l → slotReusable label (some q) = false := by
  induction l generalizing n with
  | nil => exact nofun
  | cons a l ih =>
    unfold lowestReusable at h
    dsimp only at h
    intro q hq
    cases a with
    | none => exact ih h q (by simpa using hq)
    | some r =>
      dsimp only at h
      split at h
      · split at h
        · cases h
        · split at h <;> cases h
      next hr =>
        obtain hq | hq := List.mem_cons.1 hq
        · cases hq
          exact Bool.eq_false_of_not_eq_true hr
        · exact ih h q hq

/-- The reusable slot with the lowest test number. -/
theorem lowestReusable_some {label : List Byte} {l : List (Option SlotRecord)} {n m : Nat} {c : Half}
    (h : lowestReusable label n l = some (m, c)) :
    ∃ i, m = n + i ∧ ∃ r, l[i]? = some (some r) ∧ slotReusable label (some r) = true ∧ r.number = c
      ∧ ∀ q, some q ∈ l → slotReusable label (some q) = true → c ≤ q.number := by
  induction l generalizing n m c with
  | nil => simp [lowestReusable] at h
  | cons a l ih =>
    unfold lowestReusable at h
    dsimp only at h
    cases a with
    | none =>
      obtain ⟨i, rfl, r, hr, hreuse, hnum, hleast⟩ := ih h
      exact ⟨i + 1, by omega, r, hr, hreuse, hnum, fun q hq => hleast q (by simpa using hq)⟩
    | some a =>
      dsimp only at h
      split at h
      next ha =>
        split at h
        next hlater =>
          cases h
          refine ⟨0, rfl, a, rfl, ha, rfl, fun q hq hqr => ?_⟩
          obtain hq | hq := List.mem_cons.1 hq
          · cases hq
            exact BitVec.le_refl _
          · exact absurd hqr (by simp [lowestReusable_none hlater q hq])
        next m' k hlater =>
          obtain ⟨i, rfl, r, hr, hreuse, hnum, hleast⟩ := ih hlater
          split at h
          next hle =>
            cases h
            refine ⟨0, rfl, a, rfl, ha, rfl, fun q hq hqr => ?_⟩
            obtain hq | hq := List.mem_cons.1 hq
            · cases hq
              exact BitVec.le_refl _
            · exact BitVec.le_trans hle (hleast q hq hqr)
          next hle =>
            cases h
            refine ⟨i + 1, by omega, r, hr, hreuse, hnum, fun q hq hqr => ?_⟩
            obtain hq | hq := List.mem_cons.1 hq
            · cases hq
              exact BitVec.le_of_lt (BitVec.not_le.1 hle)
            · exact hleast q hq hqr
      next ha =>
        obtain ⟨i, rfl, r, hr, hreuse, hnum, hleast⟩ := ih h
        refine ⟨i + 1, by omega, r, hr, hreuse, hnum, fun q hq hqr => ?_⟩
        obtain hq | hq := List.mem_cons.1 hq
        · cases hq
          exact absurd hqr ha
        · exact hleast q hq hqr

/-- The three orders of R176, and where none of them finds a slot. -/
theorem State.chooseSlot_eq_some {s : State} {n : Nat} (h : s.chooseSlot = some n) :
    firstSlot Option.isNone 1 s.store.image.slots = some n
      ∨ (firstSlot Option.isNone 1 s.store.image.slots = none
        ∧ (firstSlot slotAborted 1 s.store.image.slots = some n
          ∨ (firstSlot slotAborted 1 s.store.image.slots = none
            ∧ (s.store.keepPin = false ∨ s.par.keepHonour = false)
            ∧ ∃ c, lowestReusable s.par.label 1 s.store.image.slots = some (n, c)))) := by
  unfold State.chooseSlot at h
  split at h
  next hfree => exact .inl (hfree.trans h)
  next hfree =>
    refine .inr ⟨hfree, ?_⟩
    split at h
    next haborted => exact .inl (haborted.trans h)
    next haborted =>
      refine .inr ⟨haborted, ?_⟩
      split at h
      next hkeep =>
        obtain ⟨⟨m, c⟩, hlow, rfl⟩ := Option.map_eq_some_iff.1 h
        exact ⟨by simpa using hkeep, c, hlow⟩
      · cases h

theorem State.chooseSlot_eq_none {s : State} (h : s.chooseSlot = none) :
    firstSlot Option.isNone 1 s.store.image.slots = none ∧ firstSlot slotAborted 1 s.store.image.slots = none
      ∧ ((s.store.keepPin = true ∧ s.par.keepHonour = true)
        ∨ lowestReusable s.par.label 1 s.store.image.slots = none) := by
  unfold State.chooseSlot at h
  split at h
  · cases h
  next hfree =>
    split at h
    · cases h
    next haborted =>
      refine ⟨hfree, haborted, ?_⟩
      split at h
      · exact .inr (Option.map_eq_none_iff.1 h)
      next hkeep => exact .inl (by simpa using hkeep)

theorem Option.isSome_of_isNone_eq_false {x : Option SlotRecord} (h : x.isNone = false) : x ≠ none := by
  rintro rfl
  cases h

/-- The chosen slot by the order that found it (R176). -/
theorem State.chosen_slot {s : State} {n : Nat} (h : s.chooseSlot = some n) :
    1 ≤ n ∧ n ≤ s.store.image.slots.length
    ∧ ((s.store.image.slots[n - 1]? = some none
          ∧ ∀ m : Nat, m < n - 1 → s.store.image.slots[m]? ≠ some none)
        ∨ ((∀ m : Nat, s.store.image.slots[m]? ≠ some none)
            ∧ ∃ r, s.store.image.slots[n - 1]? = some (some r)
              ∧ ((slotAborted (some r) = true
                    ∧ ∀ (m : Nat) (x : Option SlotRecord), m < n - 1 → s.store.image.slots[m]? = some x →
                        slotAborted x = false)
                  ∨ ((∀ x ∈ s.store.image.slots, slotAborted x = false)
                      ∧ (s.store.keepPin = false ∨ s.par.keepHonour = false)
                      ∧ r.isOpen = false ∧ r.exported = true ∧ r.label ≠ s.par.label
                      ∧ ∀ q, some q ∈ s.store.image.slots → q.isOpen = false → q.exported = true →
                          q.label ≠ s.par.label → r.number ≤ q.number)))) := by
  have hin {i : Nat} {x : Option SlotRecord} (hx : s.store.image.slots[i]? = some x) :
      i < s.store.image.slots.length := (List.getElem?_eq_some_iff.1 hx).1
  rcases State.chooseSlot_eq_some h with hfree | ⟨hnone, hrest⟩
  · obtain ⟨i, rfl, x, hx, hpx, hbefore⟩ := firstSlot_eq_some hfree
    have hlt := hin hx
    refine ⟨by omega, by omega, .inl ?_⟩
    rw [Nat.add_sub_cancel_left]
    refine ⟨?_, fun m hm hmnone => ?_⟩
    · rw [hx, Option.isNone_iff_eq_none.1 hpx]
    · exact absurd (hbefore m none hm hmnone) (by decide)
  · have hfull (m : Nat) : s.store.image.slots[m]? ≠ some none := fun hm =>
      absurd (firstSlot_eq_none hnone none (List.mem_of_getElem? hm)) (by decide)
    rcases hrest with haborted | ⟨hnotaborted, hkeep, c, hlow⟩
    · obtain ⟨i, rfl, x, hx, hpx, hbefore⟩ := firstSlot_eq_some haborted
      have hlt := hin hx
      refine ⟨by omega, by omega, .inr ⟨hfull, ?_⟩⟩
      rw [Nat.add_sub_cancel_left]
      cases x with
      | none => exact absurd hx (hfull i)
      | some r => exact ⟨r, hx, .inl ⟨hpx, hbefore⟩⟩
    · obtain ⟨i, rfl, r, hr, hreuse, rfl, hleast⟩ := lowestReusable_some hlow
      have hlt := hin hr
      obtain ⟨hclosed, hexported, hlabel⟩ := slotReusable_iff.1 hreuse
      refine ⟨by omega, by omega, .inr ⟨hfull, ?_⟩⟩
      rw [Nat.add_sub_cancel_left]
      exact ⟨r, hr, .inr ⟨firstSlot_eq_none hnotaborted, hkeep, hclosed, hexported, hlabel,
        fun q hq h1 h2 h3 => hleast q hq (slotReusable_iff.2 ⟨h1, h2, h3⟩)⟩⟩

/-! ## The opening of a slot -/

theorem nextNumber_ne_zero (c : Half) : nextNumber c ≠ 0 := by
  unfold nextNumber
  split
  · decide
  next h => bv_omega

theorem Contents.slot_header {c : Contents} {n : Nat} (r : SlotRecord) (k : Half) (h1 : 1 ≤ n) (h8 : n ≤ 8)
    (hlen : c.slots.length = 8) : (applyJob c (.header n r k)).slot n = some r := by
  obtain ⟨i, rfl⟩ : ∃ i, n = i + 1 := ⟨n - 1, by omega⟩
  simp only [applyJob, Contents.slot]
  rw [List.getElem?_set_self (by omega)]
  rfl

theorem applyJob_header_counter {c : Contents} {n : Nat} (r : SlotRecord) (k : Half) (h1 : 1 ≤ n) :
    (applyJob c (.header n r k)).counter = k := by
  obtain ⟨i, rfl⟩ : ∃ i, n = i + 1 := ⟨n - 1, by omega⟩
  rfl

/-- An opening in a slot that exists is accepted, whatever the slot holds. -/
theorem State.openSlot_store {n : Nat} (k : SlotKind) (s : State) (h1 : 1 ≤ n) (h8 : n ≤ 8) :
    (s.openSlot k n).store = s.store.hand (.header n (s.freshSlot k) (nextNumber s.store.image.counter)) := by
  rw [State.openSlot, State.handOver_store, Store.offer, if_pos (by simp [acceptsJob, h1, h8])]

/-- Settles O55: the choice by the three orders of R176, each found by its own search; the opening by the job that the
store accepts. -/
theorem slotsAreChosenAndOpened : Obligations.SlotsAreChosenAndOpened := by
  refine ⟨fun s n h => State.chosen_slot h, fun s h => ?_, fun k n s h1 h8 hlen => ?_⟩
  · obtain ⟨hfree, haborted, hkeep⟩ := State.chooseSlot_eq_none h
    refine ⟨fun x hx => ⟨Option.isSome_of_isNone_eq_false (firstSlot_eq_none hfree x hx),
      firstSlot_eq_none haborted x hx⟩, hkeep.imp_right fun hlow q hq hclosed hexported => ?_⟩
    by_contra hlabel
    exact absurd (slotReusable_iff.2 ⟨hclosed, hexported, hlabel⟩) (by simp [lowestReusable_none hlow q hq])
  · refine ⟨nextNumber_ne_zero s.store.image.counter, ?_, s.freshSlot k, ?_, ?_⟩
    · rw [State.openSlot_store k s h1 h8, Store.hand_image]
      exact applyJob_header_counter _ _ h1
    · rw [State.openSlot_store k s h1 h8, Store.hand_image]
      exact Contents.slot_header _ _ h1 h8 hlen
    · rw [State.openSlot_store k s h1 h8, Store.hand_queue_getLast]
      exact ⟨rfl, rfl, rfl, rfl, rfl, rfl, rfl, rfl, rfl, rfl, rfl, rfl, rfl, rfl, rfl⟩

/-! ## The retry for a slot -/

theorem State.setRequest_of_stressing (r : Option Request) {s : State} (h : s.crew.phase = .stressing) :
    s.setRequest r = s.onSeq fun q => { q with request := r } := if_pos h

theorem State.setRequest_of_locked (r : Option Request) {s : State} (h : s.crew.phase = .locked) :
    s.setRequest r = s.onAft fun a => { a with request := r } := by
  unfold State.setRequest
  rw [if_neg (by rw [h]; decide), if_pos h]

theorem State.retryStoreFull_of_not_waiting {s : State}
    (h : s.pendingTopUp = false ∨ s.waitsWith (some .storeFull) = false) : s.retryStoreFull = s :=
  if_neg (by rcases h with h | h <;> simp [h])

theorem State.retryStoreFull_of_waiting {s : State} (hpending : s.pendingTopUp = true)
    (hwaits : s.waitsWith (some .storeFull) = true) : s.retryStoreFull = s.retrySlot :=
  if_pos (by simp [hpending, hwaits])

theorem State.openTopUpSlot_none {s : State} (hslot : s.aft.slot = none) (hchoose : s.chooseSlot = none) :
    s.openTopUpSlot = s := by
  unfold State.openTopUpSlot
  rw [hslot, hchoose]

/-- A slot is opened and becomes the top-up slot (R145). -/
theorem State.openTopUpSlot_some {s : State} {n : Nat} (hslot : s.aft.slot = none)
    (hchoose : s.chooseSlot = some n) :
    s.openTopUpSlot =
      { s with store := (s.openSlot .topUpOnly n).store, aft := { s.aft with slot := some n } } := by
  unfold State.openTopUpSlot
  rw [hslot, hchoose]
  dsimp only
  rw [State.openSlot_eq]
  rfl

theorem State.askSlot_none {s : State} (hslot : s.aft.slot = none) (hchoose : s.chooseSlot = none) :
    s.askSlot =
      { s with aft := { s.aft with request := some ⟨.restore, false, .waiting (some .storeFull)⟩ } } := by
  unfold State.askSlot
  rw [State.openTopUpSlot_none hslot hchoose]
  exact if_neg (by rw [hslot]; exact Bool.false_ne_true)

theorem State.askSlot_some {s : State} {n : Nat} (hphase : s.crew.phase = .locked) (hslot : s.aft.slot = none)
    (hchoose : s.chooseSlot = some n) :
    s.askSlot =
      State.present
        { s with
          store := (s.openSlot .topUpOnly n).store
          aft := { s.aft with slot := some n, request := some ⟨.restore, false, .waiting none⟩ } } := by
  unfold State.askSlot
  rw [State.openTopUpSlot_some hslot hchoose]
  refine (if_pos rfl).trans (congrArg State.present (State.setRequest_of_locked _ ?_))
  exact hphase

theorem State.recoveryDue_iff (s : State) :
    s.recoveryDue = true ↔
      s.pendingTopUp = true ∧ 0 < s.aft.recovery ∧ s.par.topUpScans ≤ s.aft.recovery ∧ s.lease.state ≠ .holding := by
  simp [State.recoveryDue, and_assoc]

/-- Where nothing holds grants back, the whole list is granted and none of it kept (R44). -/
theorem State.grantedInIdle_of_grantsAll {s : State} (h : s.grantsAll) :
    s.grantedInIdle = s.lease.deferred ∧ s.keptInIdle = [] := by
  obtain ⟨hfresh, hpending⟩ := h
  have hf : ¬(s.crew.phase = .grouting ∨ s.crew.phase = .setting) := by simpa [State.freshGrout] using hfresh
  have hp : ¬(s.crew.phase = .locked ∧ s.aft.sub = some .pending) := fun hc => by
    rw [s.pendingTopUp_iff.2 hc] at hpending
    cases hpending
  exact ⟨(if_neg hf).trans (if_neg hp), (if_neg hf).trans (if_neg hp)⟩

theorem State.grantDeferred_of_grantsAll {s : State} (hidle : s.lease.state = .idle) (h : s.grantsAll) :
    s.grantDeferred =
      { s with
        lif := { s.lif with batch := s.batchGranting s.lease.deferred }
        lease := { s.lease with deferred := [] } } := by
  obtain ⟨hgranted, hkept⟩ := State.grantedInIdle_of_grantsAll h
  rw [State.grantDeferred_eq s hidle, hgranted, hkept]

/-- In WATCH nothing holds grants back. -/
theorem State.grantsAll_of_watch {s : State} (hphase : s.crew.phase = .locked) (hsub : s.aft.sub = some .watch) :
    s.grantsAll := by simp [State.grantsAll, State.freshGrout, State.pendingTopUp, hphase, hsub]

/-- In IDLE the pending top-up is given up: WATCH, and the deferred list granted (R44, R147). -/
theorem State.recoveryEvent_of_idle {s : State} (hdue : s.recoveryDue = true) (hidle : s.lease.state = .idle) :
    s.recoveryEvent =
      { s with
        aft := { s.aft with sub := some .watch, request := none, lowTime := 0, recovery := 0 }
        lease := { s.lease with deferred := [] }
        lif := { s.lif with batch := s.batchGranting s.lease.deferred } } := by
  have hphase : s.crew.phase = .locked := (State.pending_of_recoveryDue hdue).1.1
  unfold State.recoveryEvent
  rw [if_pos hdue, State.withdrawGone_of_not_asking (by rw [hidle]; decide)]
  refine State.grantDeferred_of_grantsAll ?_ (State.grantsAll_of_watch ?_ rfl)
  · exact hidle
  · exact hphase

/-- Settles O54: the queue and the pin by their definitions, the retry by what the choice of a slot finds and, where
the recovery time is due with it, by the free value. -/
theorem storePinQueueAndRetries : Obligations.StorePinQueueAndRetries := by
  refine ⟨fun j rest s hq => ?_, fun s hq => ?_, fun high s hquiet => ?_, fun j s hacc hroom => ?_, fun j s hacc => ?_,
    fun high s => rfl, fun s h => State.retryStoreFull_of_not_waiting h, fun s hphase hsub hwaits hslot hchoose => ?_,
    fun n s hphase hsub hidle hwaits hslot hchoose => ?_⟩
  · refine exec_of_eventOf ?_
    show s.onStore Store.completeHead = _
    unfold State.onStore Store.completeHead
    rw [hq]
  · refine exec_of_eventOf ?_
    show s.onStore Store.completeHead = _
    unfold State.onStore Store.completeHead
    rw [hq]
  · refine exec_of_eventOf ?_
    show s.keepChange high = _
    unfold State.keepChange
    split
    next hsame => rw [← hsame]
    · exact State.retryStoreFull_of_not_waiting hquiet
  · rw [State.handOver_eq, Store.offer, if_pos hacc, Store.hand_of_room j hroom]
  · rw [State.handOver_eq, Store.offer_of_not_accepted hacc]
  · have hpending := s.pendingTopUp_iff.2 ⟨hphase, hsub⟩
    rw [State.retryStoreFull_of_waiting hpending hwaits, State.retrySlot, if_neg, State.askSlot_none hslot hchoose]
    rw [State.openTopUpSlot_none hslot hchoose, hslot]
    simp
  · have hpending := s.pendingTopUp_iff.2 ⟨hphase, hsub⟩
    have hopen : s.openTopUpSlot.aft.slot.isSome = true := by
      rw [State.openTopUpSlot_some hslot hchoose]
      rfl
    rw [State.retryStoreFull_of_waiting hpending hwaits, State.retrySlot]
    refine ⟨fun hearly => ?_, fun hpos hlate => ?_⟩
    · have hnot : s.recoveryDue ≠ true := fun hdue => by
        obtain ⟨_, h1, h2, _⟩ := s.recoveryDue_iff.1 hdue
        omega
      rw [if_neg (by simp [hnot]), State.askSlot_some hphase hslot hchoose]
      rfl
    · have hdue : s.recoveryDue = true :=
        s.recoveryDue_iff.2 ⟨hpending, hpos, hlate, by rw [hidle]; decide⟩
      rw [if_pos (by simp [hdue, hopen])]
      dsimp only
      split
      · right
        rw [State.openTopUpSlot_some (s := s.drawFree) hslot hchoose, State.openSlot_drawFree_store]
        refine State.recoveryEvent_of_idle ?_ ?_
        · exact hdue
        · exact hidle
      · left
        rw [State.askSlot_some (s := s.drawFree) hphase hslot hchoose, State.openSlot_drawFree_store]
        rfl

end Sys2Proof.Machine

/-! Requests presented to the lease, and a test begun: the checks in order, what a taken request makes of the lease, and
GO in CURED (R37, R38, R47, R66, R119, R120, R139, R149). -/

namespace Sys2Proof.Machine

/-! ## The request and its status -/

theorem State.setStatus_of_stressing (x : RequestStatus) {s : State} (h : s.crew.phase = .stressing) :
    s.setStatus x = { s with seq := { s.seq with request := s.seq.request.map fun r => { r with status := x } } } := by
  rw [State.setStatus, State.setRequest_of_stressing _ h, State.request, if_pos h]
  rfl

theorem State.setStatus_of_locked (x : RequestStatus) {s : State} (h : s.crew.phase = .locked) :
    s.setStatus x = { s with aft := { s.aft with request := s.aft.request.map fun r => { r with status := x } } } := by
  rw [State.setStatus, State.setRequest_of_locked _ h, State.request, if_neg (by rw [h]; decide), if_pos h]
  rfl

/-- The lease and the line interface are no part of what a change of status reads or writes. -/
theorem State.setStatus_with (x : RequestStatus) (s : State) (l : Lease) (m : Lif) :
    ({ s with lease := l, lif := m } : State).setStatus x = { s.setStatus x with lease := l, lif := m } := by
  unfold State.setStatus State.setRequest State.request
  dsimp only
  split_ifs <;> rfl

theorem State.setStatus_listenOnly (x : RequestStatus) (s : State) : (s.setStatus x).listenOnly = s.listenOnly := by
  unfold State.setStatus State.setRequest; split_ifs <;> rfl

theorem State.setStatus_lif (x : RequestStatus) (s : State) : (s.setStatus x).lif = s.lif := by
  unfold State.setStatus State.setRequest; split_ifs <;> rfl

/-! ## The checks of a presented request (R37) -/

/-- A presented request that the checks make wait with a hold reason. -/
theorem State.present_of_waits {s : State} {r : Request} {x : HoldReason} (hr : s.request = some r)
    (h : s.checkRequest r = .waits x) : s.present = s.setStatus (.waiting (some x)) := by
  simp only [State.present, hr, h]

theorem State.present_of_stampEnd {s : State} {r : Request} (hr : s.request = some r)
    (h : s.checkRequest r = .stampEnd) :
    s.present = (s.setStatus (.waiting (some .held))).latch .stampEnd 0 := by
  simp only [State.present, hr, h]

/-- A lease that is not IDLE makes it wait without a reason. -/
theorem State.present_of_busy {s : State} {r : Request} (hr : s.request = some r) (h : s.lease.state ≠ .idle) :
    s.present = s.setStatus (.waiting none) := by
  have hcheck : s.checkRequest r = .notIdle := if_pos h
  simp only [State.present, hr, hcheck]

theorem State.present_of_taken {s : State} {r : Request} (hr : s.request = some r)
    (h : s.checkRequest r = .taken) : s.present = s.take r := by
  simp only [State.present, hr, h]

theorem State.present_of_no_request {s : State} (h : s.request = none) : s.present = s := by
  unfold State.present
  rw [h]

/-- In IDLE, with a requester, the checks begin with HOLD. -/
theorem State.checkRequest_eq {s : State} {r : Request} (hreq : s.hasRequester) (hidle : s.lease.state = .idle) :
    s.checkRequest r =
      if s.crew.hold then .waits .paused
      else if s.held && !r.abort then .waits .held
      else if s.lease.clock = 4294967295#32 then .stampEnd
      else if !s.allPresent then .waits .neighbourNotPresent
      else if s.lease.reask.on && !r.abort then .waits .askBackoff
      else .taken := by
  unfold State.checkRequest
  rw [if_neg (by simp [hidle]), if_neg (by rintro ⟨h1, h2⟩; exact hreq.elim h1 h2)]
  rfl

/-- With HOLD off the check of HELD is passed by a request with the abort flag. -/
theorem State.checkRequest_of_free {s : State} {r : Request} (hreq : s.hasRequester) (hidle : s.lease.state = .idle)
    (hhold : s.crew.hold = false) (hheld : s.held = false ∨ r.abort = true) :
    s.checkRequest r =
      if s.lease.clock = 4294967295#32 then .stampEnd
      else if !s.allPresent then .waits .neighbourNotPresent
      else if s.lease.reask.on && !r.abort then .waits .askBackoff
      else .taken := by
  rw [State.checkRequest_eq hreq hidle, if_neg (by simp [hhold]), if_neg (by rcases hheld with h | h <;> simp [h])]

theorem State.checkRequest_of_wouldTake {s : State} {r : Request} (hreq : s.hasRequester)
    (h : s.wouldTake r.abort) : s.checkRequest r = .taken := by
  obtain ⟨hidle, hhold, hheld, hclock, hall, hreask⟩ := h
  rw [State.checkRequest_of_free hreq hidle hhold hheld, if_neg hclock, if_neg (by simp [hall]),
    if_neg (by rcases hreask with h | h <;> simp [h])]

theorem State.present_of_wouldTake {s : State} {r : Request} (hr : s.request = some r) (h : s.wouldTake r.abort) :
    s.present = s.take r :=
  State.present_of_taken hr (State.checkRequest_of_wouldTake (State.hasRequester_of_request hr) h)

/-! ## A request taken (R38) -/

/-- The ask offered to the ask slot, and the ask timer of 5 s. -/
theorem State.sendAsk_of_ask {s : State} {a : CurrentAsk} (h : s.lease.ask = some a) :
    s.sendAsk =
      { s with
        lease := { s.lease with askTimer := ⟨true, 0, 5000000⟩ }
        lif :=
          { s.lif with ask := if s.listenOnly then s.lif.ask else some ⟨.ask a.cls a.stamp a.count, 0⟩ } } := by
  unfold State.sendAsk
  rw [h]
  dsimp only
  unfold State.placeAsk
  split <;> rfl

/-- The lease as a request is taken: the clock, the ask with its stamp, the required set. -/
def State.askLease (r : Request) (s : State) : Lease :=
  { s.lease with
    clock := s.lease.clock + 1
    ask := some ⟨r.cls, r.abort, s.lease.clock + 1, 1⟩
    required := s.presentMembers }

theorem State.taking_eq (r : Request) (s : State) :
    s.taking r = { s.setStatus .taken with lease := s.askLease r } := by
  unfold State.taking
  exact (State.setStatus_with .taken s (s.askLease r) s.lif).trans (by rw [← State.setStatus_lif .taken s])

/-- With members the lease is ASKING. -/
theorem State.take_of_members {s : State} (r : Request) (h : s.presentMembers ≠ []) :
    s.take r =
      State.setStatus .taken
        { s with
          lease :=
            { s.lease with
              state := .asking, clock := s.lease.clock + 1, required := s.presentMembers
              ask := some ⟨r.cls, r.abort, s.lease.clock + 1, 1⟩, askTimer := ⟨true, 0, 5000000⟩ }
          lif :=
            { s.lif with
              ask :=
                if s.listenOnly then s.lif.ask else some ⟨.ask r.cls (s.lease.clock + 1) 1, 0⟩ } } := by
  rw [State.take_eq, if_neg (by simpa using h), State.setStatus_with, State.taking_eq]
  refine (State.sendAsk_of_ask (a := ⟨r.cls, r.abort, s.lease.clock + 1, 1⟩) rfl).trans ?_
  have honly : State.listenOnly (State.onLease { s.setStatus .taken with lease := s.askLease r }
      fun l => { l with state := .asking }) = s.listenOnly := State.setStatus_listenOnly .taken s
  rw [honly]
  simp only [State.onLease, State.setStatus_lif]
  rfl

/-- Without one it is HOLDING at once, and the requester is told. -/
theorem State.take_of_no_members {s : State} (r : Request) (h : s.presentMembers = []) :
    s.take r =
      (State.setStatus .taken
        { s with
          lease :=
            { s.lease with
              state := .holding, clock := s.lease.clock + 1, required := []
              ask := some ⟨r.cls, r.abort, s.lease.clock + 1, 1⟩, askTimer := .off
              hold := ⟨true, 0, 5400000000⟩ } }).toldHolding := by
  rw [State.take_eq, if_pos (by simp [h]), State.enterHolding, State.taking_eq]
  congr 1
  refine Eq.trans ?_ (State.setStatus_with .taken s _ s.lif).symm
  rw [← State.setStatus_lif .taken s, ← h]
  rfl

/-! ## What the requester does when it is told (R120, R139, R149) -/

theorem State.toldHolding_of_waitLease {s : State} (hphase : s.crew.phase = .stressing)
    (hsub : s.seq.sub = some .waitLease) :
    s.toldHolding = s.onSeq fun q => { q with sub := some .ramp, jack := s.rampFrom s.stepTarget q.jack } :=
  if_pos ((s.seqIn_iff _).2 ⟨hphase, hsub⟩)

theorem State.toldHolding_of_abortWait {s : State} (hphase : s.crew.phase = .stressing)
    (hsub : s.seq.sub = some .abortWait) : s.toldHolding = s.enterUnload .abortUnload := by
  unfold State.toldHolding
  rw [if_neg (by simp [State.seqIn, hsub]), if_pos ((s.seqIn_iff _).2 ⟨hphase, hsub⟩)]

theorem State.toldHolding_of_pending {s : State} (hphase : s.crew.phase = .locked)
    (hsub : s.aft.sub = some .pending) :
    s.toldHolding =
      s.onAft fun a =>
        { a with
          sub := some .topUp, stage := some .lift, before := s.scan.lcTrusted.toNat, recovery := 0
          jack := s.rampFrom s.scan.lcTrusted.toNat a.jack } := by
  unfold State.toldHolding
  rw [if_neg (by simp [State.seqIn, hphase]), if_neg (by simp [State.seqIn, hphase]),
    if_pos (s.pendingTopUp_iff.2 ⟨hphase, hsub⟩)]

theorem State.allPresent_iff (s : State) :
    s.allPresent = true ↔ ∀ e ∈ s.roster.entries, e.presence = .present ∨ e.presence = .retired := by
  simp [State.allPresent]

/-- Settles O10: the checks one after another by `State.checkRequest_eq`, a taken request by `State.take_of_members` and
`State.take_of_no_members`, the requester by the lemma of its sub-state. -/
theorem requestsAreCheckedInOrder : Obligations.RequestsAreCheckedInOrder := by
  refine ⟨fun s h => State.present_of_no_request h, fun r s hr => ?_, fun s => ⟨rfl, s.allPresent_iff, rfl⟩,
    fun x s => ⟨State.setStatus_of_stressing x, State.setStatus_of_locked x⟩, fun s => ⟨fun hphase hsub => ?_,
      fun hphase hsub => ?_, fun hphase hsub => ?_⟩⟩
  · have hreq := State.hasRequester_of_request hr
    refine ⟨fun hbusy => ?_, fun hidle hhold => ?_, fun hidle hhold hheld habort => ?_,
      fun hidle hhold hheld hclock => ?_, fun hidle hhold hheld hclock hall => ?_,
      fun hidle hhold hheld hclock hall hreask habort => ?_, fun htake hmembers => ?_, fun htake hmembers => ?_⟩
    · exact State.present_of_busy hr hbusy
    · refine State.present_of_waits hr ?_
      rw [State.checkRequest_eq hreq hidle, if_pos hhold]
    · refine State.present_of_waits hr ?_
      rw [State.checkRequest_eq hreq hidle, if_neg (by simp [hhold]), if_pos (by simp [hheld, habort])]
    · refine State.present_of_stampEnd hr ?_
      rw [State.checkRequest_of_free hreq hidle hhold hheld, if_pos hclock]
    · refine State.present_of_waits hr ?_
      rw [State.checkRequest_of_free hreq hidle hhold hheld, if_neg hclock, if_pos (by simp [hall])]
    · refine State.present_of_waits hr ?_
      rw [State.checkRequest_of_free hreq hidle hhold (.inl hheld), if_neg hclock, if_neg (by simp [hall]),
        if_pos (by simp [hreask, habort])]
    · rw [State.present_of_wouldTake hr htake, State.take_of_members r hmembers]
    · rw [State.present_of_wouldTake hr htake, State.take_of_no_members r hmembers]
  · rw [State.toldHolding_of_waitLease hphase hsub]
    rfl
  · rw [State.toldHolding_of_abortWait hphase hsub]
    rfl
  · rw [State.toldHolding_of_pending hphase hsub]
    rfl

end Sys2Proof.Machine

/-! A test begun, a long STOP, and HOLD (R52, R66, R68, R69, R74, R75, R119). -/

namespace Sys2Proof.Machine

/-! ## What the closing of an event may change -/

/-- A closed event is the state before it, but for the transmitter's condition, the times of R159, R163 and R165, and
the outputs. -/
theorem State.finish_form (s : State) :
    ∃ (tx : Tx) (rails : List Nat) (jack grout ext : Nat) (window : List Int) (drives : Drives),
      s.finish =
        { s with
          lif := { s.lif with tx := tx }
          scan := { s.scan with railTimes := rails }
          trip := { s.trip with jackTime := jack, groutTime := grout, extTime := ext, window := window }
          drives := drives } := by
  refine ⟨s.finish.lif.tx, s.finish.scan.railTimes, s.finish.trip.jackTime, s.finish.trip.groutTime,
    s.finish.trip.extTime, s.finish.trip.window, s.finish.drives, ?_⟩
  unfold State.finish State.showDrives State.startTx
  split <;> rfl

/-! ## Frames offered to a slot (R13, R15) -/

theorem State.placeAsk_eq (f : AskFrame) (s : State) :
    s.placeAsk f =
      { s with lif := { s.lif with ask := if s.listenOnly then s.lif.ask else some ⟨f, 0⟩ } } := by
  unfold State.placeAsk; split <;> rfl

theorem State.placeAlert_eq (a : Alert) (s : State) :
    s.placeAlert a =
      { s with lif := { s.lif with alert := if s.listenOnly then s.lif.alert else some ⟨a, 0⟩ } } := by
  unfold State.placeAlert; split <;> rfl

theorem State.placeBeacon_eq (b : Beacon) (s : State) :
    s.placeBeacon b =
      { s with lif := { s.lif with beacon := if s.listenOnly then s.lif.beacon else some ⟨b, 0⟩ } } := by
  unfold State.placeBeacon; split <;> rfl

theorem State.addReply_eq (e : ReplyEntry) (s : State) :
    s.addReply e =
      { s with
        lif :=
          { s.lif with
            batch :=
              if s.listenOnly then s.lif.batch
              else { s.lif.batch with frame := putReply e s.lif.batch.frame } } } := by
  unfold State.addReply; split <;> rfl

/-! ## GO in CURED (R66, R119) -/

/-- A new request presented in STRESSING. -/
theorem State.ask_of_stressing (cls : AskClass) (abort : Bool) {s : State} (h : s.crew.phase = .stressing) :
    s.ask cls abort = State.present { s with seq := { s.seq with request := some ⟨cls, abort, .waiting none⟩ } } :=
  congrArg State.present (State.setRequest_of_stressing _ h)

/-- A new request presented in LOCKED. -/
theorem State.ask_of_locked (cls : AskClass) (abort : Bool) {s : State} (h : s.crew.phase = .locked) :
    s.ask cls abort = State.present { s with aft := { s.aft with request := some ⟨cls, abort, .waiting none⟩ } } :=
  congrArg State.present (State.setRequest_of_locked _ h)

/-- A test begun in slot `n`, its ADVANCE request not yet presented. -/
def State.testBegun (n : Nat) (s : State) : State :=
  { s with
    store := (s.openSlot .test n).store
    crew := { s.crew with phase := .stressing, storeFull := false }
    seq :=
      { sub := some .waitLease, step := 0, request := some ⟨.advance, false, .waiting none⟩
        clockOn := true, clock := 0, jack := .reset, holdTimer := .off, alignRead := 0, checks := 0
        datum := none, readings := 0, ext5 := none, ext15 := none, verdict := none
        extended := false, lockOffLow := false, tripMark := false, abort := none
        slot := some n } }

theorem State.startTest_eq {s : State} (n : Nat) (hheld : s.held = false) :
    s.startTest n = (s.testBegun n).present := by
  unfold State.startTest State.waitLease
  rw [State.ask_of_stressing _ _ rfl, State.openSlot_eq, hheld]
  rfl

/-- GO in CURED where a slot is found. -/
theorem State.goPress_of_cured_slot {s : State} {n : Nat} (honline : s.crew.stage = .online)
    (hhold : s.crew.hold = false) (hheld : s.held = false) (hphase : s.crew.phase = .cured)
    (hslot : s.chooseSlot = some n) : s.goPress = (s.testBegun n).present := by
  rw [State.goPress_of_cured honline hhold hheld hphase, State.curedGo, hslot]
  exact State.startTest_eq n hheld

/-- The begun test's request taken with some entry PRESENT: the lease is ASKING, the test in WAIT_LEASE. -/
theorem State.testBegun_present_of_members {s : State} (n : Nat) (htake : s.wouldTake false)
    (hmembers : s.presentMembers ≠ []) :
    (s.testBegun n).present =
      { s.testBegun n with
        seq := { (s.testBegun n).seq with request := some ⟨.advance, false, .taken⟩ }
        lease :=
          { s.lease with
            state := .asking, clock := s.lease.clock + 1, required := s.presentMembers
            ask := some ⟨.advance, false, s.lease.clock + 1, 1⟩, askTimer := ⟨true, 0, 5000000⟩ }
        lif :=
          { s.lif with
            ask := if s.listenOnly then s.lif.ask else some ⟨.ask .advance (s.lease.clock + 1) 1, 0⟩ } } := by
  rw [State.present_of_wouldTake (s := s.testBegun n) (r := ⟨.advance, false, .waiting none⟩) rfl htake,
    State.take_of_members (s := s.testBegun n) _ hmembers]
  exact State.setStatus_of_stressing _ rfl

/-- With none PRESENT the lease is HOLDING at once, the test in RAMP toward the alignment load. -/
theorem State.testBegun_present_of_no_members {s : State} (n : Nat) (htake : s.wouldTake false)
    (hmembers : s.presentMembers = []) :
    (s.testBegun n).present =
      { s.testBegun n with
        seq :=
          { (s.testBegun n).seq with
            sub := some .ramp, request := some ⟨.advance, false, .taken⟩
            jack :=
              { Jack.reset with
                rampStart := s.jackLoad, rampRef := s.jackLoad
                ramp :=
                  ⟨true, 0,
                    (120 * (max s.par.alignLoad s.jackLoad - min s.par.alignLoad s.jackLoad) / s.par.rampRate + 60)
                      * 1000000⟩ } }
        lease :=
          { s.lease with
            state := .holding, clock := s.lease.clock + 1, required := []
            ask := some ⟨.advance, false, s.lease.clock + 1, 1⟩, askTimer := .off
            hold := ⟨true, 0, 5400000000⟩ } } := by
  rw [State.present_of_wouldTake (s := s.testBegun n) (r := ⟨.advance, false, .waiting none⟩) rfl htake,
    State.take_of_no_members (s := s.testBegun n) _ hmembers, State.setStatus_of_stressing _ rfl,
    State.toldHolding_of_waitLease rfl rfl]
  rfl

/-- Settles O9: GO begins the test and presents its request; what the lease makes of it is by the members. -/
theorem goInCuredStartsATest : Obligations.GoInCuredStartsATest := by
  refine ⟨fun s n honline hheld hphase hslot htake => ?_, fun s honline hhold hheld hphase hslot => ?_,
    fun s n honline hhold hheld hphase hslot => ?_⟩
  · have hgo : eventOf .go s = (s.testBegun n).present :=
      State.goPress_of_cured_slot honline htake.2.1 hheld hphase hslot
    by_cases hmembers : s.presentMembers = []
    · rw [State.testBegun_present_of_no_members n htake hmembers] at hgo
      obtain ⟨tx, rails, jack, grout, ext, window, drives, hfin⟩ := State.finish_form (eventOf .go s)
      rw [hgo] at hfin
      exact ⟨_, (exec_of_eventOf hgo).trans (congrArg _ hfin), rfl, rfl, rfl, ⟨rfl, rfl⟩, rfl, rfl, rfl, rfl, rfl, rfl, rfl,
        rfl, rfl, rfl, rfl, rfl, rfl, rfl, rfl, rfl, rfl, rfl, rfl, hmembers.symm, fun h => absurd hmembers h,
        fun _ => ⟨rfl, rfl, rfl, rfl, rfl, rfl⟩⟩
    · rw [State.testBegun_present_of_members n htake hmembers] at hgo
      obtain ⟨tx, rails, jack, grout, ext, window, drives, hfin⟩ := State.finish_form (eventOf .go s)
      rw [hgo] at hfin
      exact ⟨_, (exec_of_eventOf hgo).trans (congrArg _ hfin), rfl, rfl, rfl, ⟨rfl, rfl⟩, rfl, rfl, rfl, rfl, rfl, rfl, rfl,
        rfl, rfl, rfl, rfl, rfl, rfl, rfl, rfl, rfl, rfl, rfl, rfl, rfl,
        fun _ => ⟨rfl, rfl, rfl, fun honly => if_neg (by rw [honly]; exact Bool.false_ne_true)⟩,
        fun h => absurd h hmembers⟩
  · refine exec_of_eventOf ?_
    show s.goPress = _
    rw [State.goPress_of_cured honline hhold hheld hphase, State.curedGo, hslot]
    rfl
  · exact exec_of_eventOf (State.goPress_of_cured_slot honline hhold hheld hphase hslot)

end Sys2Proof.Machine

/-! A long STOP, and HOLD (R52, R68, R69, R74, R75). -/

namespace Sys2Proof.Machine

/-! ## Long STOP (R68, R69) -/

/-- A detaching controller, block by block. -/
theorem State.detach_eq (s : State) :
    s.detach =
      { s with
        lif :=
          { s.lif with
            batch := s.batchGranting s.lease.deferred
            ask := if s.listenOnly then s.lif.ask else some ⟨.leave, 0⟩, beacon := none }
        roster := { s.roster with beaconTimer := .off }
        lease := { s.lease with deferred := [] }
        crew := { s.crew with phase := .detached, storeFull := false }
        grout := { s.grout with cureTimer := .off }
        aft := s.aft.detach } := by
  have hgrant : s.grantThose (fun _ => true) =
      { s with
        lif := { s.lif with batch := s.batchGranting s.lease.deferred }
        lease := { s.lease with deferred := [] } } := by
    rw [State.grantThose_eq]
    simp
  unfold State.detach
  rw [hgrant]
  rw [State.placeAsk_eq]
  rfl

/-- The measure of a long STOP ends: what is left of it has passed. -/
def State.measureEnded (s : State) : State :=
  { s.expire s.crew.stopHold with crew := { (s.expire s.crew.stopHold).crew with stopHold := .off } }

theorem State.longStop_of_on {s : State} (h : s.crew.stopHold.on = true) :
    s.longStop =
      if longStopPhase s.crew.phase && s.lease.state == .idle && !s.strapFault then s.measureEnded.detach
      else s.measureEnded := if_pos h

theorem State.longStop_detaches {s : State} (h : s.crew.stopHold.on = true) (hidle : s.lease.state = .idle)
    (hstraps : s.strapFault = false) (hphase : longStopPhase s.crew.phase = true) :
    s.longStop = s.measureEnded.detach := by
  rw [State.longStop_of_on h, if_pos (by simp [hidle, hstraps, hphase])]

/-- Settles O15: the one test of the press (R68) decides; a controller that detaches does so as
`State.detach_eq` says. -/
theorem longStopDetaches : Obligations.LongStopDetaches := by
  refine ⟨⟨fun s hon hidle hstraps hphase => ?_, fun s hon hnot => ?_, fun s hoff => ?_⟩, fun s => rfl⟩
  · have htaken : longStopPhase s.crew.phase = true := by
      rcases hphase with h | h | h | h | h <;> rw [h] <;> rfl
    have hev : eventOf .longStop s = _ :=
      (State.longStop_detaches hon hidle hstraps htaken).trans s.measureEnded.detach_eq
    obtain ⟨tx, rails, jack, grout, ext, window, drives, hfin⟩ := State.finish_form (eventOf .longStop s)
    rw [hev] at hfin
    exact ⟨_, (exec_of_eventOf hev).trans (congrArg _ hfin), rfl, rfl, rfl, rfl, rfl, rfl, rfl, ⟨rfl, rfl⟩, rfl, rfl, rfl,
      rfl, hidle, rfl, rfl, rfl, rfl, rfl, rfl, rfl, rfl, rfl, rfl, rfl, rfl, rfl, rfl⟩
  · have htest : (longStopPhase s.crew.phase && s.lease.state == .idle && !s.strapFault) = false := by
      rcases hnot with h | h | h | h | h | h | h <;> simp [h, longStopPhase]
    refine exec_of_eventOf ((State.longStop_of_on hon).trans (if_neg ?_))
    rw [htest]
    exact Bool.false_ne_true
  · exact exec_of_eventOf (if_neg (by rw [hoff]; exact Bool.false_ne_true))

/-! ## HOLD (R52, R74, R75) -/

theorem State.restartWatches_eq (s : State) :
    s.restartWatches =
      { s with
        placement :=
          { s.placement with slackTime := if s.crew.phase = .placing then 0 else s.placement.slackTime }
        grout := { s.grout with sagTime := if s.crew.phase = .grouting then 0 else s.grout.sagTime } } := by
  unfold State.restartWatches
  split_ifs <;> rfl

/-- Where a block may hold a request, no watch runs. -/
theorem State.restartWatches_of_requester {s : State} (h : s.hasRequester) : s.restartWatches = s := by
  have hp : s.crew.phase ≠ .placing ∧ s.crew.phase ≠ .grouting := by
    rcases h with h | h <;> rw [h] <;> decide
  rw [State.restartWatches_eq, if_neg hp.1, if_neg hp.2]

/-- A change of the status touches the two requests alone. -/
theorem State.setStatus_form (x : RequestStatus) (s : State) :
    ∃ q a, s.setStatus x =
      { s with seq := { s.seq with request := q }, aft := { s.aft with request := a } } := by
  by_cases hp : s.crew.phase = .stressing
  · exact ⟨_, s.aft.request, State.setStatus_of_stressing x hp⟩
  · by_cases hl : s.crew.phase = .locked
    · exact ⟨s.seq.request, _, State.setStatus_of_locked x hl⟩
    · refine ⟨s.seq.request, s.aft.request, ?_⟩
      rw [State.setStatus, State.setRequest, if_neg hp, if_neg hl]

theorem State.holdOn_of_online {s : State} (honline : s.crew.stage = .online) (hhold : s.crew.hold = false) :
    s.holdOn =
      (State.restartWatches { s with crew := { s.crew with hold := true, holdSwitch := true } }).withdrawFor .paused :=
  if_neg (by simp [honline, hhold])

theorem State.holdOff_of_online {s : State} (honline : s.crew.stage = .online) (hhold : s.crew.hold = true) :
    s.holdOff =
      (State.restartWatches { s with crew := { s.crew with hold := false, holdSwitch := false } }).presentWaiting
        (some .paused) :=
  if_neg (by simp [honline, hhold])

theorem State.withdrawFor_of_not_asking (x : HoldReason) {s : State} (h : s.lease.state ≠ .asking) :
    s.withdrawFor x = s := if_neg h

theorem State.presentWaiting_of_waits {x : Option HoldReason} {s : State} (h : s.waitsWith x = true) :
    s.presentWaiting x = s.present := if_pos h

theorem State.presentWaiting_of_not {x : Option HoldReason} {s : State} (h : s.waitsWith x = false) :
    s.presentWaiting x = s := if_neg (by rw [h]; exact Bool.false_ne_true)

theorem State.waitsWith_of_request {s : State} {r : Request} {x : Option HoldReason} (hr : s.request = some r)
    (hx : r.status = .waiting x) : s.waitsWith x = true := by simp [State.waitsWith, hr, hx]

/-- HOLD goes off where a request waits with PAUSED: it is presented (R75). -/
theorem State.holdOff_of_paused {s : State} {r : Request} (honline : s.crew.stage = .online)
    (hhold : s.crew.hold = true) (hr : s.request = some r) (hx : r.status = .waiting (some .paused)) :
    s.holdOff = State.present { s with crew := { s.crew with hold := false, holdSwitch := false } } := by
  rw [State.holdOff_of_online honline hhold, State.restartWatches_of_requester]
  · exact State.presentWaiting_of_waits (State.waitsWith_of_request hr hx)
  · exact State.hasRequester_of_request hr

/-- Settles O16: HOLD on withdraws an ask that is out, and HOLD off presents a request that waits with PAUSED; the
watches restart by `State.restartWatches_eq`. -/
theorem holdPausesAndResumes : Obligations.HoldPausesAndResumes := by
  refine ⟨fun s honline hhold hask => ?_, fun s r honline hhold hask hr => ?_, fun s honline hhold hwaits => ?_,
    fun s r honline hhold hr hx htake hmembers => ?_, fun s hstage => ⟨?_, ?_⟩,
    fun s r honline hhold hr hx => exec_of_eventOf (State.holdOff_of_paused honline hhold hr hx)⟩
  · refine exec_of_eventOf ((State.holdOn_of_online honline hhold).trans ?_)
    rw [State.restartWatches_eq]
    exact State.withdrawFor_of_not_asking _ hask
  · have hreq : s.hasRequester := State.hasRequester_of_request hr
    have hon : eventOf .holdOn s =
        State.setStatus (.waiting (some .paused))
          (State.withdrawn { s with crew := { s.crew with hold := true, holdSwitch := true } }) := by
      refine (State.holdOn_of_online honline hhold).trans ?_
      rw [State.restartWatches_of_requester]
      · exact State.withdrawFor_eq _ _ hask
      · exact hreq
    obtain ⟨q, a, hform⟩ := State.setStatus_form (.waiting (some .paused))
      (State.withdrawn { s with crew := { s.crew with hold := true, holdSwitch := true } })
    have hrequest := State.request_setStatus (.waiting (some .paused))
      (s := State.withdrawn { s with crew := { s.crew with hold := true, holdSwitch := true } })
    rw [hform] at hon hrequest
    obtain ⟨tx, rails, jack, grout, ext, window, drives, hfin⟩ := State.finish_form (eventOf .holdOn s)
    rw [hon] at hfin
    exact ⟨_, (exec_of_eventOf hon).trans (congrArg _ hfin), rfl, rfl, rfl, rfl, rfl, ⟨rfl, rfl⟩, rfl, rfl, rfl, rfl, rfl, rfl,
      rfl, hrequest.trans (congrArg _ hr), fun h => if_neg fun hc => Bool.false_ne_true (h.symm.trans hc), fun h => if_pos h, rfl, rfl,
      rfl⟩
  · refine exec_of_eventOf ((State.holdOff_of_online honline hhold).trans ?_)
    rw [State.restartWatches_eq]
    exact State.presentWaiting_of_not hwaits
  · have hoff : eventOf .holdOff s = _ := (State.holdOff_of_paused honline hhold hr hx).trans
      ((State.present_of_wouldTake (s := { s with crew := { s.crew with hold := false, holdSwitch := false } })
        hr htake).trans (State.take_of_members _ hmembers))
    have hrequest := State.request_setStatus .taken (s :=
      { s with
        crew := { s.crew with hold := false, holdSwitch := false }
        lease :=
          { s.lease with
            state := .asking, clock := s.lease.clock + 1, required := s.presentMembers
            ask := some ⟨r.cls, r.abort, s.lease.clock + 1, 1⟩, askTimer := ⟨true, 0, 5000000⟩ }
        lif :=
          { s.lif with
            ask := if s.listenOnly then s.lif.ask else some ⟨.ask r.cls (s.lease.clock + 1) 1, 0⟩ } })
    obtain ⟨q, a, hform⟩ := State.setStatus_form .taken
      { s with
        crew := { s.crew with hold := false, holdSwitch := false }
        lease :=
          { s.lease with
            state := .asking, clock := s.lease.clock + 1, required := s.presentMembers
            ask := some ⟨r.cls, r.abort, s.lease.clock + 1, 1⟩, askTimer := ⟨true, 0, 5000000⟩ }
        lif :=
          { s.lif with
            ask := if s.listenOnly then s.lif.ask else some ⟨.ask r.cls (s.lease.clock + 1) 1, 0⟩ } }
    rw [hform] at hrequest
    have hoff' := hoff.trans hform
    obtain ⟨tx, rails, jack, grout, ext, window, drives, hfin⟩ := State.finish_form (eventOf .holdOff s)
    rw [hoff'] at hfin
    exact ⟨_, (exec_of_eventOf hoff').trans (congrArg _ hfin), rfl, rfl, rfl, rfl, rfl, ⟨rfl, rfl⟩, rfl, rfl, rfl, rfl,
      hrequest.trans (congrArg _ hr)⟩
  · exact exec_of_eventOf (if_pos (by simp [hstage]))
  · exact exec_of_eventOf (if_pos (by simp [hstage]))

end Sys2Proof.Machine

/-! Start-up and the own beacons: the power-on scan, the start listen, the beacon as built (R29, R31, R71, R182, R186,
R188). -/

namespace Sys2Proof.Machine

/-! ## The power-on scan (R182, R186) -/

theorem Contents.anyOpen_iff (c : Contents) :
    c.anyOpen = true ↔ ∃ r, some r ∈ c.slots ∧ r.isOpen = true := by
  simp only [Contents.anyOpen, List.any_eq_true]
  constructor
  · rintro ⟨x, hx, hopen⟩
    cases x with
    | none => cases hopen
    | some r => exact ⟨r, hx, hopen⟩
  · rintro ⟨r, hr, hopen⟩
    exact ⟨some r, hr, hopen⟩

theorem Contents.anyOpen_eq_false {c : Contents} (h : ∀ r, some r ∈ c.slots → r.isOpen = false) :
    c.anyOpen = false := by
  rw [← Bool.not_eq_true, c.anyOpen_iff]
  rintro ⟨r, hr, hopen⟩
  exact absurd hopen (by simp [h r hr])

/-- The first OPEN slot is closed, the others as they are. -/
theorem closeFirst_append {pre post : List (Option SlotRecord)} {r : SlotRecord} (hopen : r.isOpen = true)
    (hpre : ∀ q, some q ∈ pre → q.isOpen = false) :
    closeFirst (pre ++ some r :: post) =
      pre ++ some { r with isOpen := false, verdict := some (.aborted .power) } :: post := by
  induction pre with
  | nil => simp [closeFirst, closePower, hopen]
  | cons x pre ih =>
    have hx : (x.map SlotRecord.isOpen).getD false = false := by
      cases x with
      | none => rfl
      | some q => exact hpre q (by simp)
    rw [List.cons_append, closeFirst, if_neg (by rw [hx]; exact Bool.false_ne_true),
      ih fun q hq => hpre q (List.mem_cons_of_mem _ hq), List.cons_append]

/-- With no slot OPEN nothing is closed. -/
theorem closeFirst_of_closed {l : List (Option SlotRecord)} (h : ∀ q, some q ∈ l → q.isOpen = false) :
    closeFirst l = l := by
  induction l with
  | nil => rfl
  | cons x l ih =>
    have hx : (x.map SlotRecord.isOpen).getD false = false := by
      cases x with
      | none => rfl
      | some q => exact h q (by simp)
    rw [closeFirst, if_neg (by rw [hx]; exact Bool.false_ne_true), ih fun q hq => h q (List.mem_cons_of_mem _ hq)]

/-- In the store scan one closing is written; whether the listen begins is read from the memory it leaves. -/
theorem State.storeScanEnd_of_scan {s : State} {l : List (Option SlotRecord)} (h : s.crew.stage = .storeScan)
    (hl : closeFirst s.store.nv.slots = l) :
    s.storeScanEnd =
      if ({ s.store.nv with slots := l } : Contents).anyOpen then
        { s with store := { s.store with nv := { s.store.nv with slots := l } } }
      else
        { s with
          store := { s.store with nv := { s.store.nv with slots := l } }
          crew := { s.crew with stage := .listen, listen := ⟨true, 0, 3000000⟩ } } := by
  subst hl
  exact if_pos h

theorem State.powerOn_image_slots (straps : BitVec 6) (keep hold : Bool) (s : State) :
    (s.powerOn straps keep hold).finish.store.image.slots = s.store.nv.slots.map closePower := by
  rw [State.finish_store]
  rfl

theorem State.powerOn_finish_crew (straps : BitVec 6) (keep hold : Bool) (s : State) :
    (s.powerOn straps keep hold).finish.crew = .reset hold s.store.nv.anyOpen := State.finish_crew _

theorem closePower_some (r : SlotRecord) :
    closePower (some r) =
      some (if r.isOpen then { r with isOpen := false, verdict := some (.aborted .power) } else r) := by
  unfold closePower
  dsimp only
  split <;> rfl

/-- Settles O4: power-on by `Contents.closedPower` slot by slot, the scan by `closeFirst` on the first OPEN slot. -/
theorem powerOnScansTheStore : Obligations.PowerOnScansTheStore := by
  refine ⟨fun straps keep hold s => ⟨_, execPowerOn_eq straps keep hold s, ?_⟩,
    ⟨fun s pre post r hstage hslots hopen hpre => ⟨fun hpost => ?_, fun hpost => ?_⟩, fun s hstage hclosed => ?_,
      fun s hstage => exec_of_eventOf (if_neg hstage)⟩⟩
  · rw [State.powerOn_image_slots, State.powerOn_finish_crew, State.finish_store]
    refine ⟨rfl, rfl, rfl, rfl, rfl, List.length_map _, fun i hi => ?_, fun i r hi => ?_, fun hclosed => ?_,
      fun hopen => ?_⟩
    · rw [List.getElem?_map, hi]
      rfl
    · rw [List.getElem?_map, hi, Option.map_some, closePower_some]
    · rw [Contents.anyOpen_eq_false hclosed]
      exact ⟨rfl, rfl⟩
    · rw [(Contents.anyOpen_iff _).2 hopen]
      exact ⟨rfl, rfl⟩
  · have hfirst : closeFirst s.store.nv.slots = _ := hslots ▸ closeFirst_append hopen hpre
    refine exec_of_eventOf ((State.storeScanEnd_of_scan hstage hfirst).trans (if_neg ?_))
    rw [Contents.anyOpen_eq_false fun q hq => ?_]
    · exact Bool.false_ne_true
    · rcases List.mem_append.1 hq with hq | hq
      · exact hpre q hq
      · obtain hq | hq := List.mem_cons.1 hq
        · cases hq
          rfl
        · exact hpost q hq
  · have hfirst : closeFirst s.store.nv.slots = _ := hslots ▸ closeFirst_append hopen hpre
    refine exec_of_eventOf ((State.storeScanEnd_of_scan hstage hfirst).trans (if_pos ?_))
    obtain ⟨q, hq, hqopen⟩ := hpost
    exact (Contents.anyOpen_iff _).2 ⟨q, List.mem_append_right _ (List.mem_cons_of_mem _ hq), hqopen⟩
  · have hfirst := closeFirst_of_closed hclosed
    refine exec_of_eventOf ((State.storeScanEnd_of_scan hstage hfirst).trans (if_neg ?_))
    rw [Contents.anyOpen_eq_false hclosed]
    exact Bool.false_ne_true

/-! ## The own beacon (R29, R31) -/

/-- Passing time leaves what a beacon says. -/
theorem State.buildBeacon_elapse (d : Nat) (s : State) : (s.elapse d).buildBeacon = s.buildBeacon := by
  have hnumbers : (s.roster.entries.map (Entry.tick d)).map Entry.number = s.roster.entries.map Entry.number := by
    rw [List.map_map]
    exact List.map_congr_left fun e _ => Entry.tick_number d e
  unfold State.buildBeacon
  simp only [State.elapse, hnumbers]
  rfl

theorem State.sendBeacon_eq (s : State) :
    s.sendBeacon =
      { s with
        lif := { s.lif with beacon := if s.listenOnly then s.lif.beacon else some ⟨s.buildBeacon, 0⟩ }
        roster := { s.roster with beaconTimer := ⟨true, 0, 2000000 + 4000 * s.ownNumber⟩ } } := by
  unfold State.sendBeacon
  rw [State.placeBeacon_eq]
  rfl

theorem State.subCode_of_no_sub {s : State} (h1 : s.crew.phase ≠ .placing) (h2 : s.crew.phase ≠ .grouting)
    (h3 : s.crew.phase ≠ .stressing) (h4 : s.crew.phase ≠ .locked) : s.subCode = 0 := by
  unfold State.subCode
  cases hp : s.crew.phase <;> simp_all

theorem State.presentLoad_of_no_load {s : State} (h1 : s.crew.phase ≠ .stressing) (h2 : s.crew.phase ≠ .locked) :
    s.presentLoad = 0 := by
  unfold State.presentLoad
  cases hp : s.crew.phase <;> simp_all

/-- The fields of a beacon (R31). -/
theorem State.buildBeacon_fields (s : State) :
    s.buildBeacon.phase = s.crew.phase ∧ s.buildBeacon.held = !s.trip.latches.isEmpty
      ∧ s.buildBeacon.lease = s.lease.state ∧ s.buildBeacon.clock = s.lease.clock
      ∧ (s.lease.state = .idle → s.buildBeacon.ask = none)
      ∧ (∀ a, s.lease.state ≠ .idle → s.lease.ask = some a → s.buildBeacon.ask = some (a.cls, a.stamp))
      ∧ s.buildBeacon.roster = s.roster.entries.map Entry.number
      ∧ (s.binding = none → s.buildBeacon.wall = 0)
      ∧ (∀ b, s.binding = some b → s.buildBeacon.wall = b.wall)
      ∧ (s.crew.phase = .stressing → s.buildBeacon.load = s.scan.jp.toNat * s.par.ramArea / 10000)
      ∧ (s.crew.phase = .locked → s.aft.sub = some .topUp →
          s.buildBeacon.load = s.scan.jp.toNat * s.par.ramArea / 10000)
      ∧ (s.crew.phase = .locked → s.aft.sub ≠ some .topUp → s.buildBeacon.load = s.scan.lc.toNat)
      ∧ (s.crew.phase ≠ .stressing → s.crew.phase ≠ .locked → s.buildBeacon.load = 0)
      ∧ (∀ x, s.crew.phase = .stressing → s.seq.sub = some x → s.buildBeacon.sub = byteOf (seqSubCode x))
      ∧ (∀ x, s.crew.phase = .locked → s.aft.sub = some x → s.buildBeacon.sub = byteOf (aftSubCode x))
      ∧ (∀ x, s.crew.phase = .placing → s.placement.sub = some x →
          s.buildBeacon.sub = byteOf (placementSubCode x))
      ∧ (∀ x, s.crew.phase = .grouting → s.grout.sub = some x → s.buildBeacon.sub = byteOf (groutSubCode x))
      ∧ (s.crew.phase ≠ .placing → s.crew.phase ≠ .grouting → s.crew.phase ≠ .stressing →
          s.crew.phase ≠ .locked → s.buildBeacon.sub = 0) := by
  refine ⟨rfl, rfl, rfl, rfl, fun h => if_pos h, fun a h ha => ?_, rfl, fun h => ?_, fun b h => ?_, fun h => ?_,
    fun h hsub => ?_, fun h hsub => ?_, State.presentLoad_of_no_load, fun x h hsub => ?_, fun x h hsub => ?_,
    fun x h hsub => ?_, fun x h hsub => ?_, fun h1 h2 h3 h4 => ?_⟩
  · refine (if_neg h).trans ?_
    rw [ha]
    rfl
  · simp [State.buildBeacon, State.bound, h]
  · simp [State.buildBeacon, State.bound, State.par, h]
  · simp [State.buildBeacon, State.presentLoad, State.jackLoad, h]
  · simp [State.buildBeacon, State.presentLoad, State.jackLoad, h, hsub]
  · simp [State.buildBeacon, State.presentLoad, h, hsub]
  · simp [State.buildBeacon, State.subCode, h, hsub]
  · simp [State.buildBeacon, State.subCode, h, hsub]
  · simp [State.buildBeacon, State.subCode, h, hsub]
  · simp [State.buildBeacon, State.subCode, h, hsub]
  · exact congrArg byteOf (State.subCode_of_no_sub h1 h2 h3 h4)

/-- Settles O5: the listen and the beacon timer send the beacon that the state gives, which passing time does not
change. -/
theorem beaconsAreBuiltAndSent : Obligations.BeaconsAreBuiltAndSent := by
  refine ⟨fun s hstage hon => ?_, fun s hstage => exec_of_eventOf (if_neg fun h => hstage h.1),
    State.buildBeacon_fields, fun s hon => ?_, fun s hoff => ?_⟩
  · refine exec_of_eventOf ((if_pos ⟨hstage, hon⟩).trans ((State.sendBeacon_eq _).trans ?_))
    rw [← State.buildBeacon_elapse s.crew.listen.left s]
    rfl
  · refine exec_of_eventOf ((if_pos hon).trans ((State.sendBeacon_eq _).trans ?_))
    rw [← State.buildBeacon_elapse s.roster.beaconTimer.left s]
    rfl
  · exact exec_of_eventOf (if_neg (by rw [hoff]; exact Bool.false_ne_true))

end Sys2Proof.Machine

/-! A STOP press: the latches that release, the owner of the work, and the order of the two where the press ends HELD
while a request waits with HELD (R53, R68, R73, R106, R138, R141, R148, R152, R168, R169). -/

namespace Sys2Proof.Machine

/-! ## The press at the trip monitor (R168, R169) -/

/-- The state with the latches and channels released that the press releases. -/
def State.released (s : State) : State := { s with trip := s.tripAfterPress }

theorem State.leave_eq (s : State) : s.trip.leave s.staysSet s.staysNamed = s.tripAfterPress := by
  unfold Trip.leave State.tripAfterPress State.staysSet State.staysNamed
  simp only [List.isEmpty_iff]

/-- With the last latch gone a request that waits with HELD is presented; nothing else changes. -/
theorem State.pressRelease_eq (s : State) :
    s.pressRelease = if s.freesHeld then s.released.present else s.released := by
  have hleave : (s.onTrip fun x => x.leave s.staysSet s.staysNamed) = s.released := by
    unfold State.released
    rw [← State.leave_eq]
    rfl
  have hempty : s.staysSet.isEmpty = true ↔ s.tripAfterPress.latches = [] := List.isEmpty_iff
  unfold State.pressRelease
  dsimp only
  rw [hleave]
  by_cases hw : s.waitsWith (some .held) = true
  · by_cases hfree : s.freesHeld
    · rw [if_pos (by simp [hfree.1, hempty.2 hfree.2.1]), if_pos hfree]
      exact State.presentWaiting_of_waits hw
    · rw [if_neg hfree, if_neg]
      intro hc
      obtain ⟨hheld, hlast⟩ := Bool.and_eq_true_iff.1 hc
      exact hfree ⟨hheld, hempty.1 hlast, hw⟩
  · have hfree : ¬s.freesHeld := fun hf => hw hf.2.2
    rw [if_neg hfree]
    split
    · exact State.presentWaiting_of_not (s := s.released) (Bool.eq_false_of_not_eq_true hw)
    · rfl

theorem State.pressRelease_of_not_frees {s : State} (h : ¬s.freesHeld) : s.pressRelease = s.released := by
  rw [State.pressRelease_eq, if_neg h]

theorem State.pressRelease_of_frees {s : State} (h : s.freesHeld) : s.pressRelease = s.released.present := by
  rw [State.pressRelease_eq, if_pos h]

theorem State.not_freesHeld_of_not_waiting {s : State} (h : s.waitsWith (some .held) = false) : ¬s.freesHeld :=
  fun hf => Bool.false_ne_true (h.symm.trans hf.2.2)

/-- In a phase without a requester no request waits. -/
theorem State.waitsWith_of_no_requester {s : State} (x : Option HoldReason) (h : ¬s.hasRequester) :
    s.waitsWith x = false := by
  simp only [State.hasRequester, not_or] at h
  simp [State.waitsWith, State.request, h.1, h.2]

theorem State.pressFreesRequest_iff (s : State) : s.pressFreesRequest = true ↔ s.freesHeld := by
  simp only [State.pressFreesRequest, Bool.and_eq_true, List.isEmpty_iff, and_assoc]
  rfl

/-! ## The order of the press (R73, R141, R148) -/

theorem State.pressWork_of_not_frees {s : State} (h : ¬s.freesHeld) : s.pressWork = s.released.pressOwner := by
  rw [State.pressWork, if_neg (mt s.pressFreesRequest_iff.1 h), State.pressRelease_of_not_frees h]

/-- Outside STRESSING the work is stopped first, and the request presented as the last latch clears (R148). -/
theorem State.pressWork_of_frees {s : State} (h : s.freesHeld) (hphase : s.crew.phase ≠ .stressing) :
    s.pressWork = s.pressOwner.pressRelease := by
  rw [State.pressWork, if_pos (s.pressFreesRequest_iff.2 h), if_neg hphase]

/-- In STRESSING the order is a free value (R141). -/
theorem State.pressWork_of_frees_stressing {s : State} (h : s.freesHeld) (hphase : s.crew.phase = .stressing) :
    s.pressWork = s.drawFree.pressRelease.pressOwner ∨ s.pressWork = s.drawFree.pressOwner.pressRelease := by
  rw [State.pressWork, if_pos (s.pressFreesRequest_iff.2 h), if_pos hphase]
  dsimp only
  split
  · exact .inl rfl
  · exact .inr rfl

theorem State.stopPress_of_online {s : State} (h : s.crew.stage = .online) : s.stopPress = s.pressWork.pressNoted :=
  if_neg (by simp [h])

/-- A press that ends HELD for no waiting request: the latches first, then the work. -/
theorem State.stopPress_of_not_frees {s : State} (honline : s.crew.stage = .online) (h : ¬s.freesHeld) :
    s.stopPress = s.released.pressOwner.pressNoted := by
  rw [State.stopPress_of_online honline, State.pressWork_of_not_frees h]

/-- With no ask out the press is the owner's alone. -/
theorem State.stopPress_of_quiet {s : State} (honline : s.crew.stage = .online) (h : ¬s.freesHeld)
    (hask : s.lease.state ≠ .asking) : s.stopPress = (s.released.ownerStop false).pressNoted := by
  rw [State.stopPress_of_not_frees honline h, State.pressOwner_of_not_asking]
  exact hask

/-- A press that finds no work to stop. -/
theorem State.stopPress_of_no_work {s : State} (honline : s.crew.stage = .online) (h : ¬s.freesHeld)
    (hask : s.lease.state ≠ .asking) (hwork : s.released.ownerStop false = s.released) :
    s.stopPress = { s with trip := s.tripAfterPress, crew := s.crew.afterPress } := by
  rw [State.stopPress_of_quiet honline h hask, hwork]
  rfl

theorem State.ownerStop_of_placing (asked : Bool) {s : State} (h : s.crew.phase = .placing) :
    s.ownerStop asked = s.onPlacement Placement.atStop := by
  unfold State.ownerStop; rw [h]

theorem State.ownerStop_of_grouting (asked : Bool) {s : State} (h : s.crew.phase = .grouting) :
    s.ownerStop asked = s.groutStop := by
  unfold State.ownerStop; rw [h]

/-- In the six phases without stoppable work the owner does nothing. -/
theorem State.ownerStop_elsewhere (asked : Bool) {s : State}
    (h : s.crew.phase = .setup ∨ s.crew.phase = .setting ∨ s.crew.phase = .curing ∨ s.crew.phase = .cured
      ∨ s.crew.phase = .rejected ∨ s.crew.phase = .detached) : s.ownerStop asked = s := by
  unfold State.ownerStop
  rcases h with h | h | h | h | h | h <;> rw [h]

theorem State.no_requester_elsewhere {s : State} {p : Phase} (h : s.crew.phase = p)
    (hp : p ≠ .stressing ∧ p ≠ .locked := by decide) (x : Option HoldReason) : s.waitsWith x = false :=
  State.waitsWith_of_no_requester x (State.no_requester_of_phase h hp)

/-- Where no block holds a request, no press frees one. -/
theorem State.not_freesHeld_of_phase {s : State} {p : Phase} (h : s.crew.phase = p)
    (hp : p ≠ .stressing ∧ p ≠ .locked := by decide) : ¬s.freesHeld :=
  State.not_freesHeld_of_not_waiting (State.no_requester_elsewhere h hp _)

theorem LeaseState.not_asking_of_idle {x : LeaseState} (h : x = .idle) : x ≠ .asking := by rw [h]; decide

theorem LeaseState.not_asking_of_holding {x : LeaseState} (h : x = .holding) : x ≠ .asking := by rw [h]; decide

/-! ## Where there is no work to stop (R73, R164, R165, R168) -/

/-- The release condition of SENSOR_FAULT (R168). -/
theorem State.releases_sensorFault_iff (s : State) :
    s.releases .sensorFault = true ↔ ∀ c, c ∈ s.trip.named → ¬(s.atRail c = true ∧ s.inUse c = true) := by
  simp only [State.releases, List.all_eq_true, Bool.or_eq_true, Bool.not_eq_true', not_and, Bool.not_eq_true]
  refine forall₂_congr fun c _ => ?_
  cases s.atRail c <;> simp

theorem State.releases_jackOver_iff (s : State) :
    s.releases .jackOver = true ↔ s.scan.jp * 10 < (s.par.maxJack : Int) * 9 := by
  simp [State.releases]

/-- Settles O14: in these phases no request waits and the owner of the work is nobody. -/
theorem stopElsewhereOnlyReleases : Obligations.StopElsewhereOnlyReleases := by
  refine ⟨⟨fun s honline hidle hphase => exec_of_eventOf ?_, fun s hstage => exec_of_eventOf (if_pos hstage)⟩,
    fun s => ⟨s.releases_jackOver_iff, decide_eq_true_iff, decide_eq_true_iff, rfl, rfl, rfl, rfl, rfl, rfl, rfl,
      s.releases_sensorFault_iff⟩⟩
  refine State.stopPress_of_no_work honline ?_ (LeaseState.not_asking_of_idle hidle)
    (State.ownerStop_elsewhere false hphase)
  rcases hphase with h | h | h | h | h | h <;> exact State.not_freesHeld_of_phase h

/-! ## PLACING and GROUTING (R89, R106) -/

theorem Placement.atStop_of_moving {p : Placement}
    (h : p.sub = some .payout ∨ p.sub = some .limitOff ∨ p.sub = some .slack) :
    p.atStop = { p with sub := some .waitGo, offTime := .off, slackTime := 0 } := if_pos h

theorem Placement.atStop_of_waitGo {p : Placement} (h : p.sub = some .waitGo) : p.atStop = p :=
  if_neg (by simp [h])

theorem State.groutStop_of_begun {s : State} (h : s.groutBegun = true) :
    s.groutStop =
      { s with
        grout := s.grout.close .stopped (s.par.setTime * 3600000000)
        store := s.store.offer (.grout ⟨.stopped, s.grout.volume, s.grout.yieldEvents⟩)
        crew := { s.crew with phase := .setting } } := by
  rw [State.groutStop, if_pos h, State.endGrouting, State.handOver_eq]
  rfl

/-- Settles O11: the owner of the work is placement in PLACING and the grout controller in GROUTING; neither phase holds a
request. -/
theorem stopInPlacingAndGrouting : Obligations.StopInPlacingAndGrouting := by
  refine ⟨fun s honline hphase hidle hsub => ?_, fun s honline hphase hidle hsub => ?_, fun s hphase hon => ?_,
    fun s honline hphase hidle hbegun => ?_, fun s honline hphase hidle hsub => ?_⟩
  · have hstop : s.stopPress = _ := (State.stopPress_of_quiet honline (State.not_freesHeld_of_phase hphase)
      (LeaseState.not_asking_of_idle hidle)).trans (congrArg State.pressNoted
        ((State.ownerStop_of_placing (s := s.released) false hphase).trans
          (congrArg (fun p => { s.released with placement := p }) (Placement.atStop_of_moving hsub))))
    refine ⟨exec_of_eventOf hstop, ?_⟩
    rw [State.finish_drives_winch, ← Bool.not_eq_true, State.winchOn_rule]
    rintro ⟨_, hpayout, _⟩
    cases hpayout
  · refine exec_of_eventOf (State.stopPress_of_no_work honline (State.not_freesHeld_of_phase hphase)
      (LeaseState.not_asking_of_idle hidle) ?_)
    rw [State.ownerStop_of_placing (s := s.released) false hphase]
    exact congrArg (fun p => { s.released with placement := p }) (Placement.atStop_of_waitGo hsub)
  · refine exec_of_eventOf ((State.longStop_of_on hon).trans (if_neg ?_))
    rw [hphase]
    exact Bool.false_ne_true
  · refine exec_of_eventOf ?_
    show s.stopPress = _
    rw [State.stopPress_of_quiet honline (State.not_freesHeld_of_phase hphase) (LeaseState.not_asking_of_idle hidle),
      State.ownerStop_of_grouting (s := s.released) false hphase, State.groutStop_of_begun (s := s.released) hbegun,
      State.handOver_store]
    rfl
  · refine exec_of_eventOf (State.stopPress_of_no_work honline (State.not_freesHeld_of_phase hphase)
      (LeaseState.not_asking_of_idle hidle) ?_)
    rw [State.ownerStop_of_grouting (s := s.released) false hphase]
    refine if_neg ?_
    simp [State.groutBegun, State.groutIn, State.released, hsub]

end Sys2Proof.Machine

/-! STOP in STRESSING and in LOCKED (R53, R138, R139, R140, R141, R148, R152). -/

namespace Sys2Proof.Machine

/-! ## What a presented request leaves -/

theorem State.setStatus_trip (x : RequestStatus) (s : State) : (s.setStatus x).trip = s.trip := by
  unfold State.setStatus State.setRequest; split_ifs <;> rfl

theorem State.withdrawFor_trip (x : HoldReason) (s : State) : (s.withdrawFor x).trip = s.trip := by
  by_cases h : s.lease.state = .asking
  · rw [State.withdrawFor_eq x s h, State.setStatus_trip]
    rfl
  · rw [State.withdrawFor_of_not_asking x h]

theorem State.announce_trip (s : State) : s.announce.trip = s.trip := by
  show (if s.askAbort = true then s else s.withdrawFor .held).trip = s.trip
  split
  · rfl
  · exact State.withdrawFor_trip _ s

theorem State.noteLatch_trip (l : Latch) (v : Half) (ch : Option Channel) (s : State) :
    (s.noteLatch l v ch).trip = s.trip.set l s.crew.phase v ch := by
  unfold State.noteLatch
  rw [State.placeAlert_eq]
  dsimp only
  split <;> rfl

/-- A latch that sets is recorded by the trip monitor, whatever the lease and the blocks then do (R160, R161). -/
theorem State.setLatch_trip (l : Latch) (v : Half) (ch : Option Channel) (s : State) :
    (s.setLatch l v ch).trip = s.trip.set l s.crew.phase v ch := by
  rw [State.setLatch_eq, State.announce_trip, State.noteLatch_trip]

theorem State.latch_trip (l : Latch) (v : Half) (s : State) :
    (s.latch l v).trip = if s.latched l then s.trip else s.trip.set l s.crew.phase v none := by
  unfold State.latch
  split
  · rfl
  · exact State.setLatch_trip l v none s

theorem Trip.mem_set_latches (l : Latch) (p : Phase) (v : Half) (ch : Option Channel) (t : Trip) :
    l ∈ (t.set l p v ch).latches := by
  unfold Trip.set
  dsimp only
  split
  next h => exact List.contains_iff_mem.1 h
  · exact List.mem_append_right _ (List.mem_singleton_self l)

theorem State.mem_latch_latches (l : Latch) (v : Half) (s : State) : l ∈ (s.latch l v).trip.latches := by
  rw [State.latch_trip]
  split
  next h => exact List.contains_iff_mem.1 h
  · exact Trip.mem_set_latches ..

theorem State.toldHolding_trip (s : State) : s.toldHolding.trip = s.trip := by
  unfold State.toldHolding; split_ifs <;> rfl

theorem State.toldHolding_request (s : State) : s.toldHolding.request = s.request := by
  unfold State.toldHolding; split_ifs <;> rfl

theorem State.take_trip (r : Request) (s : State) : (s.take r).trip = s.trip := by
  by_cases h : s.presentMembers = []
  · rw [State.take_of_no_members r h, State.toldHolding_trip, State.setStatus_trip]
  · rw [State.take_of_members r h, State.setStatus_trip]

/-- A presented request leaves the trip monitor's record, but for STAMP_END. -/
theorem State.present_trip (s : State) :
    s.present.trip = s.trip ∨ s.present.trip = s.trip.set .stampEnd s.crew.phase 0 none := by
  unfold State.present
  split
  · exact .inl rfl
  · split
    · exact .inl (State.setStatus_trip _ s)
    · exact .inl rfl
    · exact .inl (State.setStatus_trip _ s)
    · rw [State.latch_trip, State.setStatus_trip, (calm_setStatus _ s).crew]
      split
      · exact .inl rfl
      · exact .inr rfl
    · exact .inl (State.take_trip _ s)

/-- A request that is taken has that status. -/
theorem State.take_status {s : State} (r : Request) (h : s.request.isSome = true) :
    (s.take r).request.map Request.status = some .taken := by
  by_cases hm : s.presentMembers = []
  · rw [State.take_of_no_members r hm, State.toldHolding_request]
    exact State.status_setStatus .taken h
  · rw [State.take_of_members r hm]
    exact State.status_setStatus .taken h

theorem State.waitsWith_of_status {s : State} {st : RequestStatus} {x : Option HoldReason}
    (h : s.request.map Request.status = some st) (hx : st ≠ .waiting x) : s.waitsWith x = false := by
  unfold State.waitsWith
  rw [h]
  exact beq_false_of_ne fun e => hx (Option.some.inj e)

/-! ## A press that is already settled -/

/-- Latches that no press releases, and channels that stay named, are what a press leaves. -/
theorem State.tripAfterPress_eq_self {s : State} (hlatches : ∀ l ∈ s.trip.latches, s.releases l = false)
    (hnamed : ∀ c ∈ s.trip.named, (s.atRail c && s.inUse c) = true)
    (hcause : s.trip.latches = [] → s.trip.firstCause = none) : s.tripAfterPress = s.trip := by
  have hl : (s.trip.latches.filter fun l => !s.releases l) = s.trip.latches :=
    List.filter_eq_self.2 fun l hl => by rw [hlatches l hl]; rfl
  have hn : (s.trip.named.filter fun c => s.atRail c && s.inUse c) = s.trip.named := List.filter_eq_self.2 hnamed
  unfold State.tripAfterPress
  rw [hl, hn]
  split
  next hnone => rw [← hcause hnone]
  · rfl

theorem State.not_freesHeld_of_settled {s : State} (h : s.tripAfterPress = s.trip) : ¬s.freesHeld := by
  rintro ⟨hheld, hlast, _⟩
  rw [h] at hlast
  rw [s.held_iff.2 hlast] at hheld
  cases hheld

theorem State.stopPress_of_settled {s : State} (honline : s.crew.stage = .online) (h : s.tripAfterPress = s.trip) :
    s.stopPress = s.pressOwner.pressNoted := by
  rw [State.stopPress_of_not_frees honline (State.not_freesHeld_of_settled h), State.released, h]

/-- In STRESSING the press has nothing left to release once it has freed and presented a request (R141). -/
theorem State.settled_after_frees {s : State} (hphase : s.crew.phase = .stressing)
    (hlast : s.tripAfterPress.latches = []) :
    s.released.present.tripAfterPress = s.released.present.trip := by
  have hcalm := calm_present s.released
  have hnamed (c : Channel) (h : c ∈ s.tripAfterPress.named) :
      (s.released.present.atRail c && s.released.present.inUse c) = true := by
    have hat : s.released.present.atRail c = s.atRail c := by
      unfold State.atRail
      rw [hcalm.scan]
      rfl
    have huse : s.released.present.inUse c = s.inUse c := by
      have hp : s.released.present.crew.phase = .stressing := (congrArg Crew.phase hcalm.crew).trans hphase
      simp only [State.inUse, hp, hphase]
    rw [hat, huse]
    exact (List.mem_filter.1 h).2
  have hcause : s.tripAfterPress.firstCause = none := if_pos hlast
  rcases State.present_trip s.released with htrip | htrip
  · refine State.tripAfterPress_eq_self ?_ ?_ ?_ <;> rw [htrip]
    · rw [show s.released.trip.latches = [] from hlast]
      exact nofun
    · exact hnamed
    · exact fun _ => hcause
  · have hset : (s.released.trip.set .stampEnd s.released.crew.phase 0 none).latches = [.stampEnd] := by
      simp [Trip.set, show s.released.trip.latches = [] from hlast]
    refine State.tripAfterPress_eq_self ?_ ?_ ?_ <;> rw [htrip]
    · rw [hset]
      intro l hl
      rw [List.mem_singleton.1 hl]
      rfl
    · exact hnamed
    · rw [hset]
      exact nofun

/-- A presented request with the abort flag waits with HELD under STAMP_END alone, which no press clears (R37). -/
theorem State.not_freesHeld_of_abort_presented {s : State} {r : Request} (hr : s.request = some r)
    (habort : r.abort = true) (hidle : s.lease.state = .idle) : ¬s.present.freesHeld := by
  have hsome : s.request.isSome = true := by rw [hr]; rfl
  have hwaits (x : HoldReason) (hx : x ≠ .held) (h : s.checkRequest r = .waits x) : ¬s.present.freesHeld := by
    refine State.not_freesHeld_of_not_waiting ?_
    rw [State.present_of_waits hr h]
    exact State.waitsWith_of_status (State.status_setStatus _ hsome) (by simpa using hx)
  have hcheck := State.checkRequest_eq (r := r) (State.hasRequester_of_request hr) hidle
  rw [habort] at hcheck
  simp only [Bool.not_true, Bool.and_false, Bool.false_eq_true, if_false] at hcheck
  split at hcheck
  · exact hwaits .paused (by decide) hcheck
  · split at hcheck
    · rintro ⟨_, hlast, _⟩
      rw [State.present_of_stampEnd hr hcheck] at hlast
      have hmem := State.mem_latch_latches .stampEnd 0 (s.setStatus (.waiting (some .held)))
      exact List.filter_eq_nil_iff.1 hlast _ hmem rfl
    · split at hcheck
      · exact hwaits .neighbourNotPresent (by decide) hcheck
      · refine State.not_freesHeld_of_not_waiting ?_
        rw [State.present_of_taken hr hcheck]
        exact State.waitsWith_of_status (State.take_status r hsome) (by simp)

/-! ## STOP in STRESSING (R138) -/

/-- From work that holds the lease: ABORT_UNLOAD. -/
theorem State.seqStop_of_working (asked : Bool) {s : State} (hphase : s.crew.phase = .stressing)
    (hsub : s.seq.sub = some .ramp ∨ s.seq.sub = some .holdLoad ∨ s.seq.sub = some .halted) :
    s.seqStop asked = s.fixAbort.enterUnload .abortUnload :=
  if_pos (by rcases hsub with h | h | h <;> simp [State.seqIn, hphase, h])

/-- From an unload, and from ABORT_WAIT with no ask out: nothing. -/
theorem State.seqStop_of_unloading {s : State}
    (hsub : s.seq.sub = some .seating ∨ s.seq.sub = some .release ∨ s.seq.sub = some .settle
      ∨ s.seq.sub = some .failUnload ∨ s.seq.sub = some .abortUnload ∨ s.seq.sub = some .abortWait) :
    s.seqStop false = s := by
  unfold State.seqStop
  rcases hsub with h | h | h | h | h | h <;> simp [State.seqIn, h]

theorem State.seqStop_of_waitLease (asked : Bool) {s : State} (hphase : s.crew.phase = .stressing)
    (hsub : s.seq.sub = some .waitLease) :
    s.seqStop asked =
      if !asked && s.jackLow then ((s.setRequest none).fixAbort).endAborted
      else ((s.setRequest none).fixAbort).abortWait := by
  unfold State.seqStop
  rw [if_neg (by simp [State.seqIn, hsub]), if_pos ((s.seqIn_iff _).2 ⟨hphase, hsub⟩)]

theorem State.seqStop_of_abortWait {s : State} (hphase : s.crew.phase = .stressing)
    (hsub : s.seq.sub = some .abortWait) : s.seqStop true = s.abortWait := by
  unfold State.seqStop
  rw [if_neg (by simp [State.seqIn, hsub]), if_neg (by simp [State.seqIn, hsub]),
    if_pos (by simp [State.seqIn, hphase, hsub])]

/-- The abort reason (R138). -/
def State.abortReason (s : State) : AbortReason := if s.seq.tripMark then .trip else .stop

/-- ABORT_WAIT with its RESTORE request, not yet presented, and this abort reason. -/
def State.abortAsked (a : Option AbortReason) (s : State) : State :=
  { s with
    seq := { s.seq with sub := some .abortWait, request := some ⟨.restore, true, .waiting none⟩, abort := a } }

theorem State.abortWait_eq {s : State} (hphase : s.crew.phase = .stressing) :
    s.abortWait = (s.abortAsked s.seq.abort).present :=
  State.ask_of_stressing (s := s.onSeq fun q => { q with sub := some .abortWait }) .restore true hphase

theorem State.seqStop_asks {s : State} (asked : Bool) (hphase : s.crew.phase = .stressing)
    (hsub : s.seq.sub = some .waitLease) (h : asked = true ∨ s.jackLow = false) :
    s.seqStop asked = (s.abortAsked (some s.abortReason)).present := by
  rw [State.seqStop_of_waitLease asked hphase hsub, if_neg (by rcases h with h | h <;> simp [h]),
    State.setRequest_of_stressing _ hphase, State.abortWait_eq]
  · rfl
  · exact hphase

theorem State.release_of_idle {s : State} (h : s.lease.state = .idle) : s.release = s := by
  unfold State.release
  rw [if_neg (by rw [h]; decide), State.withdrawGone_of_not_asking (by rw [h]; decide)]

theorem State.handTest_of_slot {s : State} {n : Nat} (job : Nat → Job) (h : s.seq.slot = some n) :
    s.handTest job = { s with store := s.store.offer (job n) } := by
  unfold State.handTest
  rw [h]
  exact State.handOver_eq _ s

/-- The test closed ABORTED and its machine at rest, in CURED. -/
def State.testAborted (n : Nat) (s : State) : State :=
  { s with
    seq :=
      { s.seq with
        sub := none, request := none, clockOn := false, jack := .reset, holdTimer := .off
        tripMark := false, slot := none, abort := some s.abortReason }
    store := s.store.offer (.closing n (.aborted s.abortReason) none)
    crew := { s.crew with phase := .cured } }

/-- With an unloaded jack the test ends at once, ABORTED (R138, R140). -/
theorem State.seqStop_ends {s : State} {n : Nat} (hphase : s.crew.phase = .stressing)
    (hsub : s.seq.sub = some .waitLease) (hidle : s.lease.state = .idle) (hlow : s.jackLow = true)
    (hslot : s.seq.slot = some n) : s.seqStop false = s.testAborted n := by
  rw [State.seqStop_of_waitLease false hphase hsub, if_pos (by simp [hlow]),
    State.setRequest_of_stressing _ hphase]
  unfold State.endAborted State.endTest State.closeTest
  dsimp only [State.fixAbort, State.onSeq, Option.map_some]
  rw [State.handTest_of_slot _ (by exact hslot), State.release_of_idle (by exact hidle)]
  rfl

/-- The press withdraws the ask of WAIT_LEASE or ABORT_WAIT and asks anew with the abort flag (R53, R138, R139). -/
theorem State.pressOwner_withdraws {s : State} (hphase : s.crew.phase = .stressing)
    (hask : s.lease.state = .asking) (hsub : s.seq.sub = some .waitLease ∨ s.seq.sub = some .abortWait) :
    s.pressOwner =
      (s.withdrawn.abortAsked (if s.seq.sub = some .waitLease then some s.abortReason else s.seq.abort)).present := by
  rw [State.pressOwner_of_asking hask, State.withdrawGone_eq s hask,
    State.setRequest_of_stressing (s := s.withdrawn) none hphase]
  have hp : (s.withdrawn.onSeq fun q => { q with request := none }).crew.phase = .stressing := hphase
  rw [State.ownerStop_of_stressing true hp]
  rcases hsub with h | h
  · rw [State.seqStop_asks true hp h (.inl rfl), if_pos h]
    rfl
  · rw [State.seqStop_of_abortWait hp h, State.abortWait_eq hp, if_neg (by rw [h]; decide)]
    rfl

/-- The new request taken: the lease is ASKING with a new stamp. -/
theorem State.abortAsked_present_of_members {s : State} (a : Option AbortReason) (hphase : s.crew.phase = .stressing)
    (htake : s.wouldTake true) (hmembers : s.presentMembers ≠ []) :
    (s.abortAsked a).present =
      { s with
        seq := { s.seq with sub := some .abortWait, request := some ⟨.restore, true, .taken⟩, abort := a }
        lease :=
          { s.lease with
            state := .asking, clock := s.lease.clock + 1, required := s.presentMembers
            ask := some ⟨.restore, true, s.lease.clock + 1, 1⟩, askTimer := ⟨true, 0, 5000000⟩ }
        lif :=
          { s.lif with
            ask := if s.listenOnly then s.lif.ask else some ⟨.ask .restore (s.lease.clock + 1) 1, 0⟩ } } := by
  rw [State.present_of_wouldTake (s := s.abortAsked a) (r := ⟨.restore, true, .waiting none⟩) (if_pos hphase) htake,
    State.take_of_members (s := s.abortAsked a) _ hmembers]
  refine (State.setStatus_of_stressing _ ?_).trans rfl
  exact hphase

/-- In a phase that uses no channel, every latch that releases in STRESSING releases. -/
theorem State.tripAfterPress_of_cured {s t : State} (hlast : s.tripAfterPress.latches = [])
    (htrip : t.trip = s.trip) (hscan : t.scan = s.scan) (hbinding : t.binding = s.binding)
    (hphase : t.crew.phase = .cured) :
    t.tripAfterPress = { s.trip with latches := [], named := [], firstCause := none } := by
  have huse (c : Channel) : t.inUse c = false := by simp [State.inUse, hphase]
  have hpar : t.par = s.par := by unfold State.par; rw [hbinding]
  have hreleases (l : Latch) (h : s.releases l = true) : t.releases l = true := by
    cases l with
    | sensorFault => exact t.releases_sensorFault_iff.2 fun c _ hc => by rw [huse c] at hc; exact nomatch hc.2
    | jackOver | groutOver | breakIn => simpa only [State.releases, hscan, hpar] using h
    | winchJam | rampStall | leaseOverrun | extRunaway | lineJabber => rfl
    | duplicateId | stampEnd => exact h
  have hl : (t.trip.latches.filter fun l => !t.releases l) = [] := by
    rw [htrip]
    refine List.filter_eq_nil_iff.2 fun l hl => ?_
    have := List.filter_eq_nil_iff.1 hlast l hl
    simp only [Bool.not_eq_true', Bool.not_eq_false] at this ⊢
    exact hreleases l this
  have hn : (t.trip.named.filter fun c => t.atRail c && t.inUse c) = [] :=
    List.filter_eq_nil_iff.2 fun c _ => by simp [huse c]
  unfold State.tripAfterPress
  rw [hl, hn, htrip]
  rfl

theorem State.jackLow_eq_false {s : State} (h : 500 ≤ s.scan.jp ∨ s.named .jp = true) : s.jackLow = false := by
  unfold State.jackLow Config.unloadedKPa
  rcases h with h | h
  · rw [decide_eq_false (by omega)]
    rfl
  · rw [h]
    exact Bool.and_false _

theorem State.jackLow_eq_true {s : State} (hlow : s.scan.jp < 500) (hnamed : s.named .jp = false) :
    s.jackLow = true := by simp [State.jackLow, Config.unloadedKPa, hlow, hnamed]

/-- STOP in WAIT_LEASE where the press frees the request, the work stopped first: the test ends at once. -/
theorem State.stop_ends_first {s : State} {n : Nat} (hphase : s.crew.phase = .stressing)
    (hidle : s.lease.state = .idle) (hfree : s.freesHeld) (hsub : s.seq.sub = some .waitLease)
    (hslot : s.seq.slot = some n) (hlow : s.jackLow = true) :
    s.drawFree.pressOwner.pressRelease.pressNoted =
      { s with
        free := s.free + 1
        seq :=
          { s.seq with
            sub := none, request := none, clockOn := false, jack := .reset, holdTimer := .off
            tripMark := false, slot := none, abort := some s.abortReason }
        store := s.store.offer (.closing n (.aborted s.abortReason) none)
        trip := { s.trip with latches := [], named := [], firstCause := none }
        crew := { s.crew.afterPress with phase := .cured } } := by
  rw [State.pressOwner_of_not_asking (s := s.drawFree) (LeaseState.not_asking_of_idle hidle),
    State.ownerStop_of_stressing (s := s.drawFree) false hphase,
    State.seqStop_ends (s := s.drawFree) hphase hsub hidle hlow hslot,
    State.pressRelease_of_not_frees (State.not_freesHeld_of_phase (p := .cured) rfl), State.released,
    State.tripAfterPress_of_cured (s := s) (t := s.drawFree.testAborted n) hfree.2.1 rfl rfl rfl rfl]
  rfl

/-- With a loaded jack it goes to ABORT_WAIT, presents, and then releases. -/
theorem State.stop_asks_first {s : State} (hphase : s.crew.phase = .stressing) (hidle : s.lease.state = .idle)
    (hsub : s.seq.sub = some .waitLease) (hlow : s.jackLow = false) :
    s.drawFree.pressOwner.pressRelease = (s.drawFree.abortAsked (some s.abortReason)).present.released := by
  rw [State.pressOwner_of_not_asking (s := s.drawFree) (LeaseState.not_asking_of_idle hidle),
    State.ownerStop_of_stressing (s := s.drawFree) false hphase,
    State.seqStop_asks (s := s.drawFree) false hphase hsub (.inr hlow)]
  refine State.pressRelease_of_not_frees (State.not_freesHeld_of_abort_presented (r := ⟨.restore, true, .waiting none⟩)
    ?_ rfl hidle)
  exact if_pos hphase

/-- STOP in WAIT_LEASE where the press ends HELD while the request waits with HELD (R141). -/
theorem State.stop_of_frees {s : State} {n : Nat} (honline : s.crew.stage = .online)
    (hphase : s.crew.phase = .stressing) (hidle : s.lease.state = .idle) (hfree : s.freesHeld)
    (hsub : s.seq.sub = some .waitLease) (hslot : s.seq.slot = some n) :
    exec .stop s = exec .stop s.drawFree.released.present
      ∨ (s.scan.jp < 500 ∧ s.named .jp = false
          ∧ exec .stop s = .next (State.finish
              { s with
                free := s.free + 1
                seq :=
                  { s.seq with
                    sub := none, request := none, clockOn := false, jack := .reset, holdTimer := .off
                    tripMark := false, slot := none, abort := some s.abortReason }
                store := s.store.offer (.closing n (.aborted s.abortReason) none)
                trip := { s.trip with latches := [], named := [], firstCause := none }
                crew := { s.crew.afterPress with phase := .cured } }))
      ∨ ((500 ≤ s.scan.jp ∨ s.named .jp = true)
          ∧ exec .stop s = .next (State.finish (State.pressNoted
              (s.drawFree.abortAsked (some s.abortReason)).present.released))) := by
  have hstop := State.stopPress_of_online honline
  rcases State.pressWork_of_frees_stressing hfree hphase with hfirst | hfirst
  · left
    rw [exec_of_eventOf (c := .stop) (hstop.trans (congrArg State.pressNoted hfirst)),
      State.pressRelease_of_frees (s := s.drawFree) hfree]
    refine (exec_of_eventOf (c := .stop) (State.stopPress_of_settled ?_ ?_)).symm
    · exact (congrArg Crew.stage (calm_present s.drawFree.released).crew).trans honline
    · exact State.settled_after_frees (s := s.drawFree) hphase hfree.2.1
  · right
    rw [hfirst] at hstop
    by_cases hlow : s.scan.jp < 500 ∧ s.named .jp = false
    · refine .inl ⟨hlow.1, hlow.2, exec_of_eventOf (hstop.trans ?_)⟩
      exact State.stop_ends_first hphase hidle hfree hsub hslot (State.jackLow_eq_true hlow.1 hlow.2)
    · have hloaded : 500 ≤ s.scan.jp ∨ s.named .jp = true := by
        rw [not_and_or, Bool.not_eq_false, not_lt] at hlow
        exact hlow
      refine .inr ⟨hloaded, exec_of_eventOf (hstop.trans ?_)⟩
      rw [State.stop_asks_first hphase hidle hsub (State.jackLow_eq_false hloaded)]

/-- Settles O12: the latches are released first, unless the press frees the request of WAIT_LEASE; then the sequencer
stops by its sub-state, and an ask that is out is withdrawn before. -/
theorem stopInStressing : Obligations.StopInStressing := by
  refine ⟨fun s honline hphase hstate hwaits hsub => ?_, fun s honline hphase hstate hwaits hsub => ?_,
    fun s n honline hphase hidle hfree hsub hjp hnamed hslot => ?_,
    fun s honline hphase hidle hfree hsub hloaded => ?_, fun s honline hphase hidle hfree hsub => ?_,
    fun s honline hphase hask hwaits hsub => ?_, fun s n honline hphase hidle hfree hsub hslot => ?_,
    fun s honline hphase hask hwaits hsub hhold hclock hall hmembers => ?_⟩
  · refine exec_of_eventOf ?_
    show s.stopPress = _
    rw [State.stopPress_of_quiet honline (State.not_freesHeld_of_not_waiting hwaits)
      (LeaseState.not_asking_of_holding hstate), State.ownerStop_of_stressing (s := s.released) false hphase,
      State.seqStop_of_working (s := s.released) false hphase hsub]
    rfl
  · refine exec_of_eventOf (State.stopPress_of_no_work honline (State.not_freesHeld_of_not_waiting hwaits)
      (LeaseState.not_asking_of_holding hstate) ?_)
    rw [State.ownerStop_of_stressing (s := s.released) false hphase]
    refine State.seqStop_of_unloading (s := s.released) ?_
    rcases hsub with h | h | h | h | h <;> simp [State.released, h]
  · refine exec_of_eventOf ?_
    show s.stopPress = _
    rw [State.stopPress_of_quiet honline hfree (LeaseState.not_asking_of_idle hidle),
      State.ownerStop_of_stressing (s := s.released) false hphase,
      State.seqStop_ends (s := s.released) hphase hsub hidle (State.jackLow_eq_true hjp hnamed) hslot,
      State.handOver_store]
    rfl
  · refine exec_of_eventOf ?_
    show s.stopPress = _
    rw [State.stopPress_of_quiet honline hfree (LeaseState.not_asking_of_idle hidle),
      State.ownerStop_of_stressing (s := s.released) false hphase,
      State.seqStop_asks (s := s.released) false hphase hsub (.inr (State.jackLow_eq_false hloaded))]
    rfl
  · refine exec_of_eventOf (State.stopPress_of_no_work honline hfree (LeaseState.not_asking_of_idle hidle) ?_)
    rw [State.ownerStop_of_stressing (s := s.released) false hphase]
    exact State.seqStop_of_unloading (s := s.released) (by simp [State.released, hsub])
  · refine exec_of_eventOf ?_
    show s.stopPress = _
    rw [State.stopPress_of_not_frees honline (State.not_freesHeld_of_not_waiting hwaits),
      State.pressOwner_withdraws (s := s.released) hphase hask hsub]
    rfl
  · have h := State.stop_of_frees honline hphase hidle hfree hsub hslot
    rw [State.handOver_store]
    exact h
  · have hgrants := State.grantedInIdle_of_grantsAll (s := s.released) (State.grantsAll_of_stressing hphase)
    have hstop : eventOf .stop s = _ := (State.stopPress_of_not_frees honline
      (State.not_freesHeld_of_not_waiting hwaits)).trans (congrArg State.pressNoted
        ((State.pressOwner_withdraws (s := s.released) hphase hask hsub).trans
          (State.abortAsked_present_of_members (s := s.released.withdrawn) _ hphase
            ⟨rfl, hhold, .inr rfl, hclock, hall, .inr rfl⟩ hmembers)))
    obtain ⟨tx, rails, jack, grout, ext, window, drives, hfin⟩ := State.finish_form (eventOf .stop s)
    rw [hstop] at hfin
    exact ⟨_, (exec_of_eventOf hstop).trans (congrArg _ hfin), rfl, rfl, rfl, rfl, ⟨rfl, rfl⟩, rfl, rfl, rfl, rfl, rfl,
      hgrants.2, rfl, rfl, fun h => if_pos h⟩

end Sys2Proof.Machine

/-! STOP in LOCKED: the top-up's ramp unloads, a pending top-up asks anew or waits on (R53, R73, R146, R148, R152). -/

namespace Sys2Proof.Machine

/-! ## The press at the aftercare monitor (R148, R152) -/

theorem State.aftStop_of_ramping (asked : Bool) {s : State} (hphase : s.crew.phase = .locked)
    (hsub : s.aft.sub = some .topUp)
    (hstage : s.aft.stage = some .lift ∨ s.aft.stage = some .ramp ∨ s.aft.stage = some .halted) :
    s.aftStop asked = s.enterTopUpUnload .abortUnload :=
  if_pos (by rcases hstage with h | h | h <;> simp [State.stageIn, State.toppingUp, hphase, hsub, h])

theorem State.aftStop_of_pending (asked : Bool) {s : State} (hphase : s.crew.phase = .locked)
    (hsub : s.aft.sub = some .pending) :
    s.aftStop asked = if asked then s.ask .restore false else s.retryStoreFull := by
  unfold State.aftStop
  rw [if_neg (by simp [State.stageIn, State.toppingUp, hsub]), if_pos (s.pendingTopUp_iff.2 ⟨hphase, hsub⟩)]

/-- From an unload of a top-up and from WATCH: nothing. -/
theorem State.aftStop_of_unloading (asked : Bool) {s : State}
    (h : (s.aft.sub = some .topUp ∧ (s.aft.stage = some .seating ∨ s.aft.stage = some .release
        ∨ s.aft.stage = some .settle ∨ s.aft.stage = some .abortUnload)) ∨ s.aft.sub = some .watch) :
    s.aftStop asked = s := by
  have hstage (x : TopUpStage) (hx : x ≠ .seating ∧ x ≠ .release ∧ x ≠ .settle ∧ x ≠ .abortUnload) :
      s.stageIn x = false := by
    rcases h with ⟨_, h | h | h | h⟩ | h <;> 
      simp [State.stageIn, State.toppingUp, h, hx.1.symm, hx.2.1.symm, hx.2.2.1.symm, hx.2.2.2.symm]
  have hpending : s.pendingTopUp = false := by
    rcases h with ⟨h, _⟩ | h <;> simp [State.pendingTopUp, h]
  unfold State.aftStop
  rw [hstage .lift (by decide), hstage .ramp (by decide), hstage .halted (by decide), hpending]
  rfl

/-- A request that waits with one reason waits with no other. -/
theorem State.waitsWith_of_other {s : State} {x y : Option HoldReason} (h : s.waitsWith x = true) (hxy : x ≠ y) :
    s.waitsWith y = false := by
  unfold State.waitsWith at h ⊢
  rw [beq_iff_eq.1 h]
  exact beq_false_of_ne (by simpa using hxy)

/-! ## A pending top-up (R53, R146, R148) -/

/-- With no ask out and no request that waits with STORE_FULL, the press finds nothing to stop. -/
theorem State.ownerStop_of_pending {s : State} (hphase : s.crew.phase = .locked) (hsub : s.aft.sub = some .pending)
    (hfull : s.waitsWith (some .storeFull) = false) : s.ownerStop false = s := by
  rw [State.ownerStop_of_locked false hphase, State.aftStop_of_pending false hphase hsub]
  exact State.retryStoreFull_of_not_waiting (.inr hfull)

/-- The pending top-up with its RESTORE request, not yet presented. -/
def State.topUpAsked (s : State) : State :=
  { s with aft := { s.aft with request := some ⟨.restore, false, .waiting none⟩ } }

/-- An ask that is out is withdrawn, and a new RESTORE request presented. -/
theorem State.stopPress_of_pending_asking {s : State} (honline : s.crew.stage = .online)
    (hphase : s.crew.phase = .locked) (hask : s.lease.state = .asking) (hwaits : s.waitsWith (some .held) = false)
    (hsub : s.aft.sub = some .pending) :
    s.stopPress = s.released.withdrawn.topUpAsked.present.pressNoted := by
  rw [State.stopPress_of_not_frees honline (State.not_freesHeld_of_not_waiting hwaits),
    State.pressOwner_of_asking (s := s.released) hask, State.withdrawGone_eq s.released hask,
    State.setRequest_of_locked (s := s.released.withdrawn) none hphase, State.ownerStop_of_locked true (by exact hphase),
    State.aftStop_of_pending true (by exact hphase) (by exact hsub), if_pos rfl,
    State.ask_of_locked .restore false (by exact hphase)]
  rfl

/-- The new request taken with some entry PRESENT: the lease is ASKING with a new stamp. -/
theorem State.topUpAsked_present_of_members {s : State} (hphase : s.crew.phase = .locked) (htake : s.wouldTake false)
    (hmembers : s.presentMembers ≠ []) :
    s.topUpAsked.present =
      { s with
        aft := { s.aft with request := some ⟨.restore, false, .taken⟩ }
        lease :=
          { s.lease with
            state := .asking, clock := s.lease.clock + 1, required := s.presentMembers
            ask := some ⟨.restore, false, s.lease.clock + 1, 1⟩, askTimer := ⟨true, 0, 5000000⟩ }
        lif :=
          { s.lif with
            ask := if s.listenOnly then s.lif.ask else some ⟨.ask .restore (s.lease.clock + 1) 1, 0⟩ } } := by
  rw [State.present_of_wouldTake (s := s.topUpAsked) (r := ⟨.restore, false, .waiting none⟩) ?_ htake,
    State.take_of_members (s := s.topUpAsked) _ hmembers]
  · refine (State.setStatus_of_locked _ ?_).trans rfl
    exact hphase
  · exact (if_neg (by rw [show s.topUpAsked.crew.phase = .locked from hphase]; decide)).trans (if_pos hphase)

/-- Settles O13: the top-up's ramp enters ABORT_UNLOAD, a pending top-up is withdrawn and asks anew, waits on, is
presented as the last latch clears, or asks afresh for a slot; elsewhere only latches are released. -/
theorem stopInLocked : Obligations.StopInLocked := by
  refine ⟨fun s honline hphase hstate hwaits hsub hstage => ?_, fun s honline hphase hwaits hwork => ?_,
    fun s honline hphase hask hwaits hsub hhold hlast hclock hall hreask hmembers => ?_,
    fun s honline hphase hask hwaits hsub => ?_, fun s honline hphase hidle hsub hfree => ?_,
    fun s honline hphase hidle hsub hfree hfull => ?_, fun s honline hphase hidle hsub hfull => ?_⟩
  · refine exec_of_eventOf ?_
    show s.stopPress = _
    rw [State.stopPress_of_quiet honline (State.not_freesHeld_of_not_waiting hwaits)
      (LeaseState.not_asking_of_holding hstate), State.ownerStop_of_locked (s := s.released) false hphase,
      State.aftStop_of_ramping (s := s.released) false hphase hsub hstage]
    rfl
  · refine exec_of_eventOf (State.stopPress_of_no_work honline (State.not_freesHeld_of_not_waiting hwaits) ?_ ?_)
    · rcases hwork with ⟨h, _⟩ | ⟨h, _⟩ <;> rw [h] <;> decide
    · rw [State.ownerStop_of_locked (s := s.released) false hphase]
      exact State.aftStop_of_unloading (s := s.released) false (hwork.imp And.right And.right)
  · have htake : s.released.withdrawn.wouldTake false :=
      ⟨rfl, hhold, .inl ((State.held_iff _).2 hlast), hclock, hall, .inl hreask⟩
    have hev : eventOf .stop s = _ := (State.stopPress_of_pending_asking honline hphase hask hwaits hsub).trans
      (congrArg State.pressNoted
        (State.topUpAsked_present_of_members (s := s.released.withdrawn) hphase htake hmembers))
    obtain ⟨tx, rails, jack, grout, ext, window, drives, hfin⟩ := State.finish_form (eventOf .stop s)
    rw [hev] at hfin
    exact ⟨_, (exec_of_eventOf hev).trans (congrArg _ hfin), rfl, rfl, rfl, rfl, ⟨rfl, rfl⟩, rfl, hsub, rfl, rfl, rfl,
      rfl, rfl⟩
  · exact exec_of_eventOf (State.stopPress_of_pending_asking honline hphase hask hwaits hsub)
  · have hfull := State.waitsWith_of_other (y := some .storeFull) hfree.2.2 (by decide)
    refine exec_of_eventOf ((State.stopPress_of_online honline).trans (congrArg State.pressNoted ?_))
    rw [State.pressWork_of_frees hfree (by rw [hphase]; decide),
      State.pressOwner_of_not_asking (LeaseState.not_asking_of_idle hidle),
      State.ownerStop_of_pending hphase hsub hfull, State.pressRelease_of_frees hfree]
    rfl
  · exact exec_of_eventOf (State.stopPress_of_no_work honline hfree (LeaseState.not_asking_of_idle hidle)
      (State.ownerStop_of_pending (s := s.released) hphase hsub hfull))
  · have hheld := State.waitsWith_of_other (y := some .held) hfull (by decide)
    refine exec_of_eventOf ((State.stopPress_of_quiet honline (State.not_freesHeld_of_not_waiting hheld)
      (LeaseState.not_asking_of_idle hidle)).trans (congrArg State.pressNoted ?_))
    rw [State.ownerStop_of_locked (s := s.released) false hphase,
      State.aftStop_of_pending (s := s.released) false hphase hsub]
    rfl

end Sys2Proof.Machine

/-! A latch that sets: the trip monitor's record, the line interface, the lease and the blocks (R15, R54, R91, R108, R136,
R151, R160 to R167). -/

namespace Sys2Proof.Machine

/-! ## The record and the ALERT (R15, R160 to R162) -/

theorem Trip.set_latches_of_not_mem {l : Latch} {t : Trip} (h : t.latches.contains l = false) (p : Phase) (v : Half)
    (ch : Option Channel) : (t.set l p v ch).latches = t.latches ++ [l] :=
  if_neg (by rw [h]; exact Bool.false_ne_true)

theorem Trip.set_firstCause (l : Latch) (p : Phase) (v : Half) (ch : Option Channel) (t : Trip) :
    (t.set l p v ch).firstCause = if t.latches = [] then some ⟨l.cause, p, v, ch⟩ else t.firstCause := by
  unfold Trip.set
  simp only [List.isEmpty_iff]

/-- The two latches that bring listen-only (R15). -/
def Latch.mutes (l : Latch) : Prop := l = .lineJabber ∨ l = .duplicateId

theorem State.listenOnly_of_mutes {l : Latch} (h : l.mutes) {p : Phase} {v : Half} {ch : Option Channel} {x : Trip}
    {s : State} (htrip : s.trip = x.set l p v ch) : s.listenOnly = true := by
  have hset := Trip.mem_set_latches l p v ch x
  rcases h with rfl | rfl <;> simp [State.listenOnly, State.latched, htrip, hset]

/-- LINE_JABBER and DUPLICATE_ID empty the slots; their own ALERT is discarded. -/
theorem State.noteLatch_of_mutes {l : Latch} (h : l.mutes) (v : Half) (ch : Option Channel) (s : State) :
    s.noteLatch l v ch = { s with trip := s.trip.set l s.crew.phase v ch, lif := s.lif.dropSlots } := by
  have honly : State.listenOnly
      { s with trip := s.trip.set l s.crew.phase v ch, lif := s.lif.dropSlots } = true :=
    State.listenOnly_of_mutes h rfl
  unfold State.noteLatch
  rw [State.placeAlert_eq]
  dsimp only
  rw [if_pos (show l = .lineJabber ∨ l = .duplicateId from h)]
  refine Eq.trans (congrArg (fun a => { s with
    trip := s.trip.set l s.crew.phase v ch, lif := { s.lif.dropSlots with alert := a } }) (if_pos honly)) rfl

theorem State.listenOnly_of_set {l : Latch} (h : ¬l.mutes) (v : Half) (ch : Option Channel) (s : State) :
    State.listenOnly { s with trip := s.trip.set l s.crew.phase v ch } = s.listenOnly := by
  have hother (k : Latch) (hk : k ≠ l) :
      (s.trip.set l s.crew.phase v ch).latches.contains k = s.trip.latches.contains k := by
    unfold Trip.set
    dsimp only
    split
    · rfl
    · simp [hk]
  unfold State.listenOnly State.latched
  dsimp only
  rw [hother _ fun e => h (.inr e.symm), hother _ fun e => h (.inl e.symm)]
  rfl

/-- Any other latch places its ALERT. -/
theorem State.noteLatch_of_not_mutes {l : Latch} (h : ¬l.mutes) (v : Half) (ch : Option Channel) (s : State) :
    s.noteLatch l v ch =
      { s with
        trip := s.trip.set l s.crew.phase v ch
        lif := if s.listenOnly then s.lif else { s.lif with alert := some ⟨⟨l.cause, s.crew.phase, v⟩, 0⟩ } } := by
  unfold State.noteLatch
  rw [State.placeAlert_eq]
  dsimp only
  rw [if_neg (show ¬(l = .lineJabber ∨ l = .duplicateId) from h)]
  refine (congrArg (fun a => { s with
    trip := s.trip.set l s.crew.phase v ch, lif := { s.lif with alert := a } })
    (if_congr (Bool.eq_iff_iff.1 (State.listenOnly_of_set h v ch s)) rfl rfl)).trans ?_
  split <;> rfl

theorem State.noteLatch_form (l : Latch) (v : Half) (ch : Option Channel) (s : State) :
    ∃ lif, s.noteLatch l v ch = { s with lif := lif, trip := s.trip.set l s.crew.phase v ch } := by
  by_cases h : l.mutes
  · exact ⟨_, State.noteLatch_of_mutes h v ch s⟩
  · exact ⟨_, State.noteLatch_of_not_mutes h v ch s⟩

/-! ## The latch announced (R54, R167) -/

/-- The lease's part of the announcement: an ask without the abort flag is withdrawn. -/
def State.askHeld (s : State) : State :=
  if s.lease.state = .asking ∧ s.askAbort = false then State.setStatus (.waiting (some .held)) s.withdrawn else s

theorem State.askHeld_of_asking {s : State} (hask : s.lease.state = .asking) (habort : s.askAbort = false) :
    s.askHeld = State.setStatus (.waiting (some .held)) s.withdrawn := if_pos ⟨hask, habort⟩

theorem State.askHeld_of_not {s : State} (h : s.lease.state ≠ .asking ∨ s.askAbort = true) : s.askHeld = s :=
  if_neg fun hc => h.elim (· hc.1) fun ha => Bool.false_ne_true (hc.2.symm.trans ha)

theorem State.setLatch_eq_blocks (l : Latch) (v : Half) (ch : Option Channel) (s : State) :
    s.setLatch l v ch = (s.noteLatch l v ch).askHeld.blocksAtLatch := by
  rw [State.setLatch_eq, State.announce_eq]
  rfl

/-- The announcement reaches the two slots of the lease, the lease, and the requests; the rest of a state stays. -/
theorem State.askHeld_form (s : State) :
    ∃ ask batch lease q a,
      s.askHeld =
        { s with
          lif := { s.lif with ask := ask, batch := batch }
          lease := lease, seq := { s.seq with request := q }, aft := { s.aft with request := a } } := by
  by_cases h : s.lease.state = .asking ∧ s.askAbort = false
  · obtain ⟨q, a, hform⟩ := State.setStatus_form (.waiting (some .held)) s.withdrawn
    exact ⟨_, _, _, q, a, (State.askHeld_of_asking h.1 h.2).trans hform⟩
  · exact ⟨s.lif.ask, s.lif.batch, s.lease, s.seq.request, s.aft.request, if_neg h⟩

/-- Seven blocks hear of a latch; the others stay. -/
theorem State.setLatch_form (l : Latch) (v : Half) (ch : Option Channel) (s : State) :
    ∃ lif lease placement grout seq aft,
      s.setLatch l v ch =
        { s with
          lif := lif, lease := lease, placement := placement, grout := grout, seq := seq, aft := aft
          trip := s.trip.set l s.crew.phase v ch } := by
  obtain ⟨lif, hnote⟩ := State.noteLatch_form l v ch s
  obtain ⟨ask, batch, lease, q, a, hheld⟩ := (s.noteLatch l v ch).askHeld_form
  rw [State.setLatch_eq_blocks, hheld, hnote]
  exact ⟨_, _, _, _, _, _, rfl⟩

/-- An ALERT that the latch has placed stays through the announcement. -/
theorem State.setLatch_alert {l : Latch} (h : ¬l.mutes) (v : Half) (ch : Option Channel) {s : State}
    (honly : s.listenOnly = false) :
    (s.setLatch l v ch).lif.alert = some ⟨⟨l.cause, s.crew.phase, v⟩, 0⟩ := by
  obtain ⟨ask, batch, lease, q, a, hheld⟩ := (s.noteLatch l v ch).askHeld_form
  rw [State.setLatch_eq_blocks, hheld, State.noteLatch_of_not_mutes h, honly]
  rfl

/-- While listen-only no slot holds a frame once the latch that brings it has set. -/
theorem State.setLatch_of_mutes {l : Latch} (h : l.mutes) (v : Half) (ch : Option Channel) (s : State) :
    (s.setLatch l v ch).listenOnly = true ∧ (s.setLatch l v ch).lif = s.lif.dropSlots := by
  refine ⟨State.listenOnly_of_mutes h (State.setLatch_trip l v ch s), ?_⟩
  rw [State.setLatch_eq_blocks, State.noteLatch_of_mutes h]
  by_cases hask : s.lease.state = .asking ∧ s.askAbort = false
  · rw [State.askHeld_of_asking (s := { s with trip := s.trip.set l s.crew.phase v ch, lif := s.lif.dropSlots })
      hask.1 hask.2]
    refine (State.setStatus_lif _ _).trans ?_
    unfold State.withdrawn State.idled State.batchGranting
    rw [State.listenOnly_of_mutes (s := { s with trip := s.trip.set l s.crew.phase v ch, lif := s.lif.dropSlots }) h rfl]
    rfl
  · exact congrArg State.lif (if_neg hask)

theorem Lif.dropSlots_anySlot {s : State} {lif : Lif} (h : s.lif = lif.dropSlots) : s.anySlot = false := by
  unfold State.anySlot
  rw [h]
  rfl

theorem State.latch_of_clear {l : Latch} {s : State} (h : s.latched l = false) (v : Half) :
    s.latch l v = s.setLatch l v none := if_neg (by rw [h]; exact Bool.false_ne_true)

theorem State.latch_of_set {l : Latch} {s : State} (h : s.latched l = true) (v : Half) : s.latch l v = s := if_pos h

/-! ## What the statement of a setting latch spells out -/

/-- The lease as an ask is withdrawn for a latch. -/
theorem State.setLatch_lease_of_asking (l : Latch) (v : Half) (ch : Option Channel) {s : State}
    (hask : s.lease.state = .asking) (habort : s.askAbort = false) :
    (s.setLatch l v ch).lease =
        { s.lease with
          state := .idle, ask := none, required := [], askTimer := .off, hold := .off, deferred := s.keptInIdle }
      ∧ (s.setLatch l v ch).request = s.request.map (fun r => { r with status := .waiting (some .held) }) := by
  obtain ⟨lif, hnote⟩ := State.noteLatch_form l v ch s
  rw [State.setLatch_eq_blocks, hnote,
    State.askHeld_of_asking (s := { s with lif := lif, trip := s.trip.set l s.crew.phase v ch }) hask habort]
  refine ⟨State.setStatus_lease .., ?_⟩
  exact (sameWork_blocksAtLatch _).request.trans (State.request_setStatus _)

theorem State.setLatch_lease_of_not (l : Latch) (v : Half) (ch : Option Channel) {s : State}
    (h : s.lease.state ≠ .asking ∨ s.askAbort = true) : (s.setLatch l v ch).lease = s.lease := by
  obtain ⟨lif, hnote⟩ := State.noteLatch_form l v ch s
  rw [State.setLatch_eq_blocks, hnote,
    State.askHeld_of_not (s := { s with lif := lif, trip := s.trip.set l s.crew.phase v ch }) h]
  rfl

/-- WITHDRAW and the grants of R44 in their slots. -/
theorem State.setLatch_lif_of_asking {l : Latch} (h : ¬l.mutes) (v : Half) (ch : Option Channel) {s : State}
    (hask : s.lease.state = .asking) (habort : s.askAbort = false) (honly : s.listenOnly = false) :
    (s.setLatch l v ch).lif.ask = some ⟨.withdraw s.askStamp, 0⟩
      ∧ (s.setLatch l v ch).lif.batch = s.batchGranting s.grantedInIdle := by
  have hnote := State.noteLatch_of_not_mutes h v ch s
  rw [if_neg (by rw [honly]; exact Bool.false_ne_true)] at hnote
  have honly' : (s.noteLatch l v ch).listenOnly = false := by
    rw [hnote]
    exact (State.listenOnly_of_set h v ch s).trans honly
  rw [State.setLatch_eq_blocks, State.askHeld_of_asking (by rw [hnote]; exact hask) (by rw [hnote]; exact habort)]
  refine ⟨(congrArg Lif.ask (State.setStatus_lif _ _)).trans ?_, (congrArg Lif.batch (State.setStatus_lif _ _)).trans ?_⟩
  · refine (if_neg (by rw [honly']; exact Bool.false_ne_true)).trans ?_
    rw [hnote]
    rfl
  · unfold State.batchGranting
    refine (if_neg (by rw [honly']; exact Bool.false_ne_true)).trans ?_
    rw [if_neg (by rw [honly]; exact Bool.false_ne_true), hnote]
    rfl

end Sys2Proof.Machine

/-! A latch sets, and the conditions that bring one due (R54, R91, R108, R136, R151, R159 to R167). -/

namespace Sys2Proof.Machine

/-! ## The record, spelled out (R160, R161, R163) -/

theorem Trip.set_latches (l : Latch) (p : Phase) (v : Half) (ch : Option Channel) (t : Trip) :
    (t.set l p v ch).latches = if l ∈ t.latches then t.latches else t.latches ++ [l] := by
  unfold Trip.set
  simp only [List.contains_iff_mem]

theorem Trip.set_named_none (l : Latch) (p : Phase) (v : Half) (t : Trip) : (t.set l p v none).named = t.named := rfl

theorem Trip.set_named_some (l : Latch) (p : Phase) (v : Half) (c : Channel) (t : Trip) :
    (t.set l p v (some c)).named = if c ∈ t.named then t.named else t.named ++ [c] := by
  unfold Trip.set
  simp only [List.contains_iff_mem]

/-- The record from its four fields that a latch may touch beside the deglitch times. -/
theorem Trip.set_eq_of_fields {l : Latch} {p : Phase} {v : Half} {ch : Option Channel} {t : Trip}
    {latches : List Latch} {named : List Channel} {cause : Option FirstCause}
    (hlatches : (t.set l p v ch).latches = latches) (hnamed : (t.set l p v ch).named = named)
    (hcause : (t.set l p v ch).firstCause = cause) :
    t.set l p v ch =
      { t with
        latches := latches, named := named, firstCause := cause
        jackTime := if l = .jackOver then 0 else t.jackTime
        groutTime := if l = .groutOver then 0 else t.groutTime
        extTime := if l = .extRunaway then 0 else t.extTime } := by
  subst hlatches hnamed hcause
  rfl

/-! ## The blocks, spelled out (R91, R108, R136, R151) -/

/-- The request is no part of what the latch reads or writes at the two blocks that hold one. -/
theorem State.blocksAtLatch_of_requests {s w : State} {q a : Option Request}
    (hphase : w.crew = s.crew) (hplacement : w.placement = s.placement) (hgrout : w.grout = s.grout)
    (hseq : w.seq = { s.seq with request := q }) (haft : w.aft = { s.aft with request := a }) :
    w.blocksAtLatch =
      { w with
        placement :=
          if s.crew.phase = .placing ∧ (s.placement.sub = some .payout ∨ s.placement.sub = some .limitOff) then
            { s.placement with sub := some .waitGo, offTime := .off, slackTime := 0 }
          else s.placement
        grout := if s.crew.phase = .grouting then { s.grout with sagTime := 0 } else s.grout
        seq :=
          if s.crew.phase = .stressing then
            if s.seq.sub = some .ramp ∨ s.seq.sub = some .holdLoad then
              { w.seq with
                tripMark := true, sub := some .halted, holdTimer := .off
                jack := { w.seq.jack with ramp := .off, raise := false, lower := false } }
            else { w.seq with tripMark := true }
          else w.seq
        aft :=
          if s.crew.phase = .locked ∧ s.aft.sub = some .topUp
              ∧ (s.aft.stage = some .lift ∨ s.aft.stage = some .ramp) then
            { w.aft with
              stage := some .halted
              jack := { w.aft.jack with ramp := .off, raise := false, lower := false } }
          else w.aft } := by
  unfold State.blocksAtLatch Placement.atLatch Seq.atLatch Aft.atLatch
  rw [hphase, hplacement, hgrout, hseq, haft]
  simp only [ite_and]
  rfl

/-- Settles O37: the record and the line interface by `State.noteLatch`, the lease by `State.askHeld`, the blocks by
`State.blocksAtLatch_of_requests`. -/
theorem aLatchSets : Obligations.ALatchSets := by
  refine ⟨?_, fun l v s => ⟨fun h => State.latch_of_clear h v, fun h => State.latch_of_set h v⟩⟩
  intro l v ch s mutes u w
  refine ⟨?_, fun hask habort => ?_, State.setLatch_lease_of_not l v ch, fun hmutes => ?_⟩
  · have hu : u = s.noteLatch l v ch := by
      have htrip : u.trip = s.trip.set l s.crew.phase v ch := by
        refine (Trip.set_eq_of_fields (Trip.set_latches ..) ?_ (Trip.set_firstCause ..)).symm
        cases ch with
        | none => rfl
        | some c => exact Trip.set_named_some ..
      by_cases hmutes : l.mutes
      · have hlif : u.lif = s.lif.dropSlots := by
          refine (if_pos hmutes).trans ?_
          unfold Lif.dropSlots
          cases s.lif.tx <;> rfl
        rw [State.noteLatch_of_mutes hmutes, ← htrip, ← hlif]
      · have hlif : u.lif = _ := if_neg hmutes
        rw [State.noteLatch_of_not_mutes hmutes, ← htrip, ← hlif]
    have hw : w = (s.noteLatch l v ch).askHeld := by rw [← hu]; rfl
    obtain ⟨ask, batch, lease, q, a, hheld⟩ := u.askHeld_form
    rw [← hu] at hw
    rw [hheld] at hw
    rw [State.setLatch_eq_blocks, ← hu, hheld, ← hw]
    refine State.blocksAtLatch_of_requests (q := q) (a := a) ?_ ?_ ?_ ?_ ?_ <;> rw [hw]
  · obtain ⟨hlease, hrequest⟩ := State.setLatch_lease_of_asking l v ch hask habort
    exact ⟨hlease, hrequest, fun honly hmutes => State.setLatch_lif_of_asking hmutes v ch hask habort honly⟩
  · obtain ⟨honly, hlif⟩ := State.setLatch_of_mutes hmutes v ch s
    exact ⟨honly, Lif.dropSlots_anySlot hlif⟩

end Sys2Proof.Machine

/-! The conditions that bring a latch due, and their commands (R92, R159 to R165). -/

namespace Sys2Proof.Machine

/-! ## When a latch is due -/

theorem State.jackOverDue_iff (s : State) :
    s.jackOverDue = true ↔ s.inUse .jp = true ∧ s.latched .jackOver = false ∧ 1 ≤ s.trip.jackTime := by
  simp [State.jackOverDue, and_assoc]

theorem State.groutOverDue_iff (s : State) :
    s.groutOverDue = true ↔
      s.crew.phase = .grouting ∧ s.latched .groutOver = false ∧ 1 ≤ s.trip.groutTime
        ∧ s.par.groutScans ≤ s.trip.groutTime := by
  simp [State.groutOverDue, and_assoc]

theorem State.extRunawayDue_iff (s : State) :
    s.extRunawayDue = true ↔
      s.seqIn .holdLoad = true ∧ s.latched .extRunaway = false ∧ 1 ≤ s.trip.extTime
        ∧ s.par.extScans ≤ s.trip.extTime := by
  simp [State.extRunawayDue, and_assoc]

theorem State.breakInDue_iff (s : State) :
    s.breakInDue = true ↔ s.crew.phase = .placing ∧ 10 ≤ s.placement.breakTime ∧ s.latched .breakIn = false := by
  simp [State.breakInDue, and_assoc]

theorem State.sensorDue_iff (c : Channel) (s : State) :
    s.sensorDue c = true ↔ s.inUse c = true ∧ s.named c = false ∧ 10 ≤ s.railTime c := by
  simp [State.sensorDue, and_assoc]

theorem windowRise_of_window {w rest : List Int} {last first : Int} (hw : w = last :: rest)
    (hfirst : w[60]? = some first) : windowRise w = some (last - first) := by
  rw [hw] at hfirst ⊢
  exact congrArg (Option.map fun x => last - x) hfirst

/-! ## A channel named (R159, R160) -/

/-- The rail time of a channel that is named is no longer measured. -/
def State.railCleared (c : Channel) (s : State) : State :=
  { s with scan := { s.scan with railTimes := s.scan.railTimes.set (channelCode c) 0 } }

theorem State.nameChannel_of_clear {c : Channel} {s : State} (h : s.named c = false) :
    s.nameChannel c =
      State.setLatch .sensorFault (BitVec.ofNat 16 (channelCode c)) (some c) (s.railCleared c) :=
  if_neg (by rw [h]; exact Bool.false_ne_true)

theorem State.not_mem_named {c : Channel} {s : State} (h : s.named c = false) : c ∉ s.trip.named :=
  fun hm => Bool.false_ne_true (h.symm.trans (List.contains_iff_mem.2 hm))

theorem State.mem_latches_iff (l : Latch) (s : State) : l ∈ s.trip.latches ↔ s.latched l = true :=
  List.contains_iff_mem.symm

theorem Latch.sensorFault_not_mutes : ¬Latch.sensorFault.mutes := by simp [Latch.mutes]

/-- Settles O38: each command acts where its condition is due, and the condition is the one of `…Due_iff`. -/
theorem scanBringsTripsDue : Obligations.ScanBringsTripsDue := by
  refine ⟨fun s huse hclear htime => ?_, fun s hphase hclear htime hscans => ?_,
    fun s last first rest hphase hsub hclear htime hscans hwindow hfirst => ?_, fun s hphase hclear htime => ?_,
    fun c s huse hclear htime => ?_, fun s => ⟨fun h => ?_, fun h => ?_, fun h => ?_, fun h => ?_, fun c h => ?_⟩⟩
  · exact exec_of_eventOf (if_pos (s.jackOverDue_iff.2 ⟨huse, hclear, htime⟩))
  · exact exec_of_eventOf (if_pos (s.groutOverDue_iff.2 ⟨hphase, hclear, htime, hscans⟩))
  · refine exec_of_eventOf ((if_pos (s.extRunawayDue_iff.2
      ⟨(s.seqIn_iff _).2 ⟨hphase, hsub⟩, hclear, htime, hscans⟩)).trans ?_)
    rw [windowRise_of_window hwindow hfirst]
    rfl
  · exact exec_of_eventOf (if_pos (s.breakInDue_iff.2 ⟨hphase, htime, hclear⟩))
  · have hev : eventOf (.sensorFault c) s = _ :=
      (if_pos (State.sensorDue_iff c s |>.2 ⟨huse, hclear, htime⟩)).trans (State.nameChannel_of_clear hclear)
    obtain ⟨lif, lease, placement, grout, seq, aft, hform⟩ := State.setLatch_form .sensorFault
      (BitVec.ofNat 16 (channelCode c)) (some c) (s.railCleared c)
    have halert := State.setLatch_alert Latch.sensorFault_not_mutes (BitVec.ofNat 16 (channelCode c)) (some c)
      (s := s.railCleared c)
    rw [hform] at halert
    obtain ⟨tx, rails, jack, gtime, ext, window, drives, hfin⟩ := State.finish_form (eventOf (.sensorFault c) s)
    rw [hev] at hfin
    refine ⟨_, exec_of_eventOf hev, rfl, ?_⟩
    rw [hfin, hform]
    refine ⟨rfl, ?_, ?_, ?_, halert, rfl, rfl, rfl⟩
    · exact (Trip.set_named_some .sensorFault s.crew.phase 0 c s.trip).trans (if_neg (State.not_mem_named hclear))
    · exact (Trip.set_latches .sensorFault s.crew.phase 0 (some c) s.trip).trans (if_congr (State.mem_latches_iff _ s) rfl rfl)
    · exact Trip.set_firstCause ..
  · refine exec_of_eventOf (if_neg fun hd => ?_)
    obtain ⟨huse, hclear, htime⟩ := s.jackOverDue_iff.1 hd
    rcases h with h | h | h
    · exact Bool.false_ne_true (h.symm.trans huse)
    · exact Bool.false_ne_true (hclear.symm.trans h)
    · omega
  · refine exec_of_eventOf (if_neg fun hd => ?_)
    obtain ⟨hphase, hclear, _, hscans⟩ := s.groutOverDue_iff.1 hd
    rcases h with h | h | h
    · exact h hphase
    · exact Bool.false_ne_true (hclear.symm.trans h)
    · omega
  · refine exec_of_eventOf (if_neg fun hd => ?_)
    obtain ⟨hsub, hclear, _, hscans⟩ := s.extRunawayDue_iff.1 hd
    rcases h with h | h | h
    · exact Bool.false_ne_true (h.symm.trans hsub)
    · exact Bool.false_ne_true (hclear.symm.trans h)
    · omega
  · refine exec_of_eventOf (if_neg fun hd => ?_)
    obtain ⟨hphase, htime, hclear⟩ := s.breakInDue_iff.1 hd
    rcases h with h | h | h
    · exact h hphase
    · exact Bool.false_ne_true (hclear.symm.trans h)
    · omega
  · refine exec_of_eventOf (if_neg fun hd => ?_)
    obtain ⟨huse, hclear, htime⟩ := (State.sensorDue_iff c s).1 hd
    rcases h with h | h | h
    · exact Bool.false_ne_true (h.symm.trans huse)
    · exact Bool.false_ne_true (hclear.symm.trans h)
    · omega

end Sys2Proof.Machine

/-! Receptions: what the line interface does with a burst before its kind matters (R3 to R7, R15; log entry 10). -/

namespace Sys2Proof.Machine

/-! ## A frame received -/

theorem State.receive_of_sending {s : State} (h : s.sending = true) (dst src : Byte) (act : State → State) :
    s.receive dst src act = s := if_pos h

/-- A frame of the own number: only the duplicate-number test acts on it (R4). -/
theorem State.receive_of_own {dst src : Byte} {s : State} (h : s.sending = false) (hown : s.own = some src.toNat)
    (act : State → State) :
    s.receive dst src act = s.restartQuiet.latch .duplicateId (halfOf src.toNat) :=
  (if_neg (by rw [h]; exact Bool.false_ne_true)).trans (if_pos hown)

/-- A frame that the filter does not accept (R5). -/
theorem State.receive_of_filtered {dst src : Byte} {s : State} (h : s.sending = false)
    (hother : s.own ≠ some src.toNat) (hfilter : s.accepts dst = false) (act : State → State) :
    s.receive dst src act = s.restartQuiet :=
  (if_neg (by rw [h]; exact Bool.false_ne_true)).trans ((if_neg hother).trans
    (if_neg fun hc => Bool.false_ne_true (hfilter.symm.trans hc)))

/-- A frame that no block is handed. -/
theorem State.hearOnly_of_other (dst : Byte) {src : Byte} {s : State} (h : s.sending = false)
    (hother : s.own ≠ some src.toNat) : s.hearOnly dst src = s.restartQuiet :=
  (if_neg (by rw [h]; exact Bool.false_ne_true)).trans ((if_neg hother).trans (ite_self _))

theorem State.accepts_eq_false {dst : Byte} {s : State} (hown : s.own ≠ some dst.toNat) (hall : dst.toNat ≠ 63)
    (hgroup : ∀ g, dst.toNat = 64 + g → g < 16 → s.lif.groupMask.getLsbD g = false) : s.accepts dst = false := by
  have hmask (h : 64 ≤ dst.toNat ∧ dst.toNat ≤ 79) : s.lif.groupMask.getLsbD (dst.toNat - 64) = false :=
    hgroup _ (by omega) (by omega)
  unfold State.accepts
  by_cases h : 64 ≤ dst.toNat ∧ dst.toNat ≤ 79
  · simp [hown, hall, hmask h]
  · have hout : (decide (64 ≤ dst.toNat) && decide (dst.toNat ≤ 79)) = false := by simpa using h
    simp [hown, hall, hout]

/-- Every valid frame is received; its kind decides what an accepted one does. -/
theorem eventOf_of_header {c : Instr} {dst src : Byte} (h : c.header = some (dst, src)) :
    ∃ act, ∀ s, eventOf c s = s.receive dst src act := by
  cases c with
  | reportDiscard | frameNotAccepted => cases h; exact ⟨fun t => t, fun _ => rfl⟩
  | _ => cases h <;> exact ⟨_, fun _ => rfl⟩

/-! ## Bursts that are counted (R3, R6) -/

theorem State.badReception_of_fault {burst : List Byte} {s : State} (hfault : rxFault burst ≠ none)
    (h : s.sending = false) : s.badReception burst = s.restartQuiet.countRxError := by
  obtain ⟨f, hf⟩ := Option.ne_none_iff_exists'.1 hfault
  unfold State.badReception
  rw [hf]
  exact if_neg (by rw [h]; exact Bool.false_ne_true)

theorem State.badReception_of_size {burst : List Byte} {s : State} (hfault : rxFault burst = none)
    (hsize : sizeAllowed (burstKind burst) (burstPayload burst) = false)
    (hhears : s.hears (burstDst burst) (burstSrc burst)) :
    s.badReception burst = s.restartQuiet.countRxError := by
  unfold State.badReception
  rw [hfault]
  refine (State.receive_of_hears hhears _).trans (if_neg ?_)
  rw [hsize]
  exact Bool.false_ne_true

theorem State.badReception_of_sending {burst : List Byte} {s : State} (h : s.sending = true) :
    s.badReception burst = s := by
  unfold State.badReception
  split
  · exact if_pos h
  · exact State.receive_of_sending h ..

/-! ## The duplicate number (R4, R15) -/

theorem Latch.duplicateId_mutes : Latch.duplicateId.mutes := .inr rfl

theorem Lif.dropSlots_tx_of_not_sending {s : State} (h : s.sending = false) : s.lif.dropSlots.tx = .free := by
  unfold State.sending at h
  unfold Lif.dropSlots
  cases htx : s.lif.tx with
  | sending f n => rw [htx] at h; cases h
  | free | waitingQuiet | backingOff k => rfl

/-- The transmitter stays free while listen-only. -/
theorem State.finish_lif_of_listenOnly {s : State} (h : s.listenOnly = true) : s.finish.lif = s.lif := by
  have hstart : s.clearTimes.startTx = s.clearTimes := if_neg (by simp [show s.clearTimes.listenOnly = true from h])
  rw [State.finish_lif, hstart]
  rfl

/-- Settles O17: the frames that no block is handed by the lemmas on `State.receive`, the own number by the lemmas on a
latch that brings listen-only. -/
theorem framesThatReachNoBlock : Obligations.FramesThatReachNoBlock := by
  refine ⟨⟨fun burst s h hfault => ?_, fun burst s hfault hsize hhears => ?_, fun burst s h => ?_⟩,
    ⟨fun c dst src s hc h hother hown hall hgroup => ?_, fun dst src s h hother => ?_⟩,
    fun c dst src s hc h hown hclear => ?_, fun c dst src s hc h hown hset => ?_, fun c dst src s hc h => ?_⟩
  · exact exec_of_eventOf (State.badReception_of_fault hfault h)
  · exact exec_of_eventOf (State.badReception_of_size hfault hsize hhears)
  · exact exec_of_eventOf (State.badReception_of_sending h)
  · obtain ⟨act, hact⟩ := eventOf_of_header hc
    exact exec_of_eventOf ((hact s).trans
      (State.receive_of_filtered h hother (State.accepts_eq_false hown hall hgroup) act))
  · exact ⟨exec_of_eventOf (State.hearOnly_of_other dst h hother), exec_of_eventOf (State.hearOnly_of_other dst h hother)⟩
  · obtain ⟨act, hact⟩ := eventOf_of_header hc
    have hev : eventOf c s = s.restartQuiet.setLatch .duplicateId (src.zeroExtend 16) none :=
      ((hact s).trans (State.receive_of_own h hown act)).trans
        ((State.latch_of_clear (s := s.restartQuiet) hclear _).trans
          (congrArg (fun v => s.restartQuiet.setLatch .duplicateId v none) (BitVec.ofNat_toNat 16 src)))
    have hlatch : eventOf c s = s.restartQuiet.latch .duplicateId (src.zeroExtend 16) :=
      hev.trans (State.latch_of_clear (s := s.restartQuiet) hclear _).symm
    obtain ⟨honly, hlif⟩ := State.setLatch_of_mutes Latch.duplicateId_mutes (src.zeroExtend 16) none s.restartQuiet
    have hfinlif := State.finish_lif_of_listenOnly honly
    obtain ⟨lif, lease, placement, grout, seq, aft, hform⟩ :=
      State.setLatch_form .duplicateId (src.zeroExtend 16) none s.restartQuiet
    obtain ⟨tx, rails, jack, gtime, ext, window, drives, hfin⟩ :=
      State.finish_form (s.restartQuiet.setLatch .duplicateId (src.zeroExtend 16) none)
    have hdrop : (s.restartQuiet.setLatch .duplicateId (src.zeroExtend 16) none).finish.lif = s.restartQuiet.lif.dropSlots :=
      hfinlif.trans hlif
    refine ⟨_, exec_of_eventOf hev, ?_, congrArg State.finish (hev.symm.trans hlatch), ?_, ?_, ?_,
      Lif.dropSlots_anySlot hdrop, ?_, ?_⟩
    · rw [hfin, hform]
      rfl
    · rw [hfin, hform]
      exact Trip.set_latches_of_not_mem hclear s.crew.phase (src.zeroExtend 16) none
    · intro hnone
      rw [hfin, hform]
      exact (Trip.set_firstCause .duplicateId s.crew.phase (src.zeroExtend 16) none s.trip).trans (if_pos hnone)
    · rw [hfin]
      exact honly
    · rw [hdrop]
      exact Lif.dropSlots_tx_of_not_sending (s := s.restartQuiet) h
    · rw [hfin, hform]
      exact ⟨rfl, rfl, rfl, rfl⟩
  · obtain ⟨act, hact⟩ := eventOf_of_header hc
    exact exec_of_eventOf (((hact s).trans (State.receive_of_own h hown act)).trans
      (State.latch_of_set (s := s.restartQuiet) hset _))
  · obtain ⟨act, hact⟩ := eventOf_of_header hc
    exact exec_of_eventOf ((hact s).trans (State.receive_of_sending h dst src act))

end Sys2Proof.Machine

/-! Changes of presence: what the lease does with one, and the beacons, LEAVE, RETIRE and beacon ages that make it (R18 to
R28, R39, R45, R56, R57). -/

namespace Sys2Proof.Machine

/-! ## A change of presence at the lease (R28, R39, R45, R56, R57) -/

theorem State.presenceChanged_of_same {n : Nat} {p q : Presence} {s : State} (h : p = q) :
    s.presenceChanged n p q = s := if_pos h

theorem State.presenceChanged_of_waits {n : Nat} {p q : Presence} {s : State} (h : p ≠ q)
    (hwaits : s.waitsWith (some .neighbourNotPresent) = true) :
    s.presenceChanged n p q = (s.leaseHearsPresence n q).present := (if_neg h).trans (if_pos hwaits)

theorem State.presenceChanged_of_not_waits {n : Nat} {p q : Presence} {s : State} (h : p ≠ q)
    (hwaits : s.waitsWith (some .neighbourNotPresent) = false) :
    s.presenceChanged n p q = s.leaseHearsPresence n q :=
  (if_neg h).trans (if_neg fun hc => Bool.false_ne_true (hwaits.symm.trans hc))

/-- This number is one that the current ask requires. -/
def State.requires (n : Nat) (s : State) : Prop := ∃ m ∈ s.lease.required, m.number = n

theorem State.any_required_iff (n : Nat) (s : State) :
    (s.lease.required.any fun m => m.number == n) = true ↔ s.requires n := by simp [State.requires]

/-- A change that takes no required member from an ask that is out. -/
theorem State.leaseHearsPresence_of_quiet {n : Nat} {p : Presence} {s : State} (hp : p ≠ .retired)
    (h : ¬(s.lease.state = .asking ∧ (p = .lost ∨ p = .mismatch) ∧ s.requires n)) :
    s.leaseHearsPresence n p = s := by
  unfold State.leaseHearsPresence
  rw [if_neg hp]
  by_cases hc : s.lease.state = .asking ∧ (s.lease.required.any fun m => m.number == n) = true
  · rw [if_pos hc, if_neg fun hl => h ⟨hc.1, hl, (s.any_required_iff n).1 hc.2⟩, if_neg hp]
  · exact if_neg hc

/-- The deferred entry of a number removed (R45). -/
def State.forgets (n : Nat) (s : State) : State :=
  { s with lease := { s.lease with deferred := s.lease.deferred.filter fun d => d.number != n } }

theorem State.leaseHearsPresence_retired {n : Nat} {s : State} (h : ¬(s.lease.state = .asking ∧ s.requires n)) :
    s.leaseHearsPresence n .retired = s.forgets n := by
  unfold State.leaseHearsPresence
  rw [if_pos rfl]
  exact if_neg fun hc => h ⟨hc.1, (s.any_required_iff n).1 hc.2⟩

/-- The required set without a number (R57). -/
def State.dispenses (n : Nat) (s : State) : State :=
  { s with lease := { s.lease with required := s.lease.required.filter fun m => m.number != n } }

theorem State.leaseHearsPresence_retired_required {n : Nat} {s : State} (hask : s.lease.state = .asking)
    (hreq : s.requires n) : s.leaseHearsPresence n .retired = ((s.forgets n).dispenses n).checkComplete := by
  unfold State.leaseHearsPresence
  rw [if_pos rfl]
  refine (if_pos ⟨hask, (s.any_required_iff n).2 hreq⟩).trans ?_
  rw [if_neg (by decide), if_pos rfl]
  rfl

theorem State.checkComplete_of_open {s : State} (h : ∃ m ∈ s.lease.required, m.mark ≠ .granted) :
    s.checkComplete = s := by
  obtain ⟨m, hm, hmark⟩ := h
  refine if_neg fun hc => hmark ?_
  exact beq_iff_eq.1 (List.all_eq_true.1 hc.2 m hm)

theorem State.checkComplete_of_granted {s : State} (hask : s.lease.state = .asking)
    (h : ∀ m ∈ s.lease.required, m.mark = .granted) : s.checkComplete = s.enterHolding :=
  if_pos ⟨hask, List.all_eq_true.2 fun m hm => beq_iff_eq.2 (h m hm)⟩

/-! ## Entries changed in place -/

/-- Changes that keep the numbers keep which entry a number names. -/
theorem State.entry_of_map {n : Nat} {f : Entry → Entry} {s t : State}
    (ht : t.roster.entries = s.roster.entries.map f) (hf : ∀ e, (f e).number = e.number) :
    t.entry n = (s.entry n).map f := by
  unfold State.entry
  rw [ht, List.find?_map]
  congr 2
  funext e
  exact congrArg (· == n) (hf e)

/-! ## A beacon heard (R18 to R22, R35) -/

theorem beaconCodes_of_valid {b : BeaconIn} {p : Phase} {l : LeaseState} (hp : phaseOfCode b.phase.toNat = some p)
    (hl : leaseOfCode b.lease.toNat = some l) (hsub : b.sub.toNat ≤ lastSubCode p) (hcls : b.cls.toNat ≤ 2) :
    beaconCodes b = some (p, l) := by
  unfold beaconCodes
  rw [hp, hl]
  exact if_pos ⟨hsub, hcls⟩

theorem beaconCodes_of_invalid {b : BeaconIn}
    (h : phaseOfCode b.phase.toNat = none ∨ leaseOfCode b.lease.toNat = none ∨ 2 < b.cls.toNat
      ∨ ∃ p, phaseOfCode b.phase.toNat = some p ∧ lastSubCode p < b.sub.toNat) : beaconCodes b = none := by
  unfold beaconCodes
  split
  next p l hp hl =>
    refine if_neg fun hc => ?_
    rcases h with h | h | h | ⟨q, hq, h⟩
    · rw [hp] at h; cases h
    · rw [hl] at h; cases h
    · omega
    · rw [hp] at hq; cases hq; omega
  · rfl

/-- Recorded and classified, an entry is as the statement says. -/
theorem Entry.classify_record (fault : Option MismatchReason) (b : BeaconIn) (p : Phase) (l : LeaseState) (e : Entry) :
    (e.record b p l).classify fault = e.afterBeacon fault b p l := by
  obtain ⟨number, presence, count, age, lost, mismatch, hp, hh, heard⟩ := e
  cases fault with
  | some r => cases presence <;> rfl
  | none =>
    cases presence with
    | listening =>
      by_cases hc : 2 ≤ count
      · simp [Entry.classify, Entry.hearGood, Entry.record, Entry.afterBeacon, hc]
      · simp [Entry.classify, Entry.hearGood, Entry.record, Entry.afterBeacon, hc]
    | present | mismatch | lost | retired => rfl

/-- A beacon with valid codes from a roster member: recorded, and its change of presence reported. -/
theorem State.hearBeacon_eq {src : Byte} {b : BeaconIn} {p : Phase} {l : LeaseState} {e : Entry} {s : State}
    (hbound : s.bound = true) (hentry : s.entry src.toNat = some e) (hcodes : beaconCodes b = some (p, l)) :
    s.restartQuiet.hearBeacon src b =
      (s.afterBeacon src (s.beaconFault b) b p l).presenceChanged src.toNat e.presence
        (e.afterBeacon (s.beaconFault b) b p l).presence := by
  have hmember : s.restartQuiet.member src.toNat = true := by
    show (s.entry src.toNat).isSome = true
    rw [hentry]
    rfl
  unfold State.hearBeacon
  rw [hcodes]
  dsimp only
  rw [if_pos (by rw [hmember]; exact (Bool.and_true _).trans hbound)]
  have hnum : e.number = src.toNat := (State.mem_of_entry hentry).2
  refine (State.changeEntry_of_entry _ (e := e.record b p l) ?_).trans ?_
  · refine (State.entry_of_map (s := s) (f := fun x => if x.number = src.toNat then x.record b p l else x) rfl ?_).trans ?_
    · intro x
      split <;> rfl
    · rw [hentry]
      exact congrArg some (if_pos hnum)
  · rw [Entry.classify_record]
    refine congrArg (fun es => State.presenceChanged src.toNat e.presence _
      { s.restartQuiet with
        lease := { s.lease with clock := if s.lease.clock < b.clock then b.clock else s.lease.clock }
        roster := { s.roster with entries := es } }) ?_
    refine List.map_map.trans (List.map_congr_left fun x _ => ?_)
    by_cases hx : x.number = src.toNat
    · simp only [Function.comp, if_pos hx]
      exact (if_pos hx).trans (Entry.classify_record ..)
    · simp only [Function.comp, if_neg hx]

theorem Entry.afterBeacon_presence_ne (fault : Option MismatchReason) (b : BeaconIn) (p : Phase) (l : LeaseState)
    (e : Entry) (h : (e.afterBeacon fault b p l).presence ≠ e.presence) :
    (e.afterBeacon fault b p l).presence ≠ .retired ∧ (e.afterBeacon fault b p l).presence ≠ .lost := by
  obtain ⟨number, presence, count, age, lost, mismatch, hp, hh, heard⟩ := e
  cases fault with
  | some r =>
    cases presence with
    | retired => exact absurd rfl h
    | listening | present | mismatch | lost => exact ⟨Presence.noConfusion, Presence.noConfusion⟩
  | none =>
    cases presence with
    | listening =>
      dsimp only [Entry.afterBeacon]
      split <;> exact ⟨Presence.noConfusion, Presence.noConfusion⟩
    | present | mismatch | lost | retired => exact ⟨Presence.noConfusion, Presence.noConfusion⟩

theorem eventOf_beacon {dst src : Byte} {b : BeaconIn} {p : Phase} {l : LeaseState} {e : Entry} {s : State}
    (hhears : s.hears dst src) (hbound : s.bound = true) (hentry : s.entry src.toNat = some e)
    (hcodes : beaconCodes b = some (p, l)) :
    eventOf (.beacon dst src b) s =
      (s.afterBeacon src (s.beaconFault b) b p l).presenceChanged src.toNat e.presence
        (e.afterBeacon (s.beaconFault b) b p l).presence :=
  (State.receive_of_hears hhears _).trans (State.hearBeacon_eq hbound hentry hcodes)

/-- A recorded beacon whose change of presence, where there is one, asks nothing of the lease. -/
theorem State.presenceChanged_of_quiet_beacon {n : Nat} {fault : Option MismatchReason} {b : BeaconIn} {p : Phase}
    {l : LeaseState} {e : Entry} {s : State}
    (h : (e.afterBeacon fault b p l).presence = e.presence
      ∨ (s.waitsWith (some .neighbourNotPresent) = false
        ∧ ¬(s.lease.state = .asking ∧ (e.afterBeacon fault b p l).presence = .mismatch ∧ s.requires n))) :
    s.presenceChanged n e.presence (e.afterBeacon fault b p l).presence = s := by
  by_cases hsame : (e.afterBeacon fault b p l).presence = e.presence
  · exact State.presenceChanged_of_same hsame.symm
  · obtain ⟨hwaits, hquiet⟩ := h.resolve_left hsame
    obtain ⟨hretired, hlost⟩ := Entry.afterBeacon_presence_ne fault b p l e hsame
    rw [State.presenceChanged_of_not_waits (Ne.symm hsame) hwaits]
    exact State.leaseHearsPresence_of_quiet hretired fun hc => hquiet ⟨hc.1, hc.2.1.resolve_left hlost, hc.2.2⟩

/-- A beacon that is not handed on to the lease: only the entry, the clock and the quiet measure change. -/
theorem exec_beacon_of_quiet {dst src : Byte} {b : BeaconIn} {p : Phase} {l : LeaseState} {s : State}
    (hhears : s.hears dst src) (hbound : s.bound = true) (hmember : s.member src.toNat = true)
    (hask : s.lease.state ≠ .asking) (hwaits : s.waitsWith (some .neighbourNotPresent) = false)
    (hcodes : beaconCodes b = some (p, l)) :
    exec (.beacon dst src b) s = .next (s.afterBeacon src (s.beaconFault b) b p l).finish := by
  obtain ⟨e, hentry⟩ := Option.isSome_iff_exists.1 hmember
  refine exec_of_eventOf ((eventOf_beacon hhears hbound hentry hcodes).trans ?_)
  exact State.presenceChanged_of_quiet_beacon (s := s.afterBeacon src (s.beaconFault b) b p l)
    (.inr ⟨hwaits, fun hc => hask hc.1⟩)

/-- The roster's part of a recorded beacon, entry by entry. -/
theorem State.afterBeacon_congr {src : Byte} {fault : Option MismatchReason} {b : BeaconIn} {p : Phase}
    {l : LeaseState} {s : State} {f : Entry → Entry} (h : ∀ e, e.afterBeacon fault b p l = f e) :
    s.afterBeacon src fault b p l =
      { s with
        lif := { s.lif with quiet := ⟨true, 0, 384⟩ }
        lease := { s.lease with clock := if s.lease.clock < b.clock then b.clock else s.lease.clock }
        roster :=
          { s.roster with
            entries := s.roster.entries.map fun e => if e.number = src.toNat then f e else e } } := by
  unfold State.afterBeacon
  simp only [h]

theorem State.beaconFault_of_good {b : BeaconIn} {s : State} (hwall : b.wall = s.par.wall)
    (hlisted : ∃ x ∈ b.roster, s.own = some x.toNat) : s.beaconFault b = none := by
  unfold State.beaconFault
  rw [if_neg (not_not.2 hwall), if_pos (by simpa using hlisted)]

/-- Settles O18: the codes are valid, the beacon is good, and no presence change reaches the lease. -/
theorem goodBeaconFromAMember : Obligations.GoodBeaconFromAMember := by
  intro dst src b p l s hhears hbound hmember hask hwaits hp hl hsub hcls hwall hlisted
  rw [exec_beacon_of_quiet hhears hbound hmember hask hwaits (beaconCodes_of_valid hp hl hsub hcls),
    State.beaconFault_of_good hwall hlisted]
  refine congrArg (fun t => Host.Outcome.next (State.finish t)) (State.afterBeacon_congr fun e => ?_)
  obtain ⟨number, presence, count, age, lost, mismatch, hp, hh, heard⟩ := e
  cases presence <;> rfl

theorem State.beaconFault_of_bad {b : BeaconIn} {s : State}
    (h : b.wall ≠ s.par.wall ∨ ∀ x ∈ b.roster, s.own ≠ some x.toNat) :
    s.beaconFault b = some (if b.wall ≠ s.par.wall then .wallDiffers else .notListed) := by
  unfold State.beaconFault
  by_cases hwall : b.wall ≠ s.par.wall
  · rw [if_pos hwall, if_pos hwall]
  · have hlisted := h.resolve_left hwall
    rw [if_neg hwall, if_neg hwall, if_neg (by simpa using hlisted)]

/-- Settles O19: a beacon that is not good by the reason of `State.beaconFault_of_bad`; one that is not recorded changes
the quiet measure alone. -/
theorem otherBeacons : Obligations.OtherBeacons := by
  refine ⟨fun dst src b p l s hhears hbound hmember hask hwaits hp hl hsub hcls hbad => ?_,
    fun dst src b s hhears h => exec_of_eventOf ((State.receive_of_hears hhears _).trans ?_)⟩
  · rw [exec_beacon_of_quiet hhears hbound hmember hask hwaits (beaconCodes_of_valid hp hl hsub hcls),
      State.beaconFault_of_bad hbad]
    refine congrArg (fun t => Host.Outcome.next (State.finish t)) (State.afterBeacon_congr fun e => ?_)
    obtain ⟨number, presence, count, age, lost, mismatch, hp, hh, heard⟩ := e
    by_cases hwall : b.wall ≠ s.par.wall <;> cases presence <;> simp [Entry.afterBeacon, hwall]
  · show s.restartQuiet.hearBeacon src b = s.restartQuiet
    unfold State.hearBeacon
    rcases h with h | h | h
    · split
      · rfl
      · exact if_neg (by rw [show s.restartQuiet.bound = false from h]; exact Bool.false_ne_true)
    · split
      · rfl
      · exact if_neg (by rw [show s.restartQuiet.member src.toNat = false from h, Bool.and_false]; exact Bool.false_ne_true)
    · rw [beaconCodes_of_invalid h]

end Sys2Proof.Machine

/-! The presence changes that reach the lease (R23 to R25, R39, R45, R51, R56, R57). -/

namespace Sys2Proof.Machine

/-! ## LEAVE, RETIRE and beacon ages at the roster -/

/-- An entry made RETIRED, in the roster alone. -/
theorem Roster.retired_entries {n : Nat} {f : Entry → Entry} {es : List Entry}
    (h : ∀ x ∈ es, x.number = n →
      f x = if x.presence ≠ .retired then { x with presence := .retired, count := 0, mismatch := none } else x) :
    (es.map fun x => if x.number = n then f x else x) =
      es.map fun x =>
        if x.number = n ∧ x.presence ≠ .retired then
          { x with presence := .retired, count := 0, mismatch := none }
        else x := by
  refine List.map_congr_left fun x hx => ?_
  by_cases hn : x.number = n
  · rw [if_pos hn, h x hx hn]
    simp only [hn, true_and]
  · rw [if_neg hn, if_neg fun hc => hn hc.1]

/-- The roster's part of an entry made RETIRED, and the deferred entry removed, are `entryRetired`. -/
theorem State.forgets_of_retired {n : Nat} {f : Entry → Entry} {s : State}
    (h : ∀ x ∈ s.roster.entries, x.number = n →
      f x = if x.presence ≠ .retired then { x with presence := .retired, count := 0, mismatch := none } else x) :
    (s.onRoster (Roster.mapNumber n f)).forgets n = s.entryRetired n :=
  congrArg (fun es => State.forgets n { s with roster := { s.roster with entries := es } })
    (Roster.retired_entries h)

theorem Entry.retire_presence (e : Entry) : e.retire.presence = .retired := by
  unfold Entry.retire
  split
  next h => exact h
  · rfl

/-- A LEAVE of an entry that is not RETIRED. -/
theorem State.leave_eq_presenceChanged {n : Nat} {e : Entry} {s : State} (hentry : s.entry n = some e) :
    s.changeEntry n Entry.retire =
      (s.onRoster (Roster.mapNumber n Entry.retire)).presenceChanged n e.presence .retired := by
  rw [State.changeEntry_of_entry _ hentry, Entry.retire_presence]

/-- A RETIRE of a LOST entry, where the number names it alone. -/
theorem State.retire_eq_presenceChanged {n : Nat} {e : Entry} {s : State} (hentry : s.entry n = some e)
    (hlost : e.presence = .lost) :
    s.changeEntry n Entry.retireLost =
      (s.onRoster (Roster.mapNumber n Entry.retireLost)).presenceChanged n e.presence .retired := by
  rw [State.changeEntry_of_entry _ hentry, Entry.retireLost_of_lost hlost]

theorem State.forgets_retireLost {n : Nat} {e : Entry} {s : State} (hlost : e.presence = .lost)
    (hunique : ∀ x ∈ s.roster.entries, x.number = n → x = e) :
    (s.onRoster (Roster.mapNumber n Entry.retireLost)).forgets n = s.entryRetired n := by
  refine State.forgets_of_retired fun x hx hn => ?_
  have hx : x.presence = .lost := by rw [hunique x hx hn]; exact hlost
  rw [Entry.retireLost_of_lost hx, if_pos (by rw [hx]; decide)]

/-- The beacon age of an entry that is heard reaches 8 s: LOST. -/
theorem Entry.lose_of_heard {e : Entry}
    (h : e.presence = .listening ∨ e.presence = .present ∨ e.presence = .mismatch) :
    e.lose = { e with presence := .lost, count := 0, mismatch := none, lostLatch := true } := if_pos h

theorem Entry.tick_of_heard {e : Entry} (d : Nat)
    (h : e.presence = .listening ∨ e.presence = .present ∨ e.presence = .mismatch) :
    e.tick d = { e with age := e.age + d } := if_neg (by rcases h with h | h | h <;> rw [h] <;> decide)

theorem State.entry_elapse (d n : Nat) (s : State) : (s.elapse d).entry n = (s.entry n).map (Entry.tick d) :=
  State.entry_of_map rfl (Entry.tick_number d)

theorem State.ageExpiry_of_heard {n : Nat} {e : Entry} {s : State} (hentry : s.entry n = some e)
    (h : e.presence = .listening ∨ e.presence = .present ∨ e.presence = .mismatch) :
    s.ageExpiry n = (s.elapse (8000000 - e.age)).changeEntry n Entry.lose := by
  unfold State.ageExpiry
  rw [hentry]
  exact if_pos h

/-- The entries of a number all LOST. -/
def State.entryLost (n : Nat) (s : State) : State :=
  { s with
    roster :=
      { s.roster with
        entries := s.roster.entries.map fun x =>
          if x.number = n then { x with presence := .lost, count := 0, mismatch := none, lostLatch := true } else x } }

theorem State.lose_entries {n : Nat} {e : Entry} {s : State} (d : Nat)
    (h : e.presence = .listening ∨ e.presence = .present ∨ e.presence = .mismatch)
    (hunique : ∀ x ∈ s.roster.entries, x.number = n → x = e) :
    (s.elapse d).onRoster (Roster.mapNumber n Entry.lose) = (s.elapse d).entryLost n := by
  refine congrArg (fun es => { s.elapse d with roster := { (s.elapse d).roster with entries := es } })
    (List.map_congr_left fun x hx => ?_)
  obtain ⟨y, hy, rfl⟩ := List.mem_map.1 hx
  by_cases hn : (y.tick d).number = n
  · rw [if_pos hn, if_pos hn]
    have hy : y = e := hunique y hy ((Entry.tick_number d y).symm.trans hn)
    refine Entry.lose_of_heard ?_
    rw [hy, Entry.tick_of_heard d h]
    exact h
  · rw [if_neg hn, if_neg hn]

/-- The age's expiry reports the entry LOST (R23). -/
theorem State.ageExpiry_eq_presenceChanged {n : Nat} {e : Entry} {s : State} (hentry : s.entry n = some e)
    (h : e.presence = .listening ∨ e.presence = .present ∨ e.presence = .mismatch) :
    s.ageExpiry n =
      ((s.elapse (8000000 - e.age)).onRoster (Roster.mapNumber n Entry.lose)).presenceChanged n e.presence .lost := by
  have hticked : e.tick (8000000 - e.age) = { e with age := e.age + (8000000 - e.age) } := Entry.tick_of_heard _ h
  have hnow : (s.elapse (8000000 - e.age)).entry n = some { e with age := e.age + (8000000 - e.age) } := by
    rw [State.entry_elapse, hentry, ← hticked]
    rfl
  rw [State.ageExpiry_of_heard hentry h, State.changeEntry_of_entry _ hnow,
    Entry.lose_of_heard (e := { e with age := e.age + (8000000 - e.age) }) h]

theorem Presence.ne_lost_of_heard {p : Presence} (h : p = .listening ∨ p = .present ∨ p = .mismatch) : p ≠ .lost := by
  rcases h with h | h | h <;> rw [h] <;> exact Presence.noConfusion

/-- It presents again a request that waits with NEIGHBOUR_NOT_PRESENT (R39). -/
theorem State.ageExpiry_of_waits {n : Nat} {e : Entry} {s : State} (hentry : s.entry n = some e)
    (h : e.presence = .listening ∨ e.presence = .present ∨ e.presence = .mismatch)
    (hidle : s.lease.state = .idle) (hwaits : s.waitsWith (some .neighbourNotPresent) = true) :
    s.ageExpiry n = ((s.elapse (8000000 - e.age)).onRoster (Roster.mapNumber n Entry.lose)).present := by
  rw [State.ageExpiry_eq_presenceChanged hentry h]
  refine (State.presenceChanged_of_waits (Presence.ne_lost_of_heard h) ?_).trans
    (congrArg State.present (State.leaseHearsPresence_of_quiet Presence.noConfusion ?_))
  · exact hwaits
  · exact fun hc => LeaseState.not_asking_of_idle hidle hc.1

/-! ## Beacons that change a presence -/

/-- In ASKING a required member that becomes MISMATCH takes the ask with it (R51, R56). -/
theorem eventOf_beacon_of_mismatch {dst src : Byte} {b : BeaconIn} {p : Phase} {l : LeaseState} {e : Entry} {s : State}
    (hhears : s.hears dst src) (hbound : s.bound = true) (hentry : s.entry src.toNat = some e)
    (hcodes : beaconCodes b = some (p, l))
    (hchange : (e.afterBeacon (s.beaconFault b) b p l).presence ≠ e.presence)
    (hwaits : s.waitsWith (some .neighbourNotPresent) = false) (hask : s.lease.state = .asking)
    (hnow : (e.afterBeacon (s.beaconFault b) b p l).presence = .mismatch) (hreq : s.requires src.toNat) :
    eventOf (.beacon dst src b) s =
      State.setStatus (.waiting (some .neighbourNotPresent)) (s.afterBeacon src (s.beaconFault b) b p l).withdrawn := by
  rw [eventOf_beacon hhears hbound hentry hcodes]
  refine (State.presenceChanged_of_not_waits (s := s.afterBeacon src _ b p l) (Ne.symm hchange) hwaits).trans ?_
  exact State.leaseHearsPresence_lost _ _ _ (.inr hnow) hask hreq

/-- A request that waits with NEIGHBOUR_NOT_PRESENT is presented again (R39). -/
theorem eventOf_beacon_of_waits {dst src : Byte} {b : BeaconIn} {p : Phase} {l : LeaseState} {e : Entry} {s : State}
    (hhears : s.hears dst src) (hbound : s.bound = true) (hentry : s.entry src.toNat = some e)
    (hcodes : beaconCodes b = some (p, l))
    (hchange : (e.afterBeacon (s.beaconFault b) b p l).presence ≠ e.presence)
    (hwaits : s.waitsWith (some .neighbourNotPresent) = true) (hidle : s.lease.state = .idle) :
    eventOf (.beacon dst src b) s = (s.afterBeacon src (s.beaconFault b) b p l).present := by
  rw [eventOf_beacon hhears hbound hentry hcodes]
  refine (State.presenceChanged_of_waits (s := s.afterBeacon src _ b p l) (Ne.symm hchange) hwaits).trans
    (congrArg State.present ?_)
  refine State.leaseHearsPresence_of_quiet (Entry.afterBeacon_presence_ne _ b p l e hchange).1 fun hc => ?_
  exact LeaseState.not_asking_of_idle hidle hc.1

/-- Settles O20: a change is reported by `State.presenceChanged`, and the lease hears it by the lemmas on
`State.leaseHearsPresence`. -/
theorem presenceChangesReachTheLease : Obligations.PresenceChangesReachTheLease := by
  refine ⟨?_, fun dst src e s hhears hidle hwaits hentry hpresence => ?_, ?_,
    fun n e s hentry hheard hunique hidle hwaits => ?_⟩
  · intro dst src b p l e r s hhears hbound hentry hp hl hsub hcls fault u now
    have hcodes := beaconCodes_of_valid hp hl hsub hcls
    refine ⟨fun hquiet => ?_, fun hchange hwaits hask hnow hreq => ?_, fun hchange hr hx hidle => ?_⟩
    · exact exec_of_eventOf ((eventOf_beacon hhears hbound hentry hcodes).trans
        (State.presenceChanged_of_quiet_beacon (s := u) hquiet))
    · exact exec_of_eventOf (eventOf_beacon_of_mismatch hhears hbound hentry hcodes hchange hwaits hask hnow hreq)
    · exact exec_of_eventOf (eventOf_beacon_of_waits hhears hbound hentry hcodes hchange
        (State.waitsWith_of_request hr hx) hidle)
  · refine exec_of_eventOf ((State.receive_of_hears hhears _).trans ?_)
    refine (State.leave_eq_presenceChanged (s := s.restartQuiet) hentry).trans
      ((State.presenceChanged_of_waits hpresence ?_).trans (congrArg State.present ?_))
    · exact hwaits
    · refine (State.leaseHearsPresence_retired ?_).trans
        (State.forgets_of_retired (s := s.restartQuiet) fun x _ _ => x.retire_eq)
      exact fun hc => LeaseState.not_asking_of_idle hidle hc.1
  · intro dst src n e s hhears hentry hlost hunique u
    have hne : e.presence ≠ .retired := by rw [hlost]; decide
    have hev : eventOf (.retire dst src n) s = _ := (State.receive_of_hears hhears _).trans
      (State.retire_eq_presenceChanged (s := s.restartQuiet) hentry hlost)
    have hforgets := State.forgets_retireLost (s := s.restartQuiet) hlost hunique
    refine ⟨fun hidle hwaits => ?_, fun hwaits hquiet => ?_, fun hask hwaits hreq => ?_⟩
    · refine exec_of_eventOf (hev.trans ((State.presenceChanged_of_waits hne ?_).trans (congrArg State.present ?_)))
      · exact hwaits
      · refine (State.leaseHearsPresence_retired ?_).trans hforgets
        exact fun hc => LeaseState.not_asking_of_idle hidle hc.1
    · refine exec_of_eventOf (hev.trans ((State.presenceChanged_of_not_waits hne ?_).trans ?_))
      · exact hwaits
      · refine (State.leaseHearsPresence_retired ?_).trans hforgets
        exact hquiet
    · intro left w
      have hleft : eventOf (.retire dst src n) s = w.checkComplete := by
        refine hev.trans ((State.presenceChanged_of_not_waits hne ?_).trans ?_)
        · exact hwaits
        · refine (State.leaseHearsPresence_retired_required ?_ ?_).trans ?_
          · exact hask
          · exact hreq
          · rw [hforgets]
            rfl
      exact ⟨fun hopen => exec_of_eventOf (hleft.trans (State.checkComplete_of_open hopen)),
        fun hall => exec_of_eventOf (hleft.trans (State.checkComplete_of_granted hask hall))⟩
  · refine exec_of_eventOf ((State.ageExpiry_of_waits hentry hheard hidle hwaits).trans ?_)
    rw [State.lose_entries _ hheard hunique]
    rfl

end Sys2Proof.Machine

/-! A required member lost or gone: the ask withdrawn, or the required set without it (R23, R24, R45, R51, R56, R57). -/

namespace Sys2Proof.Machine

/-! ## A beacon age at its end -/

/-- Where no request waits with NEIGHBOUR_NOT_PRESENT the lease alone hears of the loss. -/
theorem State.ageExpiry_of_not_waits {n : Nat} {e : Entry} {s : State} (hentry : s.entry n = some e)
    (h : e.presence = .listening ∨ e.presence = .present ∨ e.presence = .mismatch)
    (hwaits : s.waitsWith (some .neighbourNotPresent) = false) :
    s.ageExpiry n =
      ((s.elapse (8000000 - e.age)).onRoster (Roster.mapNumber n Entry.lose)).leaseHearsPresence n .lost := by
  rw [State.ageExpiry_eq_presenceChanged hentry h]
  refine State.presenceChanged_of_not_waits (Presence.ne_lost_of_heard h) ?_
  exact hwaits

theorem State.ageExpiry_of_required {n : Nat} {e : Entry} {s : State} (hentry : s.entry n = some e)
    (h : e.presence = .listening ∨ e.presence = .present ∨ e.presence = .mismatch)
    (hwaits : s.waitsWith (some .neighbourNotPresent) = false) (hask : s.lease.state = .asking)
    (hreq : s.requires n) :
    s.ageExpiry n =
      State.setStatus (.waiting (some .neighbourNotPresent))
        ((s.elapse (8000000 - e.age)).onRoster (Roster.mapNumber n Entry.lose)).withdrawn := by
  rw [State.ageExpiry_of_not_waits hentry h hwaits]
  refine State.leaseHearsPresence_lost n _ _ (.inl rfl) ?_ ?_
  · exact hask
  · exact hreq

theorem State.ageExpiry_of_quiet {n : Nat} {e : Entry} {s : State} (hentry : s.entry n = some e)
    (h : e.presence = .listening ∨ e.presence = .present ∨ e.presence = .mismatch)
    (hwaits : s.waitsWith (some .neighbourNotPresent) = false) (hquiet : ¬(s.lease.state = .asking ∧ s.requires n)) :
    s.ageExpiry n = (s.elapse (8000000 - e.age)).onRoster (Roster.mapNumber n Entry.lose) := by
  rw [State.ageExpiry_of_not_waits hentry h hwaits]
  refine State.leaseHearsPresence_of_quiet Presence.noConfusion ?_
  exact fun hc => hquiet ⟨hc.1, hc.2.2⟩

/-- In LOST and RETIRED, and for a number that is no entry, an age's expiry is without effect. -/
theorem State.ageExpiry_of_not_heard {n : Nat} {s : State}
    (h : ∀ e, s.entry n = some e → e.presence = .lost ∨ e.presence = .retired) : s.ageExpiry n = s := by
  unfold State.ageExpiry
  split
  · rfl
  next e he => exact if_neg (by rcases h e he with h | h <;> simp [h])

theorem State.not_requires {n : Nat} {s : State}
    (h : s.lease.state ≠ .asking ∨ ∀ m ∈ s.lease.required, m.number ≠ n) :
    ¬(s.lease.state = .asking ∧ s.requires n) := by
  rintro ⟨hask, m, hm, hn⟩
  exact h.elim (· hask) fun h => h m hm hn

/-! ## A LEAVE -/

theorem eventOf_leave {dst src : Byte} {e : Entry} {s : State} (hhears : s.hears dst src)
    (hwaits : s.waitsWith (some .neighbourNotPresent) = false) (hentry : s.entry src.toNat = some e)
    (hpresence : e.presence ≠ .retired) :
    eventOf (.leave dst src) s =
      (s.restartQuiet.onRoster (Roster.mapNumber src.toNat Entry.retire)).leaseHearsPresence src.toNat .retired := by
  refine (State.receive_of_hears hhears _).trans ((State.leave_eq_presenceChanged (s := s.restartQuiet) hentry).trans ?_)
  refine State.presenceChanged_of_not_waits hpresence ?_
  exact hwaits

theorem State.forgets_retire (n : Nat) (s : State) :
    (s.onRoster (Roster.mapNumber n Entry.retire)).forgets n = s.entryRetired n :=
  State.forgets_of_retired fun x _ _ => x.retire_eq

/-- Settles O25: the age's expiry and the LEAVE by what the lease does with the change each reports. -/
theorem presenceLossWithdrawsTheAsk : Obligations.PresenceLossWithdrawsTheAsk := by
  refine ⟨⟨?_, fun n e r s hask hr hwaits hentry hheard hunique hreq => ?_⟩, ?_,
    fun n s h => exec_of_eventOf (State.ageExpiry_of_not_heard h)⟩
  · intro n e s hentry hheard hunique hwaits u
    have hu : (s.elapse (8000000 - e.age)).onRoster (Roster.mapNumber n.toNat Entry.lose) = u :=
      State.lose_entries _ hheard hunique
    refine ⟨fun hask hreq => exec_of_eventOf ?_, fun h => exec_of_eventOf ?_⟩
    · exact (State.ageExpiry_of_required hentry hheard hwaits hask hreq).trans (by rw [hu])
    · exact (State.ageExpiry_of_quiet hentry hheard hwaits (State.not_requires h)).trans hu
  · have hev : eventOf (.beaconAgeExpiry n) s = _ := State.ageExpiry_of_required hentry hheard hwaits hask hreq
    rw [State.lose_entries _ hheard hunique] at hev
    have hrequest := State.request_setStatus (.waiting (some .neighbourNotPresent))
      (s := ((s.elapse (8000000 - e.age)).entryLost n.toNat).withdrawn)
    obtain ⟨q, a, hform⟩ := State.setStatus_form (.waiting (some .neighbourNotPresent))
      ((s.elapse (8000000 - e.age)).entryLost n.toNat).withdrawn
    rw [hform] at hev hrequest
    obtain ⟨tx, rails, jack, gtime, ext, window, drives, hfin⟩ := State.finish_form (eventOf (.beaconAgeExpiry n) s)
    rw [hev] at hfin
    refine ⟨_, (exec_of_eventOf hev).trans (congrArg _ hfin), rfl, rfl, rfl, rfl, rfl, rfl, rfl, ?_, rfl, rfl⟩
    exact hrequest.trans (congrArg (Option.map fun r => { r with status := .waiting (some .neighbourNotPresent) }) hr)
  · intro dst src e s hhears hwaits hentry hpresence u left w
    have hev := eventOf_leave hhears hwaits hentry hpresence
    have hforgets := State.forgets_retire src.toNat s.restartQuiet
    have hleft (hask : s.lease.state = .asking) (hreq : s.requires src.toNat) :
        eventOf (.leave dst src) s = w.checkComplete := by
      refine hev.trans ((State.leaseHearsPresence_retired_required ?_ ?_).trans ?_)
      · exact hask
      · exact hreq
      · rw [hforgets]
        rfl
    refine ⟨fun hask hreq hopen => exec_of_eventOf ((hleft hask hreq).trans (State.checkComplete_of_open hopen)),
      fun hask hreq hall => exec_of_eventOf ((hleft hask hreq).trans (State.checkComplete_of_granted hask hall)),
      fun h => exec_of_eventOf (hev.trans ((State.leaseHearsPresence_retired ?_).trans hforgets))⟩
    exact State.not_requires h

end Sys2Proof.Machine

/-! The lease on the line: an ASK answered, a WITHDRAW, a REPLY counted (R35, R36, R40 to R47). -/

namespace Sys2Proof.Machine

/-! ## Lists with one entry per neighbour (R12, R42, R43) -/

theorem putReply_of_mem {e : ReplyEntry} {es : List ReplyEntry} (h : ∃ x ∈ es, x.target = e.target) :
    putReply e es = es.map fun x => if x.target = e.target then e else x := if_pos (by simpa using h)

theorem putReply_of_not_mem {e : ReplyEntry} {es : List ReplyEntry} (h : ∀ x ∈ es, x.target ≠ e.target) :
    putReply e es = es ++ [e] := if_neg (by simpa using h)

theorem putDeferred_of_mem {d : Deferred} {ds : List Deferred} (h : ∃ x ∈ ds, x.number = d.number) :
    putDeferred d ds = ds.map fun x => if x.number = d.number then d else x := if_pos (by simpa using h)

theorem putDeferred_of_not_mem {d : Deferred} {ds : List Deferred} (h : ∀ x ∈ ds, x.number ≠ d.number) :
    putDeferred d ds = ds ++ [d] := if_neg (by simpa using h)

theorem markUnanswered_of_mem {n : Nat} {ms : List Member} (h : ∃ m ∈ ms, m.number = n) :
    markUnanswered n ms = ms.map fun m => if m.number = n then { m with mark := .unanswered } else m :=
  if_pos (by simpa using h)

theorem markUnanswered_of_not_mem {n : Nat} {ms : List Member} (h : ∀ m ∈ ms, m.number ≠ n) :
    markUnanswered n ms = ms ++ [⟨n, .unanswered⟩] := if_neg (by simpa using h)

/-! ## The answer to an ASK (R41) -/

theorem State.freshGrout_iff (s : State) :
    s.freshGrout = true ↔ s.crew.phase = .grouting ∨ s.crew.phase = .setting := by simp [State.freshGrout]

/-- The answer table, row by row. -/
theorem State.answerTo_eq (n : Nat) (c : AskClass) (stamp : Stamp) (s : State) :
    s.answerTo n c stamp =
      if s.crew.phase = .grouting ∨ s.crew.phase = .setting then some .freshGrout
      else if s.crew.phase = .locked ∧ s.aft.sub = some .pending ∧ c = .advance then some .restorePending
      else if s.lease.state = .holding then some .holding
      else if s.lease.state = .asking ∧ s.ownOutranks n c stamp = true then some .ahead
      else none := by
  have hpending : (s.pendingTopUp && c == .advance) = true ↔
      s.crew.phase = .locked ∧ s.aft.sub = some .pending ∧ c = .advance := by
    rw [Bool.and_eq_true, s.pendingTopUp_iff, beq_iff_eq, and_assoc]
  have hahead : (decide (s.lease.state = .asking) && s.ownOutranks n c stamp) = true ↔
      s.lease.state = .asking ∧ s.ownOutranks n c stamp = true := by
    rw [Bool.and_eq_true, decide_eq_true_iff]
  unfold State.answerTo
  simp only [s.freshGrout_iff, hpending, hahead]

theorem State.answerTo_of_idle {n : Nat} {c : AskClass} {stamp : Stamp} {s : State}
    (hfresh : ¬(s.crew.phase = .grouting ∨ s.crew.phase = .setting))
    (hpending : ¬(s.crew.phase = .locked ∧ s.aft.sub = some .pending ∧ c = .advance))
    (hidle : s.lease.state = .idle) : s.answerTo n c stamp = none := by
  rw [State.answerTo_eq, if_neg hfresh, if_neg hpending, if_neg (by simp [hidle]), if_neg (by simp [hidle])]

theorem State.answerTo_of_outranked {n : Nat} {c : AskClass} {stamp : Stamp} {a : CurrentAsk} {s : State}
    (hfresh : ¬(s.crew.phase = .grouting ∨ s.crew.phase = .setting))
    (hpending : ¬(s.crew.phase = .locked ∧ s.aft.sub = some .pending ∧ c = .advance))
    (hask : s.lease.state = .asking) (ha : s.lease.ask = some a)
    (hrank : outranks a.cls a.stamp s.ownNumber c stamp n = false) : s.answerTo n c stamp = none := by
  have hbehind : s.ownOutranks n c stamp = false := by
    unfold State.ownOutranks
    rw [ha]
    exact hrank
  rw [State.answerTo_eq, if_neg hfresh, if_neg hpending, if_neg (by simp [hask]), if_neg (by simp [hbehind])]

/-- A taken ask gets the answer of the table. -/
theorem State.hearAsk_of_class {src cls : Byte} {stamp : Stamp} {c : AskClass} {s : State}
    (hbound : s.bound = true) (hmember : s.member src.toNat = true) (hphase : s.crew.phase ≠ .detached)
    (hcls : classOfCode cls.toNat = some c) :
    s.hearAsk src cls stamp =
      ((s.raiseClock stamp).answerTo src.toNat c stamp).elim ((s.raiseClock stamp).grantAsk src.toNat stamp)
        fun r => (s.raiseClock stamp).deferAsk src.toNat c stamp r := by
  unfold State.hearAsk
  rw [hcls]
  refine (if_pos ?_).trans ?_
  · rw [show (s.raiseClock stamp).bound = true from hbound,
      show (s.raiseClock stamp).member src.toNat = true from hmember,
      show (s.raiseClock stamp).crew.phase = s.crew.phase from rfl]
    simpa using hphase
  · cases (s.raiseClock stamp).answerTo src.toNat c stamp <;> rfl

/-- Any other ASK raises the clock alone. -/
theorem State.hearAsk_of_not_answered {src cls : Byte} {stamp : Stamp} {s : State}
    (h : s.bound = false ∨ s.member src.toNat = false ∨ s.crew.phase = .detached ∨ classOfCode cls.toNat = none) :
    s.hearAsk src cls stamp = s.raiseClock stamp := by
  unfold State.hearAsk
  dsimp only
  split
  · rfl
  next c hcls =>
    refine if_neg ?_
    rw [show (s.raiseClock stamp).bound = s.bound from rfl,
      show (s.raiseClock stamp).member src.toNat = s.member src.toNat from rfl,
      show (s.raiseClock stamp).crew.phase = s.crew.phase from rfl]
    rcases h with h | h | h | h
    · simp [h]
    · simp [h]
    · simp [h]
    · rw [hcls] at h; cases h

theorem State.deferAsk_eq (n : Nat) (c : AskClass) (stamp : Stamp) (r : ReplyReason) (s : State) :
    s.deferAsk n c stamp r =
      { s with
        lif :=
          { s.lif with
            batch :=
              if s.listenOnly then s.lif.batch
              else { s.lif.batch with frame := putReply ⟨n, stamp, .defer, r⟩ s.lif.batch.frame } }
        lease := { s.lease with deferred := putDeferred ⟨n, c, stamp⟩ s.lease.deferred } } := by
  unfold State.deferAsk
  rw [State.addReply_eq]
  rfl

/-- A GRANT outside ASKING. -/
theorem State.grantAsk_of_not_asking {n : Nat} {stamp : Stamp} {s : State} (h : s.lease.state ≠ .asking) :
    s.grantAsk n stamp =
      { s with
        lif :=
          { s.lif with
            batch :=
              if s.listenOnly then s.lif.batch
              else { s.lif.batch with frame := putReply ⟨n, stamp, .grant, .none⟩ s.lif.batch.frame } }
        lease := { s.lease with deferred := s.lease.deferred.filter fun d => d.number != n } } := by
  unfold State.grantAsk
  rw [State.addReply_eq]
  exact if_neg h

/-- A GRANT in ASKING: the sender must answer again, and the ASK goes out again (R43). -/
theorem State.grantAsk_of_asking {n : Nat} {stamp : Stamp} {a : CurrentAsk} {s : State}
    (h : s.lease.state = .asking) (ha : s.lease.ask = some a) :
    s.grantAsk n stamp =
      { s with
        lif :=
          { s.lif with
            batch :=
              if s.listenOnly then s.lif.batch
              else { s.lif.batch with frame := putReply ⟨n, stamp, .grant, .none⟩ s.lif.batch.frame }
            ask := if s.listenOnly then s.lif.ask else some ⟨.ask a.cls a.stamp a.count, 0⟩ }
        lease :=
          { s.lease with
            deferred := s.lease.deferred.filter fun d => d.number != n
            required := markUnanswered n s.lease.required, askTimer := ⟨true, 0, 5000000⟩ } } := by
  unfold State.grantAsk
  rw [State.addReply_eq]
  refine (if_pos h).trans ((State.sendAsk_of_ask (a := a) ?_).trans rfl)
  exact ha

/-- A WITHDRAW (R45). -/
theorem State.hearWithdraw_eq (src : Byte) (stamp : Stamp) (s : State) :
    s.hearWithdraw src stamp =
      { s with
        lease :=
          { s.lease with
            clock := if s.lease.clock < stamp then stamp else s.lease.clock
            deferred :=
              if s.member src.toNat then
                s.lease.deferred.filter fun d => !(d.number == src.toNat && d.stamp == stamp)
              else s.lease.deferred } } := by
  have hmember : (s.raiseClock stamp).member src.toNat = s.member src.toNat := rfl
  unfold State.hearWithdraw
  dsimp only
  rw [hmember]
  split <;> rfl

/-- Settles O21: an answered ASK by the row of `State.answerTo_eq`, then the lemma of DEFER or GRANT. -/
theorem asksAndWithdrawsOfNeighbours : Obligations.AsksAndWithdrawsOfNeighbours := by
  refine ⟨⟨?_, fun dst src cls count stamp s hhears h => exec_of_eventOf ((State.receive_of_hears hhears _).trans ?_)⟩,
    fun dst src stamp s hhears => exec_of_eventOf ((State.receive_of_hears hhears _).trans ?_),
    fun e es => ⟨putReply_of_mem, putReply_of_not_mem⟩, fun d ds => ⟨putDeferred_of_mem, putDeferred_of_not_mem⟩,
    fun n ms => ⟨markUnanswered_of_mem, markUnanswered_of_not_mem⟩⟩
  · intro dst src cls count stamp c s hhears hbound hmember hphase hcls lease batch
    have hev : eventOf (.ask dst src cls stamp count) s = _ := (State.receive_of_hears hhears _).trans
      (State.hearAsk_of_class (s := s.restartQuiet) hbound hmember hphase hcls)
    refine ⟨fun reason hreason => exec_of_eventOf (hev.trans ?_), fun hfresh hpending hidle => exec_of_eventOf (hev.trans ?_),
      fun a hfresh hpending hask ha hrank => exec_of_eventOf (hev.trans ?_)⟩
    · refine (congrArg (fun x => Option.elim x _ _) ((State.answerTo_eq ..).trans hreason)).trans ?_
      exact State.deferAsk_eq ..
    · rw [State.answerTo_of_idle (s := s.restartQuiet.raiseClock stamp) hfresh hpending hidle]
      exact State.grantAsk_of_not_asking (s := s.restartQuiet.raiseClock stamp) (LeaseState.not_asking_of_idle hidle)
    · rw [State.answerTo_of_outranked (s := s.restartQuiet.raiseClock stamp) hfresh hpending hask ha hrank]
      exact State.grantAsk_of_asking (s := s.restartQuiet.raiseClock stamp) hask ha
  · exact State.hearAsk_of_not_answered (s := s.restartQuiet) h
  · exact State.hearWithdraw_eq src stamp s.restartQuiet

end Sys2Proof.Machine

/-! A REPLY at the lease (R35, R46, R47). -/

namespace Sys2Proof.Machine

/-! ## One entry of a REPLY (R46) -/

theorem State.replyCounts_iff (n : Nat) (e : ReplyIn) (s : State) :
    s.replyCounts n e = true ↔
      s.own = some e.target.toNat ∧ s.lease.state = .asking ∧ e.stamp = s.askStamp ∧ s.requires n := by
  simp [State.replyCounts, State.requires, and_assoc]

theorem replyVerdictOfCode_eq_none {c : Nat} (h : c ≠ 1 ∧ c ≠ 2) : replyVerdictOfCode c = none := by
  unfold replyVerdictOfCode
  split
  · exact absurd rfl h.1
  · exact absurd rfl h.2
  · rfl

/-- An entry that does not count, or of another verdict, is read over. -/
theorem State.hearReplyEntry_of_not {n : Nat} {e : ReplyIn} {s : State}
    (h : s.lease.state ≠ .asking ∨ s.own ≠ some e.target.toNat ∨ e.stamp ≠ s.askStamp
      ∨ (∀ m ∈ s.lease.required, m.number ≠ n) ∨ (e.verdict.toNat ≠ 1 ∧ e.verdict.toNat ≠ 2)) :
    s.hearReplyEntry n e = s := by
  unfold State.hearReplyEntry
  split
  next hc =>
    obtain ⟨hown, hask, hstamp, m, hm, hn⟩ := (s.replyCounts_iff n e).1 hc
    rcases h with h | h | h | h | h
    · exact absurd hask h
    · exact absurd hown h
    · exact absurd hstamp h
    · exact absurd hn (h m hm)
    · rw [replyVerdictOfCode_eq_none h]
  · rfl

/-- A GRANT that counts. -/
theorem State.hearReplyEntry_grants {n : Nat} {e : ReplyIn} {s : State} (hask : s.lease.state = .asking)
    (hown : s.own = some e.target.toNat) (hstamp : e.stamp = s.askStamp) (hreq : s.requires n) (hv : e.verdict = 1) :
    s.hearReplyEntry n e = (s.mark n .granted).checkComplete := by
  unfold State.hearReplyEntry
  rw [if_pos ((s.replyCounts_iff n e).2 ⟨hown, hask, hstamp, hreq⟩), hv]
  rfl

theorem mem_marked_of_other {n : Nat} {k : Mark} {m : Member} {ms : List Member} (hm : m ∈ ms) (hn : m.number ≠ n) :
    m ∈ marked n k ms := List.mem_map.2 ⟨m, hm, if_neg hn⟩

/-- Once the other members have granted, the mark of the last completes the set. -/
theorem marked_all_granted {n : Nat} {ms : List Member} (h : ∀ m ∈ ms, m.number ≠ n → m.mark = .granted) :
    ∀ m ∈ marked n .granted ms, m.mark = .granted := by
  intro m hm
  obtain ⟨x, hx, rfl⟩ := List.mem_map.1 hm
  by_cases hn : x.number = n
  · rw [if_pos hn]
  · rw [if_neg hn]
    exact h x hx hn

theorem State.hearReplyEntry_of_defer {n : Nat} {e : ReplyIn} {s : State} (hask : s.lease.state = .asking)
    (hown : s.own = some e.target.toNat) (hstamp : e.stamp = s.askStamp) (hreq : s.requires n) (hv : e.verdict = 2) :
    s.hearReplyEntry n e = { s with lease := { s.lease with required := marked n .deferred s.lease.required } } := by
  unfold State.hearReplyEntry
  rw [if_pos ((s.replyCounts_iff n e).2 ⟨hown, hask, hstamp, hreq⟩), hv]
  rfl

theorem State.hearReplyEntry_of_grant {n : Nat} {e : ReplyIn} {s : State} (hask : s.lease.state = .asking)
    (hown : s.own = some e.target.toNat) (hstamp : e.stamp = s.askStamp) (hreq : s.requires n) (hv : e.verdict = 1)
    (hopen : ∃ m ∈ s.lease.required, m.number ≠ n ∧ m.mark ≠ .granted) :
    s.hearReplyEntry n e = { s with lease := { s.lease with required := marked n .granted s.lease.required } } := by
  obtain ⟨m, hm, hn, hmark⟩ := hopen
  rw [State.hearReplyEntry_grants hask hown hstamp hreq hv]
  exact State.checkComplete_of_open ⟨m, mem_marked_of_other hm hn, hmark⟩

/-- The last GRANT: the lease is HOLDING, and the requester is told (R47). -/
theorem State.hearReplyEntry_of_last {n : Nat} {e : ReplyIn} {s : State} (hask : s.lease.state = .asking)
    (hown : s.own = some e.target.toNat) (hstamp : e.stamp = s.askStamp) (hreq : s.requires n) (hv : e.verdict = 1)
    (hall : ∀ m ∈ s.lease.required, m.number ≠ n → m.mark = .granted) :
    s.hearReplyEntry n e =
      State.toldHolding
        { s with
          lease :=
            { s.lease with
              required := marked n .granted s.lease.required, state := .holding
              askTimer := .off, hold := ⟨true, 0, 5400000000⟩ } } := by
  rw [State.hearReplyEntry_grants hask hown hstamp hreq hv]
  refine State.checkComplete_of_granted ?_ ?_
  · exact hask
  · exact marked_all_granted hall

/-! ## A REPLY (R35, R46) -/

theorem State.raiseClocks_eq (es : List ReplyIn) (s : State) :
    es.foldl (fun t e => t.raiseClock e.stamp) s =
      { s with
        lease :=
          { s.lease with clock := es.foldl (fun c e => if c < e.stamp then e.stamp else c) s.lease.clock } } := by
  induction es generalizing s with
  | nil => rfl
  | cons e es ih => exact ih (s.raiseClock e.stamp)

theorem State.hearReply_eq (src : Byte) (es : List ReplyIn) (s : State) :
    s.hearReply src es =
      es.foldl (State.hearReplyEntry src.toNat)
        { s with
          lease :=
            { s.lease with clock := es.foldl (fun c e => if c < e.stamp then e.stamp else c) s.lease.clock } } :=
  congrArg (es.foldl (State.hearReplyEntry src.toNat)) (s.raiseClocks_eq es)

theorem eventOf_reply_one {dst src : Byte} {e : ReplyIn} {s : State} (hhears : s.hears dst src) :
    eventOf (.reply dst src [e]) s = (s.restartQuiet.raiseClock e.stamp).hearReplyEntry src.toNat e :=
  State.receive_of_hears hhears _

/-- The requester that is told may change its sub-state, its jack and its timers. -/
theorem State.toldHolding_form (s : State) :
    ∃ sub jack holdTimer sub' stage before recovery jack',
      s.toldHolding =
        { s with
          seq := { s.seq with sub := sub, jack := jack, holdTimer := holdTimer }
          aft :=
            { s.aft with sub := sub', stage := stage, before := before, recovery := recovery, jack := jack' } } := by
  refine ⟨s.toldHolding.seq.sub, s.toldHolding.seq.jack, s.toldHolding.seq.holdTimer, s.toldHolding.aft.sub,
    s.toldHolding.aft.stage, s.toldHolding.aft.before, s.toldHolding.aft.recovery, s.toldHolding.aft.jack, ?_⟩
  unfold State.toldHolding
  split
  · rfl
  · split
    · rfl
    · split <;> rfl

/-- The lease HOLDING after a REPLY, the requester not yet told. -/
def State.completed (src : Byte) (e : ReplyIn) (s : State) : State :=
  { s with
    lif := { s.lif with quiet := ⟨true, 0, 384⟩ }
    lease :=
      { s.lease with
        clock := if s.lease.clock < e.stamp then e.stamp else s.lease.clock
        required := marked src.toNat .granted s.lease.required, state := .holding
        askTimer := .off, hold := ⟨true, 0, 5400000000⟩ } }

/-- Settles O23: an entry alone by the lemmas on `State.hearReplyEntry`, a REPLY of several by `State.hearReply_eq`. -/
theorem repliesToTheCurrentAsk : Obligations.RepliesToTheCurrentAsk := by
  refine ⟨?_, fun dst src e s hhears h => exec_of_eventOf ((eventOf_reply_one hhears).trans ?_),
    fun dst src es s hhears => exec_of_eventOf ((State.receive_of_hears hhears _).trans ?_),
    fun n e s => ⟨State.hearReplyEntry_of_not, fun hask hown hstamp hreq =>
      ⟨State.hearReplyEntry_of_defer hask hown hstamp hreq, State.hearReplyEntry_of_grant hask hown hstamp hreq,
        State.hearReplyEntry_of_last hask hown hstamp hreq⟩⟩⟩
  · intro dst src e a s hhears hask ha hown hstamp hreq clock marks
    have hcurrent : e.stamp = (s.restartQuiet.raiseClock e.stamp).askStamp := by
      unfold State.askStamp
      rw [show (s.restartQuiet.raiseClock e.stamp).lease.ask = some a from ha]
      exact hstamp
    have hone := eventOf_reply_one (e := e) hhears
    refine ⟨fun hv => exec_of_eventOf (hone.trans ?_), fun hv hopen => exec_of_eventOf (hone.trans ?_), fun hv hall => ?_⟩
    · exact State.hearReplyEntry_of_defer (s := s.restartQuiet.raiseClock e.stamp) hask hown hcurrent hreq hv
    · exact State.hearReplyEntry_of_grant (s := s.restartQuiet.raiseClock e.stamp) hask hown hcurrent hreq hv hopen
    · have hev : eventOf (.reply dst src [e]) s = (s.completed src e).toldHolding := hone.trans
        (State.hearReplyEntry_of_last (s := s.restartQuiet.raiseClock e.stamp) hask hown hcurrent hreq hv hall)
      have hwait := State.toldHolding_of_waitLease (s := s.completed src e)
      have habort := State.toldHolding_of_abortWait (s := s.completed src e)
      have hpending := State.toldHolding_of_pending (s := s.completed src e)
      obtain ⟨sub, jack, holdTimer, sub', stage, before, recovery, jack', hform⟩ := (s.completed src e).toldHolding_form
      obtain ⟨tx, rails, jtime, gtime, ext, window, drives, hfin⟩ := State.finish_form (eventOf (.reply dst src [e]) s)
      rw [hev, hform] at hfin
      rw [hform] at hev hwait habort hpending
      refine ⟨_, (exec_of_eventOf hev).trans (congrArg _ hfin), rfl, rfl, rfl, rfl, ⟨rfl, rfl⟩, rfl, rfl, rfl, rfl,
        fun hphase hsub => ?_, fun hphase hsub => ?_, fun hphase hsub => ?_⟩
      · have hseq := congrArg State.seq (hwait hphase hsub)
        have hjack := congrArg Seq.jack hseq
        exact ⟨congrArg Seq.sub hseq, congrArg Jack.rampStart hjack, congrArg Jack.rampRef hjack,
          congrArg (fun j => j.ramp.on) hjack, congrArg (fun j => j.ramp.elapsed) hjack⟩
      · have hseq := congrArg State.seq (habort hphase hsub)
        exact ⟨congrArg Seq.sub hseq, congrArg (fun q => q.jack.unload) hseq⟩
      · have haft := congrArg State.aft (hpending hphase hsub)
        exact ⟨congrArg Aft.sub haft, congrArg Aft.stage haft, congrArg Aft.before haft,
          congrArg (fun a => a.jack.rampStart) haft⟩
  · refine State.hearReplyEntry_of_not (s := s.restartQuiet.raiseClock e.stamp) ?_
    exact h
  · exact State.hearReply_eq src es s.restartQuiet

end Sys2Proof.Machine

/-! ALERTs heard, and the queries and BINDs that the responder does not take or refuses (R6, R14, R27, R104, R105, R187,
R189, R197). -/

namespace Sys2Proof.Machine

/-! ## The end of grouting (R65, R105) -/

theorem State.endGrouting_eq (r : GroutResult) (s : State) :
    s.endGrouting r =
      { s with
        grout := s.grout.close r (s.par.setTime * 3600000000)
        store := s.store.offer (.grout ⟨r, s.grout.volume, s.grout.yieldEvents⟩)
        crew := { s.crew with phase := .setting } } := by
  rw [State.endGrouting, State.handOver_eq]
  rfl

/-! ## ALERT (R27, R104, R197) -/

theorem AlertCause.isTrip_eq (c : AlertCause) : c.isTrip = !(c == .breakthrough || c == .lossExcess) := by
  cases c <;> rfl

theorem State.noteAlert_eq (n : Nat) (c : AlertCause) (p : Phase) (s : State) :
    s.noteAlert n c p =
      { s with
        roster :=
          { s.roster with
            entries := s.roster.entries.map fun e =>
              if e.number = n then
                { e with
                  heardPhase := some p, heardHeld := e.heardHeld || !(c == .breakthrough || c == .lossExcess) }
              else e } } := by
  unfold State.noteAlert
  rw [AlertCause.isTrip_eq]
  rfl

theorem State.hearAlert_of_member {src cause phase : Byte} {c : AlertCause} {p : Phase} {s : State}
    (hbound : s.bound = true) (hmember : s.member src.toNat = true) (hc : causeOfCode cause.toNat = some c)
    (hp : phaseOfCode phase.toNat = some p) :
    s.hearAlert src cause phase =
      if c = .breakthrough ∧ (s.noteAlert src.toNat c p).groutBegun then
        (s.noteAlert src.toNat c p).endGrouting .communicated
      else s.noteAlert src.toNat c p := by
  unfold State.hearAlert
  rw [hc, hp]
  exact if_pos (by rw [hbound, hmember]; rfl)

theorem State.hearAlert_of_other {src cause phase : Byte} {s : State}
    (h : s.bound = false ∨ s.member src.toNat = false ∨ causeOfCode cause.toNat = none
      ∨ phaseOfCode phase.toNat = none) : s.hearAlert src cause phase = s := by
  unfold State.hearAlert
  split
  next c p hc hp =>
    rcases h with h | h | h | h
    · exact if_neg (by simp [h])
    · exact if_neg (by simp [h])
    · rw [hc] at h; cases h
    · rw [hp] at h; cases h
  · rfl

/-- Settles O26: the roster's note by `State.noteAlert_eq`, the end of grouting by `State.endGrouting_eq`. -/
theorem alertsFromMembers : Obligations.AlertsFromMembers := by
  refine ⟨?_, fun dst src cause phase value s hhears h => exec_of_eventOf ((State.receive_of_hears hhears _).trans ?_)⟩
  · intro dst src cause phase value c p s hhears hbound hmember hc hp roster
    have hev : eventOf (.alert dst src cause phase value) s = _ := (State.receive_of_hears hhears _).trans
      (State.hearAlert_of_member (s := s.restartQuiet) hbound hmember hc hp)
    rw [State.noteAlert_eq] at hev
    refine ⟨fun hother => exec_of_eventOf (hev.trans (if_neg ?_)), fun hbreak hbegun => exec_of_eventOf (hev.trans ?_)⟩
    · rintro ⟨hbreak, hbegun⟩
      exact hother.elim (· hbreak) fun hnot => Bool.false_ne_true (hnot.symm.trans hbegun)
    · rw [State.handOver_store]
      exact (if_pos ⟨hbreak, hbegun⟩).trans (State.endGrouting_eq ..)
  · exact State.hearAlert_of_other (s := s.restartQuiet) h

/-! ## Queries and BINDs (R6, R14, R187) -/

theorem State.takeQuery_of_takes {dst : Byte} {s : State} (h : s.takes dst) (act : State → State) :
    s.takeQuery dst act = act s := by
  obtain ⟨hown, honline, hplace, honly⟩ := h
  unfold State.takeQuery State.canTake Config.fifoPlaces
  rw [if_neg (not_not.2 hown), if_pos (by simp [honline, hplace, honly])]

theorem State.takeQuery_of_other {dst : Byte} {s : State} (h : s.own ≠ some dst.toNat) (act : State → State) :
    s.takeQuery dst act = s := if_pos h

theorem State.takeQuery_of_full {dst : Byte} {s : State} (hown : s.own = some dst.toNat)
    (h : 4 ≤ s.lif.fifo.length ∨ s.listenOnly = true ∨ s.crew.stage ≠ .online) (act : State → State) :
    s.takeQuery dst act = { s with lif := { s.lif with queryDrops := satInc s.lif.queryDrops } } := by
  refine (if_neg (not_not.2 hown)).trans (if_neg ?_)
  unfold State.canTake Config.fifoPlaces
  rcases h with h | h | h
  · rw [decide_eq_false (by omega)]
    simp
  · simp [h]
  · simp [h]

/-- A query or BIND that is heard and taken. -/
theorem State.receive_of_takes {dst src : Byte} {s : State} (hhears : s.hears dst src) (htakes : s.takes dst)
    (act : State → State) : (s.receive dst src fun t => t.takeQuery dst act) = act s.restartQuiet :=
  (State.receive_of_hears hhears _).trans (State.takeQuery_of_takes (s := s.restartQuiet) htakes act)

/-- The five commands that the responder takes. -/
theorem eventOf_of_query {c : Instr} {dst src : Byte}
    (h : (∃ b, c = .bind dst src b) ∨ c = .statusQuery dst src ∨ (∃ x p, c = .recordQuery dst src x p)
      ∨ (∃ x n, c = .exportedQuery dst src x n) ∨ ∃ w, c = .queryUnknown dst src w) :
    ∃ act, ∀ s, eventOf c s = s.receive dst src fun t => t.takeQuery dst act := by
  rcases h with ⟨b, rfl⟩ | rfl | ⟨x, p, rfl⟩ | ⟨x, n, rfl⟩ | ⟨w, rfl⟩ <;> exact ⟨_, fun _ => rfl⟩

theorem State.decideBind_of_bound {src : Byte} {b : BindIn} {s : State} (h : s.bound = true ∨ s.crew.phase ≠ .setup) :
    s.decideBind src b = s.pushReport src (.bindRefused 0 .bound) :=
  if_pos (by rcases h with h | h <;> simp [h])

theorem State.decideBind_of_unbound {src : Byte} {b : BindIn} {s : State} (hbound : s.bound = false)
    (hphase : s.crew.phase = .setup) :
    s.decideBind src b =
      (validate s.ownNumber b).elim (s.acceptBind src b) fun f => s.pushReport src (.bindRefused f.1 f.2) := by
  unfold State.decideBind
  rw [if_neg (by simp [hbound, hphase])]
  cases validate s.ownNumber b <;> rfl

/-- Settles O27: a refused BIND by the lemmas on `State.decideBind`, the rest by those on `State.takeQuery`. -/
theorem bindRefusedAndQueriesNotTaken : Obligations.BindRefusedAndQueriesNotTaken := by
  refine ⟨⟨fun dst src b s hhears htakes h => exec_of_eventOf ((State.receive_of_takes hhears htakes _).trans ?_),
    fun dst src b i r s hhears htakes hbound hphase hfound =>
      exec_of_eventOf ((State.receive_of_takes hhears htakes _).trans ?_)⟩,
    fun c dst src s hc hhears => ?_⟩
  · exact State.decideBind_of_bound (s := s.restartQuiet) h
  · refine (State.decideBind_of_unbound (s := s.restartQuiet) hbound hphase).trans ?_
    rw [show validate s.restartQuiet.ownNumber b = some (i, r) from hfound]
    rfl
  · obtain ⟨act, hact⟩ := eventOf_of_query hc
    have hev := (hact s).trans (State.receive_of_hears hhears _)
    exact ⟨fun hown hfull => exec_of_eventOf
        (hev.trans (State.takeQuery_of_full (s := s.restartQuiet) hown hfull act)),
      fun hother => exec_of_eventOf (hev.trans (State.takeQuery_of_other (s := s.restartQuiet) hother act))⟩

end Sys2Proof.Machine

/-! A BIND that takes effect (R17, R64, R81, R94, R143, R189, R194). -/

namespace Sys2Proof.Machine

/-! ## The start phase (R64) -/

theorem bindingOf_startPhase {b : BindIn} {c : Byte} {p : Phase} (hc : b.startPhase = c)
    (hp : startPhaseOfCode c.toNat = some p) : (bindingOf b).startPhase = p := by
  subst hc
  exact congrArg (Option.getD · .setup) hp

/-- A start phase comes from its code alone. -/
theorem startPhase_ne_of_code {b : BindIn} {c : Byte} {p : Phase} (hc : b.startPhase ≠ c)
    (hp : ∀ d : Byte, (startPhaseOfCode d.toNat).getD .setup = p → d = c) : (bindingOf b).startPhase ≠ p :=
  fun h => hc (hp _ h)

/-! ## The block that owns it -/

theorem State.enterStart_placing (s : State) :
    s.enterStart .placing =
      { s with
        placement :=
          { sub := some .waitGo, ropeOut := 0, limitCount := 0, cleanDist := 0, offTime := .off,
            slackTime := 0, breakTime := 0, limitEvents := 0, slackPauses := 0 }
        store := s.store.offer (.opening ⟨s.par.label, some s.par.tendonLength, s.store.image.counter⟩) } := by
  unfold State.enterStart State.openInstallation
  rw [State.handOver_eq]
  rfl

theorem State.enterStart_grouting (s : State) :
    s.enterStart .grouting =
      { s with
        grout :=
          { s.grout with
            sub := some .waitGo, opening := 100, volume := 0, remainder := 0, refusalTime := 0, sagTime := 0,
            yieldTimer := .off, left := none, yieldCount := 0, cleanTime := 0, yieldEvents := 0,
            result := none, testsOpen := false }
        store := s.store.offer (.opening ⟨s.par.label, none, s.store.image.counter⟩) } := by
  unfold State.enterStart State.openInstallation
  rw [State.handOver_eq]
  rfl

/-- The binding in force, its phase entered by no block yet. -/
def State.bindEntered (b : BindIn) (s : State) : State :=
  { s with
    binding := some (bindingOf b)
    roster :=
      { s.roster with
        entries := (b.roster.take b.rosterCount.toNat).map fun n =>
          { number := n.toNat, presence := .listening, count := 0, mismatch := none, age := 0,
            lostLatch := false, heardPhase := none, heardHeld := false, heard := none } }
    lif := { s.lif with groupMask := b.groupMask }
    crew := { s.crew with phase := (bindingOf b).startPhase } }

/-- A binding accepted: the owner of the start phase enters it, and BIND_OK goes to the FIFO. -/
theorem State.acceptBind_eq (src : Byte) (b : BindIn) (s : State) :
    s.acceptBind src b =
      ((s.bindEntered b).enterStart (bindingOf b).startPhase).pushReport src
        (.bindOk s.ownNumber (bindingOf b).startPhase (b.roster.take b.rosterCount.toNat).length) := by
  unfold State.acceptBind
  dsimp only
  rw [List.length_map]
  rfl

/-- The owners of a start phase are placement, the grout controller and the aftercare monitor; two of them hand the
opening to the store. -/
theorem State.enterStart_eta (p : Phase) (s : State) :
    s.enterStart p =
      { s with
        placement := (s.enterStart p).placement, grout := (s.enterStart p).grout, aft := (s.enterStart p).aft
        store := (s.enterStart p).store } := by
  cases p with
  | placing => rw [State.enterStart_placing]
  | grouting => rw [State.enterStart_grouting]
  | curing | locked | cured | setup | setting | stressing | rejected | detached => rfl

theorem State.enterStart_placement {p : Phase} (h : p ≠ .placing) (s : State) :
    (s.enterStart p).placement = s.placement := by
  cases p with
  | placing => exact absurd rfl h
  | grouting => rw [State.enterStart_grouting]
  | curing | locked | cured | setup | setting | stressing | rejected | detached => rfl

theorem State.enterStart_grout {p : Phase} (h : p ≠ .grouting ∧ p ≠ .curing) (s : State) :
    (s.enterStart p).grout = s.grout := by
  cases p with
  | grouting => exact absurd rfl h.1
  | curing => exact absurd rfl h.2
  | placing => rw [State.enterStart_placing]
  | locked | cured | setup | setting | stressing | rejected | detached => rfl

theorem State.enterStart_aft {p : Phase} (h : p ≠ .locked) (s : State) : (s.enterStart p).aft = s.aft := by
  cases p with
  | locked => exact absurd rfl h
  | placing => rw [State.enterStart_placing]
  | grouting => rw [State.enterStart_grouting]
  | curing | cured | setup | setting | stressing | rejected | detached => rfl

theorem eventOf_bind_of_valid {dst src : Byte} {b : BindIn} {s : State} (hhears : s.hears dst src)
    (htakes : s.takes dst) (hbound : s.bound = false) (hphase : s.crew.phase = .setup)
    (hvalid : validate s.ownNumber b = none) :
    eventOf (.bind dst src b) s =
      ((s.restartQuiet.bindEntered b).enterStart (bindingOf b).startPhase).pushReport src
        (.bindOk s.ownNumber (bindingOf b).startPhase (b.roster.take b.rosterCount.toNat).length) := by
  refine (State.receive_of_takes hhears htakes _).trans
    ((State.decideBind_of_unbound (s := s.restartQuiet) hbound hphase).trans ?_)
  rw [show validate s.restartQuiet.ownNumber b = none from hvalid]
  exact State.acceptBind_eq src b s.restartQuiet

/-- Settles O28: the binding by `State.acceptBind_eq`, the owner of the start phase by the lemmas on
`State.enterStart`. -/
theorem bindTakesEffect : Obligations.BindTakesEffect := by
  intro dst src b s hhears htakes hbound hphase hvalid
  have hev := eventOf_bind_of_valid hhears htakes hbound hphase hvalid
  rw [State.enterStart_eta] at hev
  obtain ⟨tx, rails, jack, gtime, ext, window, drives, hfin⟩ := State.finish_form (eventOf (.bind dst src b) s)
  rw [hev] at hfin
  refine ⟨_, (exec_of_eventOf hev).trans (congrArg _ hfin), rfl, rfl, ⟨rfl, rfl⟩, fun h => ?_, fun hg hc => ?_, fun h => ?_,
    rfl, rfl, rfl, rfl, rfl, rfl, rfl, rfl, fun h => ?_, fun h => ?_, fun h => ?_, fun h => ?_, fun h => ?_⟩
  · exact State.enterStart_placement (startPhase_ne_of_code h (by decide)) _
  · exact State.enterStart_grout
      ⟨startPhase_ne_of_code hg (by decide), startPhase_ne_of_code hc (by decide)⟩ _
  · exact State.enterStart_aft (startPhase_ne_of_code h (by decide)) _
  · have hstart : (bindingOf b).startPhase = .placing := bindingOf_startPhase h rfl
    rw [hstart, State.enterStart_placing, State.handOver_store]
    exact ⟨hstart, rfl, rfl⟩
  · have hstart : (bindingOf b).startPhase = .grouting := bindingOf_startPhase h rfl
    rw [hstart, State.enterStart_grouting, State.handOver_store]
    exact ⟨hstart, rfl, rfl⟩
  · have hstart : (bindingOf b).startPhase = .curing := bindingOf_startPhase h rfl
    rw [hstart]
    exact ⟨hstart, rfl, rfl⟩
  · have hstart : (bindingOf b).startPhase = .cured := bindingOf_startPhase h rfl
    rw [hstart]
    exact ⟨hstart, rfl⟩
  · have hstart : (bindingOf b).startPhase = .locked := bindingOf_startPhase h rfl
    rw [hstart]
    exact ⟨hstart, rfl, rfl⟩

end Sys2Proof.Machine

/-! Queries answered: STATUS, RECORD, EXPORTED, unknown (R26, R146, R183, R184, R185, R195, R197). -/

namespace Sys2Proof.Machine

/-! ## RECORD (R183) -/

theorem State.answerRecord_of_stated {src : Byte} {slot part : Nat} {s : State}
    (h : 8 < slot ∨ part ≤ 3 ∨ slot = 0) :
    s.answerRecord src slot part =
      s.pushReport src
        (if 8 < slot ∨ (slot = 0 ∧ part ≠ 0) then .plain .outOfRange .record
        else if slot = 0 then .installation s.store.image.inst
        else partOf slot part (s.store.image.slot slot)) := by
  have hstated : unstatedRecord slot part = false := by
    rw [unstatedRecord, Bool.and_eq_false_iff, Bool.and_eq_false_iff]
    simp only [decide_eq_false_iff_not]
    omega
  have hanswer : s.recordAnswer slot part =
      if 8 < slot ∨ (slot = 0 ∧ part ≠ 0) then .plain .outOfRange .record
      else if slot = 0 then .installation s.store.image.inst
      else partOf slot part (s.store.image.slot slot) := by
    unfold State.recordAnswer
    by_cases hrange : 8 < slot ∨ (slot = 0 ∧ part ≠ 0)
    · rw [if_pos hrange, if_pos hrange]
    · by_cases hzero : slot = 0
      · rw [if_neg hrange, if_neg hrange, if_pos hzero, if_pos hzero]
      · rw [if_neg hrange, if_neg hrange, if_neg hzero, if_neg hzero, if_neg (by omega)]
  unfold State.answerRecord
  rw [hstated, hanswer]
  rfl

/-- A part that the spec does not state: the content is a free value (log entry 32). -/
theorem State.answerRecord_of_unstated {src : Byte} {slot part : Nat} {s : State} (hlow : 1 ≤ slot) (hhigh : slot ≤ 8)
    (hpart : 3 < part) :
    s.answerRecord src slot part = (s.pushReport src (.unstated (Config.unstatedPart s.free))).drawFree := by
  have hunstated : unstatedRecord slot part = true := by simp [unstatedRecord, hlow, hhigh, hpart]
  have hanswer : s.recordAnswer slot part = .unstated (Config.unstatedPart s.free) := by
    unfold State.recordAnswer
    rw [if_neg (by omega), if_neg (by omega), if_pos hpart]
  unfold State.answerRecord
  rw [hunstated, hanswer]
  rfl

/-! ## EXPORTED (R184) -/

theorem State.closedSlot_of_closed {slot : Nat} {r : SlotRecord} {s : State}
    (hslot : s.store.image.slot slot = some r) (hopen : r.isOpen = false) : s.closedSlot slot = some r := by
  unfold State.closedSlot
  rw [hslot]
  exact if_neg (by rw [hopen]; exact Bool.false_ne_true)

theorem State.closedSlot_of_not {slot : Nat} {s : State}
    (h : ∀ r, s.store.image.slot slot = some r → r.isOpen = true) : s.closedSlot slot = none := by
  unfold State.closedSlot
  split
  next r hr => exact if_pos (h r hr)
  · rfl

theorem State.exportedAnswer_of_range {slot : Nat} {number : Half} {s : State} (h : slot = 0 ∨ 8 < slot) :
    s.exportedAnswer slot number = .plain .outOfRange .exported ∧ s.exportsSlot slot number = false := by
  refine ⟨if_pos h, ?_⟩
  unfold State.exportsSlot
  rcases h with h | h
  · simp [h]
  · rw [decide_eq_false (show ¬slot ≤ 8 by omega)]
    simp

theorem State.exportedAnswer_of_not_closed {slot : Nat} {number : Half} {s : State}
    (hrange : ¬(slot = 0 ∨ 8 < slot)) (h : s.closedSlot slot = none) :
    s.exportedAnswer slot number = .plain .notClosed .exported ∧ s.exportsSlot slot number = false := by
  refine ⟨(if_neg hrange).trans ?_, ?_⟩
  · rw [h]
  · unfold State.exportsSlot
    rw [h]
    exact Bool.and_false _

theorem State.exportedAnswer_of_closed {slot : Nat} {number : Half} {r : SlotRecord} {s : State}
    (hrange : ¬(slot = 0 ∨ 8 < slot)) (h : s.closedSlot slot = some r) :
    s.exportedAnswer slot number =
        (if r.number ≠ number then .plain .numberMismatch .exported
        else if r.exported then .exportedOk slot number
        else if s.store.queue ≠ [] then .plain .busy .exported
        else .exportedOk slot number)
      ∧ s.exportsSlot slot number = (s.store.queue.isEmpty && (r.number == number && !r.exported)) := by
  refine ⟨(if_neg hrange).trans ?_, ?_⟩
  · rw [h]
  · unfold State.exportsSlot
    rw [h, decide_eq_true (show 1 ≤ slot by omega), decide_eq_true (show slot ≤ 8 by omega)]
    rfl

/-- An EXPORTED query answered without effect. -/
theorem State.answerExported_of_not {src : Byte} {slot : Nat} {number : Half} {a : Report} {s : State}
    (h : s.exportedAnswer slot number = a ∧ s.exportsSlot slot number = false) :
    s.answerExported src slot number = s.pushReport src a := by
  unfold State.answerExported
  rw [h.1, h.2]
  rfl

/-- Rows 1 to 5 of the answer to an EXPORTED query. -/
theorem State.answerExported_without_effect {src : Byte} {slot : Nat} {number : Half} {a : Report} {s : State}
    (h : (a = .plain .outOfRange .exported ∧ (slot = 0 ∨ 8 < slot))
      ∨ (1 ≤ slot ∧ slot ≤ 8
          ∧ ((a = .plain .notClosed .exported ∧ ∀ r, s.store.image.slot slot = some r → r.isOpen = true)
              ∨ ∃ r, s.store.image.slot slot = some r ∧ r.isOpen = false
                  ∧ ((a = .plain .numberMismatch .exported ∧ r.number ≠ number)
                      ∨ (a = .exportedOk slot number ∧ r.number = number ∧ r.exported = true)
                      ∨ (a = .plain .busy .exported ∧ r.number = number ∧ r.exported = false
                          ∧ s.store.queue ≠ []))))) :
    s.answerExported src slot number = s.pushReport src a := by
  refine State.answerExported_of_not ?_
  rcases h with ⟨rfl, hrange⟩ | ⟨hlow, hhigh, ⟨rfl, hnot⟩ | ⟨r, hslot, hopen, h⟩⟩
  · exact State.exportedAnswer_of_range hrange
  · exact State.exportedAnswer_of_not_closed (by omega) (State.closedSlot_of_not hnot)
  · obtain ⟨hanswer, hexports⟩ :=
      State.exportedAnswer_of_closed (number := number) (by omega) (State.closedSlot_of_closed hslot hopen)
    rw [hanswer, hexports]
    rcases h with ⟨rfl, hnumber⟩ | ⟨rfl, hnumber, hdone⟩ | ⟨rfl, hnumber, hnew, hbusy⟩
    · exact ⟨if_pos hnumber, by simp [hnumber]⟩
    · exact ⟨by rw [if_neg (not_not.2 hnumber), if_pos hdone], by simp [hdone]⟩
    · refine ⟨?_, by simp [hbusy]⟩
      rw [if_neg (not_not.2 hnumber), if_neg (by rw [hnew]; exact Bool.false_ne_true), if_pos hbusy]

/-- The flag set by one write job (R173, R184). -/
theorem Store.offer_exported {slot : Nat} {r : SlotRecord} {t : Store} (hslot : t.image.slot slot = some r)
    (hopen : r.isOpen = false) (hqueue : t.queue = []) :
    t.offer (.exported slot) =
      { t with
        image := t.image.editSlot slot fun x => { x with exported := true }
        queue := [.exported slot] } := by
  have haccepts : acceptsJob t.image (.exported slot) = true := by simp [acceptsJob, hslot, hopen]
  unfold Store.offer
  rw [if_pos haccepts, Store.hand_of_room _ (by rw [hqueue]; decide), hqueue]
  rfl

/-- Row 6: OK, the flag set, and the aftercare monitor told. -/
theorem State.answerExported_with_effect {src : Byte} {slot : Nat} {r : SlotRecord} {s : State} (hlow : 1 ≤ slot)
    (hhigh : slot ≤ 8) (hslot : s.store.image.slot slot = some r) (hopen : r.isOpen = false)
    (hnew : r.exported = false) (hqueue : s.store.queue = []) :
    s.answerExported src slot r.number =
      State.retryStoreFull
        { s.pushReport src (.exportedOk slot r.number) with
          store :=
            { s.store with
              image := s.store.image.editSlot slot fun x => { x with exported := true }
              queue := [.exported slot] } } := by
  obtain ⟨hanswer, hexports⟩ :=
    State.exportedAnswer_of_closed (number := r.number) (by omega) (State.closedSlot_of_closed hslot hopen)
  rw [if_neg (not_not.2 rfl), if_neg (by rw [hnew]; exact Bool.false_ne_true), if_neg (not_not.2 hqueue)] at hanswer
  unfold State.answerExported
  rw [hanswer, hexports, hqueue, hnew]
  refine (if_pos (by simp)).trans (congrArg State.retryStoreFull ?_)
  rw [State.handOver_eq]
  exact congrArg (fun t => { s.pushReport src (.exportedOk slot r.number) with store := t })
    (Store.offer_exported hslot hopen hqueue)

/-- Settles O30: each query by the lemma on its answer. -/
theorem queriesAreAnsweredAsTheStateStands : Obligations.QueriesAreAnsweredAsTheStateStands := by
  refine ⟨fun dst src s hhears htakes => exec_of_eventOf (State.receive_of_takes hhears htakes _),
    fun dst src slot part s hhears htakes h => exec_of_eventOf ((State.receive_of_takes hhears htakes _).trans ?_),
    fun dst src slot part s hhears htakes hlow hhigh hpart =>
      exec_of_eventOf ((State.receive_of_takes hhears htakes _).trans ?_),
    fun dst src what s hhears htakes => exec_of_eventOf (State.receive_of_takes hhears htakes _),
    fun dst src slot number a s hhears htakes h =>
      exec_of_eventOf ((State.receive_of_takes hhears htakes _).trans ?_),
    fun dst src slot r s hhears htakes hlow hhigh hslot hopen hnew hqueue hquiet =>
      exec_of_eventOf ((State.receive_of_takes hhears htakes _).trans ?_),
    fun dst src slot r s hhears htakes hlow hhigh hslot hopen hnew hqueue =>
      exec_of_eventOf ((State.receive_of_takes hhears htakes _).trans ?_)⟩
  · exact State.answerRecord_of_stated (s := s.restartQuiet) h
  · exact State.answerRecord_of_unstated (s := s.restartQuiet) hlow hhigh hpart
  · exact State.answerExported_without_effect (s := s.restartQuiet) h
  · refine (State.answerExported_with_effect (s := s.restartQuiet) hlow hhigh hslot hopen hnew hqueue).trans ?_
    refine State.retryStoreFull_of_not_waiting ?_
    exact hquiet
  · exact State.answerExported_with_effect (s := s.restartQuiet) hlow hhigh hslot hopen hnew hqueue

end Sys2Proof.Machine

/-! What the reports show: the STATUS report, the store summary, the parts of a slot (R183, R185, R195). -/

namespace Sys2Proof.Machine

/-! ## The store summary (R185) -/

theorem firstSlot_of_first {p : Option SlotRecord → Bool} {x : Option SlotRecord} {pre post : List (Option SlotRecord)}
    (n : Nat) (hpre : ∀ y ∈ pre, p y = false) (hx : p x = true) :
    firstSlot p n (pre ++ x :: post) = some (n + pre.length) := by
  induction pre generalizing n with
  | nil => exact if_pos hx
  | cons y ys ih =>
    refine (if_neg (by rw [hpre y List.mem_cons_self]; exact Bool.false_ne_true)).trans
      ((ih (n + 1) fun z hz => hpre z (List.mem_cons_of_mem y hz)).trans ?_)
    rw [List.length_cons, Nat.add_right_comm, Nat.add_assoc]

theorem firstSlot_of_none {p : Option SlotRecord → Bool} {l : List (Option SlotRecord)} (n : Nat)
    (h : ∀ y ∈ l, p y = false) : firstSlot p n l = none := by
  induction l generalizing n with
  | nil => rfl
  | cons y ys ih =>
    exact (if_neg (by rw [h y List.mem_cons_self]; exact Bool.false_ne_true)).trans
      (ih (n + 1) fun z hz => h z (List.mem_cons_of_mem y hz))

theorem Contents.slot_of_append {c : Contents} {pre post : List (Option SlotRecord)} {x : Option SlotRecord}
    (h : c.slots = pre ++ x :: post) : c.slot (pre.length + 1) = x := by
  show (c.slots[pre.length]?).getD none = x
  rw [h, List.getElem?_append_right (le_refl _), Nat.sub_self]
  rfl

/-- The summary's OPEN slot is the first one. -/
theorem State.storeSummary_openSlot {pre post : List (Option SlotRecord)} {r : SlotRecord} {s : State}
    (hslots : s.store.image.slots = pre ++ some r :: post) (hopen : r.isOpen = true)
    (hpre : ∀ q, some q ∈ pre → q.isOpen = false) :
    s.storeSummary.openSlot = some (pre.length + 1, r.number) := by
  have hfirst : firstSlot (fun x => (x.map SlotRecord.isOpen).getD false) 1 s.store.image.slots =
      some (1 + pre.length) := by
    rw [hslots]
    refine firstSlot_of_first 1 (fun y hy => ?_) hopen
    cases y with
    | none => rfl
    | some q => exact hpre q hy
  unfold State.storeSummary
  dsimp only
  rw [hfirst, Nat.add_comm, Option.bind_some, Contents.slot_of_append hslots]
  rfl

theorem State.storeSummary_openSlot_none {s : State}
    (h : ∀ r, some r ∈ s.store.image.slots → r.isOpen = false) : s.storeSummary.openSlot = none := by
  have hfirst : firstSlot (fun x => (x.map SlotRecord.isOpen).getD false) 1 s.store.image.slots = none := by
    refine firstSlot_of_none 1 fun y hy => ?_
    cases y with
    | none => rfl
    | some q => exact h q hy
  unfold State.storeSummary
  dsimp only
  rw [hfirst]
  rfl

/-- Settles O31: the report and the summary field by field, the parts of a slot by the definition of `partOf`. -/
theorem reportsShowTheState : Obligations.ReportsShowTheState := by
  refine ⟨fun s => ?_, fun s => ⟨?_, ?_, ?_, ?_, rfl, rfl, rfl, rfl, State.storeSummary_openSlot_none⟩,
    fun s pre post r hslots hopen hpre => State.storeSummary_openSlot hslots hopen hpre,
    fun slot r => ⟨rfl, rfl, rfl, rfl, rfl, rfl, rfl, rfl⟩⟩
  · unfold State.statusReport
    congr 1
    · by_cases htop : s.toppingUp = true
      · have hplace : s.crew.phase = .locked ∧ s.aft.sub = some .topUp := by simpa [State.toppingUp] using htop
        rw [if_pos htop, hplace.1, hplace.2]
        cases s.aft.stage <;> rfl
      · rw [if_neg htop]
        split
        next hphase hsub _ => exact absurd (by simp [State.toppingUp, hphase, hsub]) htop
        next => rfl
    · unfold State.holdReason
      cases s.request.map Request.status with
      | none => rfl
      | some x => cases x <;> rfl
  · exact congrArg (fun p => s.store.image.slots.countP p) (funext fun x => by cases x <;> rfl)
  · exact congrArg (fun p => s.store.image.slots.countP p) (funext fun x => by cases x <;> rfl)
  · exact congrArg (fun p => s.store.image.slots.countP p) (funext fun x => by cases x <;> rfl)
  · refine congrArg (fun p => s.store.image.slots.countP p) (funext fun x => ?_)
    cases x with
    | none => rfl
    | some r =>
      dsimp only [Option.any_some]
      rw [Bool.or_assoc, Bool.or_assoc]
      refine congrArg (fun y => !r.isOpen && !r.exported && (r.kind == .topUpOnly || y)) ?_
      cases r.verdict with
      | none => rfl
      | some v =>
        cases v with
        | pass | aborted => rfl
        | fail y => cases y <;> rfl

end Sys2Proof.Machine

/-! The transmitter: the frame it takes, the frame it ends, the jabber cut-off (R7, R8, R10, R11, R14, R15). -/

namespace Sys2Proof.Machine

/-! ## The selector (R11, R14) -/

theorem Lif.select_of_batch {l : Lif} (h : l.batch.frame ≠ []) :
    l.select = some (.reply l.batch.frame, l.batch.attempts, { l with batch := ⟨[], 0⟩ }) :=
  if_pos (by simpa using h)

theorem Lif.select_of_ask {l : Lif} {f : Waiting AskFrame} (hbatch : l.batch.frame = []) (h : l.ask = some f) :
    l.select = some (.ask f.frame, f.attempts, { l with ask := none }) := by
  unfold Lif.select
  rw [if_neg (by simp [hbatch]), h]

theorem Lif.select_of_alert {l : Lif} {f : Waiting Alert} (hbatch : l.batch.frame = []) (hask : l.ask = none)
    (h : l.alert = some f) : l.select = some (.alert f.frame, f.attempts, { l with alert := none }) := by
  unfold Lif.select
  rw [if_neg (by simp [hbatch]), hask, h]

theorem Lif.select_of_report {l : Lif} {r : ReportItem} {rest : List ReportItem} (hbatch : l.batch.frame = [])
    (hask : l.ask = none) (halert : l.alert = none) (h : l.fifo = r :: rest) :
    l.select = some (.report r.dst r.report, r.attempts, l) := by
  unfold Lif.select
  rw [if_neg (by simp [hbatch]), hask, halert, h]

theorem Lif.select_of_beacon {l : Lif} {f : Waiting Beacon} (hbatch : l.batch.frame = []) (hask : l.ask = none)
    (halert : l.alert = none) (hfifo : l.fifo = []) (h : l.beacon = some f) :
    l.select = some (.beacon f.frame, f.attempts, { l with beacon := none }) := by
  unfold Lif.select
  rw [if_neg (by simp [hbatch]), hask, halert, hfifo, h]

theorem Lif.select_of_empty {l : Lif} (hbatch : l.batch.frame = []) (hask : l.ask = none) (halert : l.alert = none)
    (hfifo : l.fifo = []) (h : l.beacon = none) : l.select = none := by
  unfold Lif.select
  rw [if_neg (by simp [hbatch]), hask, halert, hfifo, h]

/-! ## The end of a quiet wait (R7) -/

theorem State.quietWaitEnd_of_waiting {s : State} (h : s.lif.tx = .waitingQuiet) :
    s.quietWaitEnd = { s.expire s.lif.quiet with lif := (s.expire s.lif.quiet).lif.quietEnd } := if_pos h

/-- The selector's frame goes out, with its attempt count. -/
theorem exec_quietWaitEnd_of_select {f : OutFrame} {n : Nat} {l' : Lif} {s : State} (h : s.lif.tx = .waitingQuiet)
    (hselect : (s.expire s.lif.quiet).lif.select = some (f, n, l')) :
    exec .quietWaitEnd s = .next (State.finish
      { s.expire s.lif.quiet with lif := { l' with tx := .sending f n, drive := ⟨true, 0, 8000⟩ } }) := by
  refine exec_of_eventOf ((State.quietWaitEnd_of_waiting h).trans ?_)
  unfold Lif.quietEnd
  rw [hselect]
  rfl

theorem exec_quietWaitEnd_of_empty {s : State} (h : s.lif.tx = .waitingQuiet)
    (hselect : (s.expire s.lif.quiet).lif.select = none) :
    exec .quietWaitEnd s = .next (State.finish
      { s.expire s.lif.quiet with lif := { (s.expire s.lif.quiet).lif with tx := .free } }) := by
  refine exec_of_eventOf ((State.quietWaitEnd_of_waiting h).trans ?_)
  unfold Lif.quietEnd
  rw [hselect]

/-! ## The end of a backoff, of a frame, and the cut-off (R8, R10, R14) -/

theorem State.backoffEnd_of_backingOff {k : Nat} {s : State} (h : s.lif.tx = .backingOff k) :
    s.backoffEnd =
      { s.expire s.lif.backoff with
        lif :=
          { (s.expire s.lif.backoff).lif with tx := .waitingQuiet, backoff := .off, quiet := ⟨true, 0, 384⟩ } } := by
  unfold State.backoffEnd
  rw [h]
  rfl

theorem State.transmitComplete_of_sending {f : OutFrame} {n : Nat} {s : State} (h : s.lif.tx = .sending f n) :
    s.transmitComplete =
      { s with lif := { s.lif.lose f with tx := .free, drive := .off, quiet := ⟨true, 0, 384⟩ } } := by
  unfold State.transmitComplete
  rw [h]
  rfl

/-- Only a report is lost from a slot: the head of the FIFO. -/
theorem Lif.lose_of_not_report {f : OutFrame} (h : ∀ dst r, f ≠ .report dst r) (l : Lif) : l.lose f = l := by
  cases f with
  | report dst r => exact absurd rfl (h dst r)
  | reply | ask | alert | beacon => rfl

/-- The transmitter cut off, LINE_JABBER not yet latched. -/
def State.cutOff (f : OutFrame) (s : State) : State :=
  { s.expire s.lif.drive with
    lif :=
      { (s.expire s.lif.drive).lif.lose f with
        tx := .free, drive := .off, quiet := ⟨true, 0, 384⟩, txDrops := satInc s.lif.txDrops } }

theorem State.jabberCutoff_of_sending {f : OutFrame} {n : Nat} {s : State} (h : s.lif.tx = .sending f n) :
    s.jabberCutoff = (s.cutOff f).latch .lineJabber 0 := by
  unfold State.jabberCutoff
  rw [h]
  rfl

theorem Latch.lineJabber_mutes : Latch.lineJabber.mutes := .inl rfl

/-- Settles O32: the frame taken by the selector's lemma for the first slot that holds one, the others by the
transmitter's condition. -/
theorem transmitterTakesAndEndsFrames : Obligations.TransmitterTakesAndEndsFrames := by
  refine ⟨?_, fun s h => exec_of_eventOf (if_neg h), fun k s h => exec_of_eventOf (State.backoffEnd_of_backingOff h),
    fun f n s h hnot => exec_of_eventOf ((State.transmitComplete_of_sending h).trans ?_),
    fun dst r n s h => exec_of_eventOf (State.transmitComplete_of_sending h), fun f n s h hclear => ?_⟩
  · intro s h l sent
    exact ⟨fun hbatch => exec_quietWaitEnd_of_select h (Lif.select_of_batch hbatch),
      fun f hbatch hask => exec_quietWaitEnd_of_select h (Lif.select_of_ask hbatch hask),
      fun f hbatch hask halert => exec_quietWaitEnd_of_select h (Lif.select_of_alert hbatch hask halert),
      fun r rest hbatch hask halert hfifo => exec_quietWaitEnd_of_select h (Lif.select_of_report hbatch hask halert hfifo),
      fun f hbatch hask halert hfifo hbeacon =>
        exec_quietWaitEnd_of_select h (Lif.select_of_beacon hbatch hask halert hfifo hbeacon),
      fun hbatch hask halert hfifo hbeacon =>
        exec_quietWaitEnd_of_empty h (Lif.select_of_empty hbatch hask halert hfifo hbeacon)⟩
  · rw [Lif.lose_of_not_report hnot]
  · have hlatch : eventOf .jabberCutoff s = (s.cutOff f).latch .lineJabber 0 := State.jabberCutoff_of_sending h
    have hev : eventOf .jabberCutoff s = (s.cutOff f).setLatch .lineJabber 0 none :=
      hlatch.trans (State.latch_of_clear (s := s.cutOff f) hclear 0)
    obtain ⟨honly, hlif⟩ := State.setLatch_of_mutes Latch.lineJabber_mutes 0 none (s.cutOff f)
    have hdrop : ((s.cutOff f).setLatch .lineJabber 0 none).finish.lif = (s.cutOff f).lif.dropSlots :=
      (State.finish_lif_of_listenOnly honly).trans hlif
    obtain ⟨lif, lease, placement, grout, seq, aft, hform⟩ := State.setLatch_form .lineJabber 0 none (s.cutOff f)
    obtain ⟨tx, rails, jack, gtime, ext, window, drives, hfin⟩ :=
      State.finish_form ((s.cutOff f).setLatch .lineJabber 0 none)
    refine ⟨_, exec_of_eventOf hev, (congrArg State.finish (hev.symm.trans hlatch)).trans ?_, ?_, ?_, ?_, ?_,
      Lif.dropSlots_anySlot hdrop, ?_⟩
    · unfold State.cutOff
      cases f <;> rfl
    · rw [hfin, hform]
      rfl
    · rw [hfin, hform]
      exact Trip.set_latches_of_not_mem hclear s.crew.phase 0 none
    · rw [hdrop]
      rfl
    · rw [hfin]
      exact honly
    · rw [hdrop]
      rfl

end Sys2Proof.Machine

/-! A collision: the frame back in its slot or dropped, and the drawn backoff (R8, R9, R12 to R15, R30). -/

namespace Sys2Proof.Machine

/-! ## The frame's way back (R8, R12, R13, R14, R30) -/

theorem Lif.backOff_eq (k : Nat) (l : Lif) :
    l.backOff k =
      { l with
        tx := if k = 0 then .waitingQuiet else .backingOff k, drive := .off
        backoff := if k = 0 then .off else ⟨true, 0, k * 256⟩, quiet := ⟨true, 0, 384⟩ } := by
  unfold Lif.backOff
  split <;> rfl

/-- What a collided frame may change: the slots, the FIFO and TX_DROPS. -/
theorem State.frameGone_form (f : OutFrame) (n : Nat) (s : State) (l : Lif) :
    ∃ batch ask alert fifo beacon drops,
      s.frameGone f n l =
        { l with batch := batch, ask := ask, alert := alert, fifo := fifo, beacon := beacon, txDrops := drops } := by
  refine ⟨(s.frameGone f n l).batch, (s.frameGone f n l).ask, (s.frameGone f n l).alert, (s.frameGone f n l).fifo,
    (s.frameGone f n l).beacon, (s.frameGone f n l).txDrops, ?_⟩
  unfold State.frameGone Lif.lose Lif.putBack
  cases f <;> split_ifs <;> rfl

theorem State.frameGone_txDrops (f : OutFrame) (n : Nat) (s : State) (l : Lif) :
    (s.frameGone f n l).txDrops =
      if n + 1 < 12 ∨ l.txDrops = 65535#16 then l.txDrops else l.txDrops + 1 := by
  unfold State.frameGone Config.maxAttempts
  by_cases hn : n + 1 < 12
  · refine Eq.trans ?_ (if_pos (Or.inl hn)).symm
    rw [if_neg (by omega)]
    unfold Lif.putBack
    cases f <;> split_ifs <;> rfl
  · rw [if_pos (by omega)]
    simp only [hn, false_or]
    rfl

theorem State.frameGone_of_early {f : OutFrame} {n : Nat} {s : State} {l : Lif} (h : n + 1 < 12) :
    s.frameGone f n l = if s.returnsFrame f then l.putBack f (n + 1) else l :=
  if_neg (by unfold Config.maxAttempts; omega)

theorem State.frameGone_of_last (f : OutFrame) (s : State) (l : Lif) :
    s.frameGone f 11 l = { l.lose f with txDrops := satInc l.txDrops } := rfl

/-- A slot that is filled keeps its frame; an empty one takes the returned frame. -/
theorem Lif.putBack_ask (a : AskFrame) (n : Nat) (l : Lif) :
    l.putBack (.ask a) n = { l with ask := if l.ask = none then some ⟨a, n⟩ else l.ask } := by
  obtain ⟨straps, mask, batch, ask⟩ := l
  cases ask <;> rfl

theorem Lif.putBack_alert (a : Alert) (n : Nat) (l : Lif) :
    l.putBack (.alert a) n = { l with alert := if l.alert = none then some ⟨a, n⟩ else l.alert } := by
  obtain ⟨straps, mask, batch, ask, alert⟩ := l
  cases alert <;> rfl

theorem Lif.putBack_beacon (b : Beacon) (n : Nat) (l : Lif) :
    l.putBack (.beacon b) n = { l with beacon := if l.beacon = none then some ⟨b, n⟩ else l.beacon } := by
  obtain ⟨straps, mask, batch, ask, alert, fifo, beacon⟩ := l
  cases beacon <;> rfl

/-- A beacon of a DETACHED controller is discarded. -/
theorem State.frameGone_beacon {b : Beacon} {n : Nat} {s : State} {l : Lif} (h : n + 1 < 12) :
    s.frameGone (.beacon b) n l =
      { l with
        beacon := if s.crew.phase ≠ .detached ∧ l.beacon = none then some ⟨b, n + 1⟩ else l.beacon } := by
  rw [State.frameGone_of_early h, Lif.putBack_beacon]
  by_cases hphase : s.crew.phase = .detached
  · rw [if_neg (by simp [State.returnsFrame, hphase]), if_neg fun hc => hc.1 hphase]
  · rw [if_pos (by simp [State.returnsFrame, hphase])]
    simp only [ne_eq, hphase, not_false_eq_true, true_and]

/-! ## The closing of the event -/

theorem State.drawn_busy (f : OutFrame) (n : Nat) (s : State) : (s.drawn f n).lif.tx ≠ .free := by
  show ((s.frameGone f n s.lif).backOff _).tx ≠ .free
  rw [Lif.backOff_tx]
  exact backOff_tx_ne_free _

/-- The drawn state, block by block. -/
theorem State.drawn_eq (f : OutFrame) (n : Nat) (s : State) :
    s.drawn f n =
      { s with
        lif :=
          { s.frameGone f n s.lif with
            tx :=
              if backoffSlots (rngDraw s.lif.rng) (n + 1) = 0 then .waitingQuiet
              else .backingOff (backoffSlots (rngDraw s.lif.rng) (n + 1))
            drive := .off
            backoff :=
              if backoffSlots (rngDraw s.lif.rng) (n + 1) = 0 then .off
              else ⟨true, 0, backoffSlots (rngDraw s.lif.rng) (n + 1) * 256⟩
            quiet := ⟨true, 0, 384⟩, rng := rngDraw s.lif.rng } } := by
  unfold State.drawn
  simp only [Lif.backOff_eq]
  rfl

theorem eventOf_collision {f : OutFrame} {n : Nat} {s : State} (h : s.lif.tx = .sending f n)
    (honly : s.listenOnly = false) : eventOf .collision s = s.drawn f n := by
  refine (State.collision_of_sending h).trans (if_neg ?_)
  rw [State.drawn_listenOnly, honly]
  exact Bool.false_ne_true

/-- Beside the line interface a collision changes nothing but what the closing of the event does. -/
theorem exec_collision {f : OutFrame} {n : Nat} {s : State} (h : s.lif.tx = .sending f n)
    (honly : s.listenOnly = false) :
    ∃ t, exec .collision s = .next t
      ∧ t = { s with lif := t.lif, scan := t.scan, trip := t.trip, drives := t.drives }
      ∧ t.lif = (s.drawn f n).lif ∧ s.settles t ∧ t.trip.latches = s.trip.latches := by
  have hev := eventOf_collision h honly
  obtain ⟨tx, rails, jack, gtime, ext, window, drives, hfin⟩ := State.finish_form (s.drawn f n)
  have hlif := State.finish_lif_of_busy (s.drawn_busy f n)
  refine ⟨_, exec_of_eventOf hev, ?_, hlif, ⟨?_, ?_⟩, ?_⟩ <;> rw [hfin] <;> rfl

/-! ## A returned batch (R12) -/

/-- For a neighbour of both batches the new entry stands. -/
theorem mem_combineBatch {returned new : List ReplyEntry} {x : ReplyEntry} (h : x ∈ combineBatch returned new) :
    ((∃ y ∈ new, y.target = x.target) → x ∈ new) ∧ ((∀ y ∈ new, y.target ≠ x.target) → x ∈ returned) := by
  rcases List.mem_append.1 h with h | h
  · obtain ⟨e, he, rfl⟩ := List.mem_map.1 h
    cases hf : new.find? fun x => x.target == e.target with
    | none =>
      refine ⟨fun ⟨y, hy, hyt⟩ => ?_, fun _ => he⟩
      exact absurd (by simpa using hyt) (List.find?_eq_none.1 hf y hy)
    | some y =>
      have hmem := List.mem_of_find?_eq_some hf
      exact ⟨fun _ => hmem, fun hno => absurd rfl (hno y hmem)⟩
  · have hmem := List.mem_of_mem_filter h
    exact ⟨fun _ => hmem, fun hno => absurd rfl (hno x hmem)⟩

end Sys2Proof.Machine

/-! The statement about collisions (R8, R9, R12 to R15, R30; log entries 11, 12). -/

namespace Sys2Proof.Machine

/-! ## A collision before the twelfth attempt, by the frame's kind -/

theorem State.frameGone_reply {es : List ReplyEntry} {n : Nat} {s : State} {l : Lif} (h : n + 1 < 12) :
    s.frameGone (.reply es) n l = { l with batch := ⟨combineBatch es l.batch.frame, n + 1⟩ } := by
  rw [State.frameGone_of_early h]
  exact if_pos rfl

theorem State.frameGone_ask {a : AskFrame} {n : Nat} {s : State} {l : Lif} (h : n + 1 < 12) :
    s.frameGone (.ask a) n l = { l with ask := if l.ask = none then some ⟨a, n + 1⟩ else l.ask } := by
  rw [State.frameGone_of_early h, Lif.putBack_ask]
  exact if_pos rfl

theorem State.frameGone_alert {a : Alert} {n : Nat} {s : State} {l : Lif} (h : n + 1 < 12) :
    s.frameGone (.alert a) n l = { l with alert := if l.alert = none then some ⟨a, n + 1⟩ else l.alert } := by
  rw [State.frameGone_of_early h, Lif.putBack_alert]
  exact if_pos rfl

/-- A report keeps its place. -/
theorem State.frameGone_report {dst : Byte} {r : Report} {n : Nat} {s : State} {l : Lif} (h : n + 1 < 12) :
    s.frameGone (.report dst r) n l = { l with fifo := countHead (n + 1) l.fifo } := by
  rw [State.frameGone_of_early h]
  exact if_pos rfl

/-- The listen-only controller's slots after a draw. -/
theorem State.drawn_dropSlots (f : OutFrame) (n : Nat) (s : State) :
    (s.drawn f n).onLif Lif.dropSlots =
      { s with
        lif :=
          { s.lif with
            rng := (List.range 16).foldl (fun x _ => rngStep x) s.lif.rng
            tx := .free, backoff := .off, drive := .off, quiet := ⟨true, 0, 384⟩
            batch := ⟨[], 0⟩, ask := none, alert := none, fifo := [], beacon := none
            txDrops :=
              if n + 1 < 12 ∨ s.lif.txDrops = 65535#16 then s.lif.txDrops else s.lif.txDrops + 1 } } := by
  obtain ⟨batch, ask, alert, fifo, beacon, drops, hgone⟩ := s.frameGone_form f n s.lif
  have hdrops : drops = _ := (congrArg Lif.txDrops hgone).symm.trans (s.frameGone_txDrops f n s.lif)
  rw [State.drawn_eq, hgone, hdrops]
  by_cases hk : backoffSlots (rngDraw s.lif.rng) (n + 1) = 0
  · rw [if_pos hk]
    rfl
  · rw [if_neg hk]
    rfl

/-- Settles O33: the slots by `State.frameGone_slots`, the backoff by `State.drawn_eq`, a returned batch by the lemmas on
`combineBatch`. -/
theorem collisionReturnsTheFrame : Obligations.CollisionReturnsTheFrame := by
  refine ⟨?_, ⟨?_, fun s h => ?_⟩, fun f n s h honly => exec_of_eventOf ((State.collision_of_sending h).trans ?_),
    fun returned new => ⟨combineBatch_targets returned new, fun x hx => mem_combineBatch hx⟩⟩
  · intro f n s h hn honly rng k
    obtain ⟨t, hexec, hform, hlif, hsettles, hlatches⟩ := exec_collision h honly
    obtain ⟨batch, ask, alert, fifo, beacon, drops, hgone⟩ := s.frameGone_form f n s.lif
    have hdrops : drops = s.lif.txDrops :=
      (congrArg Lif.txDrops hgone).symm.trans ((s.frameGone_txDrops f n s.lif).trans (if_pos (Or.inl hn)))
    rw [State.drawn_eq, hgone, hdrops] at hlif
    have hslots : t.lif.batch = batch ∧ t.lif.ask = ask ∧ t.lif.alert = alert ∧ t.lif.fifo = fifo
        ∧ t.lif.beacon = beacon := by rw [hlif]; exact ⟨rfl, rfl, rfl, rfl, rfl⟩
    obtain ⟨hbatch, hask, halert, hfifo, hbeacon⟩ := hslots
    have hrest : t.lease = s.lease ∧ t.roster = s.roster ∧ t.trip.latches = s.trip.latches :=
      ⟨by rw [hform], by rw [hform], hlatches⟩
    refine ⟨t, hexec, hform, by rw [hlif], hsettles, by rw [hlif]; rfl, by rw [hlif], by rw [hlif]; rfl,
      fun hk => by rw [hlif]; exact if_neg hk, by rw [hlif], ?_⟩
    rw [hbatch, hask, halert, hfifo, hbeacon]
    clear hlif hbatch hask halert hfifo hbeacon hform hexec hsettles
    cases f with
    | reply es =>
      rw [State.frameGone_reply hn] at hgone
      injection hgone with _ _ hb ha hl hf hc
      exact ⟨hb.symm, ha.symm, hl.symm, hc.symm, fun _ _ _ _ h => OutFrame.noConfusion h, fun _ => hf.symm, hrest⟩
    | ask a =>
      rw [State.frameGone_ask hn] at hgone
      injection hgone with _ _ hb ha hl hf hc
      exact ⟨hb.symm, ha.symm, hl.symm, hc.symm, fun _ _ _ _ h => OutFrame.noConfusion h, fun _ => hf.symm, hrest⟩
    | alert a =>
      rw [State.frameGone_alert hn] at hgone
      injection hgone with _ _ hb ha hl hf hc
      exact ⟨hb.symm, ha.symm, hl.symm, hc.symm, fun _ _ _ _ h => OutFrame.noConfusion h, fun _ => hf.symm, hrest⟩
    | report dst r =>
      rw [State.frameGone_report hn] at hgone
      injection hgone with _ _ hb ha hl hf hc
      exact ⟨hb.symm, ha.symm, hl.symm, hc.symm, fun _ _ x rest _ hx => by rw [← hf, hx]; rfl,
        fun hnot => absurd rfl (hnot dst r), hrest⟩
    | beacon b =>
      rw [State.frameGone_beacon hn] at hgone
      injection hgone with _ _ hb ha hl hf hc
      exact ⟨hb.symm, ha.symm, hl.symm, hc.symm, fun _ _ _ _ h => OutFrame.noConfusion h, fun _ => hf.symm, hrest⟩
  · intro f s h honly rng k
    obtain ⟨t, hexec, hform, hlif, hsettles, _⟩ := exec_collision h honly
    rw [State.drawn_eq, State.frameGone_of_last] at hlif
    have hlose : ∃ fifo, s.lif.lose f = { s.lif with fifo := fifo } ∧ (∀ dst r, f = .report dst r → fifo = s.lif.fifo.tail)
        ∧ ((∀ dst r, f ≠ .report dst r) → fifo = s.lif.fifo) := by
      cases f with
      | report dst r => exact ⟨_, rfl, fun _ _ _ => rfl, fun hnot => absurd rfl (hnot dst r)⟩
      | reply | ask | alert | beacon => exact ⟨_, rfl, fun _ _ h => OutFrame.noConfusion h, fun _ => rfl⟩
    obtain ⟨fifo, heq, htail, hkeep⟩ := hlose
    rw [heq] at hlif
    refine ⟨t, hexec, hform, by rw [hlif], hsettles, by rw [hlif]; rfl, by rw [hlif]; rfl, by rw [hlif]; rfl, by rw [hlif],
      by rw [hlif], by rw [hlif], by rw [hlif], fun dst r hf => ?_, fun hnot => ?_⟩
    · rw [hlif]
      exact htail dst r hf
    · rw [hlif]
      exact hkeep hnot
  · refine exec_of_eventOf ?_
    show s.collision = s
    unfold State.collision
    unfold State.sending at h
    cases htx : s.lif.tx with
    | sending f n => rw [htx] at h; cases h
    | free | waitingQuiet | backingOff k => rfl
  · rw [State.drawn_listenOnly, honly]
    exact s.drawn_dropSlots f n

end Sys2Proof.Machine

/-! The lease's timers: the ask timer, the re-ask delay, the hold timer (R39, R48, R49, R50, R59, R162). -/

namespace Sys2Proof.Machine

/-! ## Passing time and the roster -/

theorem Entry.tick_presence (d : Nat) (e : Entry) : (e.tick d).presence = e.presence := by
  unfold Entry.tick; split <;> rfl

theorem State.allPresent_elapse (d : Nat) (s : State) : (s.elapse d).allPresent = s.allPresent := by
  unfold State.allPresent State.elapse
  dsimp only
  rw [List.all_map]
  congr 1
  funext e
  simp only [Function.comp, Entry.tick_presence]

theorem State.presentMembers_elapse (d : Nat) (s : State) : (s.elapse d).presentMembers = s.presentMembers := by
  unfold State.presentMembers State.elapse
  dsimp only
  rw [List.filter_map, List.map_map]
  have hpick : ((fun e : Entry => e.presence == .present) ∘ Entry.tick d) = fun e => e.presence == .present :=
    funext fun e => by simp only [Function.comp, Entry.tick_presence]
  rw [hpick]
  exact List.map_congr_left fun e _ => by simp only [Function.comp, Entry.tick_number]

/-! ## The ask timer (R48) -/

theorem State.askTimerEnd_of_asking {s : State} (hon : s.lease.askTimer.on = true) (hask : s.lease.state = .asking) :
    s.askTimerEnd = (s.expire s.lease.askTimer).askTimeout := if_pos (by simp [hon, hask])

theorem State.someUnanswered_iff (s : State) :
    s.someUnanswered = true ↔ ∃ m ∈ s.lease.required, m.mark = .unanswered := by simp [State.someUnanswered]

theorem State.askTimeout_of_early {a : CurrentAsk} {s : State} (ha : s.lease.ask = some a)
    (hopen : ∃ m ∈ s.lease.required, m.mark = .unanswered) (hcount : a.count < 4) :
    s.askTimeout =
      { s with
        lease :=
          { s.lease with ask := some { a with count := a.count + 1 }, askTimer := ⟨true, 0, 5000000⟩ }
        lif :=
          { s.lif with
            ask := if s.listenOnly then s.lif.ask else some ⟨.ask a.cls a.stamp (a.count + 1), 0⟩ } } := by
  have hsent : s.sendCount = a.count := by unfold State.sendCount; rw [ha]; rfl
  have hraise : (s.onLease fun l => { l with ask := l.ask.map fun a => { a with count := a.count + 1 } }) =
      { s with lease := { s.lease with ask := some { a with count := a.count + 1 } } } := by
    unfold State.onLease
    dsimp only
    rw [ha]
    rfl
  unfold State.askTimeout
  rw [if_pos (s.someUnanswered_iff.2 hopen), if_pos (by rw [hsent]; exact hcount), hraise]
  exact State.sendAsk_of_ask (a := { a with count := a.count + 1 }) rfl

theorem State.askTimeout_of_answered {s : State} (h : ∀ m ∈ s.lease.required, m.mark ≠ .unanswered) :
    s.askTimeout = s.sendAsk :=
  if_neg fun hc => by
    obtain ⟨m, hm, hmark⟩ := s.someUnanswered_iff.1 hc
    exact h m hm hmark

theorem State.askTimeout_of_last {a : CurrentAsk} {s : State} (ha : s.lease.ask = some a)
    (hopen : ∃ m ∈ s.lease.required, m.mark = .unanswered) (hcount : a.count = 4) : s.askTimeout = s.lapse := by
  have hsent : s.sendCount = 4 := by unfold State.sendCount; rw [ha]; exact hcount
  unfold State.askTimeout
  rw [if_pos (s.someUnanswered_iff.2 hopen), if_neg (by rw [hsent]; decide)]

/-! ## A lapse (R49) -/

/-- The ask withdrawn, the lapse counted, the re-ask delay begun. -/
def State.lapsed (s : State) : State :=
  { s.withdrawn with
    lease := { s.withdrawn.lease with reask := ⟨true, 0, 20000000⟩, askLapses := satInc s.lease.askLapses } }

theorem State.lapse_eq (s : State) :
    s.lapse =
      if s.askAbort then (s.lapsed.setStatus (.waiting none)).present
      else s.lapsed.setStatus (.waiting (some .askBackoff)) := by
  have hidled : State.idled ((s.placeAsk (.withdraw s.askStamp)).onLease fun l =>
      { l with askLapses := satInc l.askLapses, reask := .start Config.reaskUs }) = s.lapsed := by
    rw [State.lapsed, ← State.idled_placeAsk, State.placeAsk_eq]
    rfl
  unfold State.lapse
  dsimp only
  rw [State.toIdle_eq, State.idled_setStatus, hidled]
  split <;> rfl

theorem State.askAbort_of_ask {a : CurrentAsk} {s : State} (ha : s.lease.ask = some a) : s.askAbort = a.abort := by
  unfold State.askAbort
  rw [ha]
  rfl

theorem State.askStamp_of_ask {a : CurrentAsk} {s : State} (ha : s.lease.ask = some a) : s.askStamp = a.stamp := by
  unfold State.askStamp
  rw [ha]
  rfl

/-! ## The re-ask delay (R50) -/

/-- The re-ask delay stopped at its end. -/
def State.reaskOver (s : State) : State :=
  { s.expire s.lease.reask with lease := { (s.expire s.lease.reask).lease with reask := .off } }

theorem State.reaskEnd_of_on {s : State} (h : s.lease.reask.on = true) :
    s.reaskEnd = s.reaskOver.presentWaiting (some .askBackoff) := if_pos h

/-- A request taken with some entry PRESENT, its status not yet changed. -/
def State.askedBy (r : Request) (s : State) : State :=
  { s with
    lease :=
      { s.lease with
        state := .asking, clock := s.lease.clock + 1, required := s.presentMembers
        ask := some ⟨r.cls, r.abort, s.lease.clock + 1, 1⟩, askTimer := ⟨true, 0, 5000000⟩ }
    lif :=
      { s.lif with ask := if s.listenOnly then s.lif.ask else some ⟨.ask r.cls (s.lease.clock + 1) 1, 0⟩ } }

/-! ## The hold timer (R59) -/

/-- A latch that brings no listen-only, set while no ask is out: the record, the ALERT, and the blocks. -/
theorem State.setLatch_of_quiet {l : Latch} (h : ¬l.mutes) (v : Half) (ch : Option Channel) {s : State}
    (hask : s.lease.state ≠ .asking) :
    s.setLatch l v ch =
      State.blocksAtLatch
        { s with
          trip := s.trip.set l s.crew.phase v ch
          lif := if s.listenOnly then s.lif else { s.lif with alert := some ⟨⟨l.cause, s.crew.phase, v⟩, 0⟩ } } := by
  rw [State.setLatch_eq_blocks, State.noteLatch_of_not_mutes h]
  exact congrArg State.blocksAtLatch (State.askHeld_of_not (.inl hask))

/-- The hold timer stopped at its limit. -/
def State.holdSpent (s : State) : State :=
  { s.expire s.lease.hold with
    lease := { (s.expire s.lease.hold).lease with hold := (s.expire s.lease.hold).lease.hold.spent } }

theorem State.pumpOn_of_held {s : State} (h : s.trip.latches ≠ []) : s.pumpOn = false := by
  rw [State.pumpOn, State.held_of_latches h]
  simp

theorem Latch.leaseOverrun_not_mutes : ¬Latch.leaseOverrun.mutes := by simp [Latch.mutes]

/-- Settles O36: the ask timer by the lemmas on `State.askTimeout` and `State.lapse_eq`, the re-ask delay by
`State.reaskEnd_of_on`, the hold timer by the latch it sets. -/
theorem leaseTimersRunOut : Obligations.LeaseTimersRunOut := by
  refine ⟨fun a s hon hask ha hopen hcount => exec_of_eventOf ((State.askTimerEnd_of_asking hon hask).trans ?_),
    fun a s hon hask ha hanswered => exec_of_eventOf ((State.askTimerEnd_of_asking hon hask).trans ?_),
    fun a r s hon hask ha hopen hcount habort hr => ?_, fun a s hon hask ha hopen hcount habort => ?_,
    fun s hon hnot => exec_of_eventOf ((State.reaskEnd_of_on hon).trans ?_),
    fun r s hon hr hx htake hmembers => ?_, fun s hon hhold hclear => ?_,
    fun r s hon hr hx => exec_of_eventOf ((State.reaskEnd_of_on hon).trans ?_)⟩
  · exact State.askTimeout_of_early (s := s.expire s.lease.askTimer) ha hopen hcount
  · rw [State.askTimeout_of_answered (s := s.expire s.lease.askTimer) hanswered,
      State.sendAsk_of_ask (s := s.expire s.lease.askTimer) ha]
    rfl
  · have hlapse : eventOf .askTimer s = (s.expire s.lease.askTimer).lapsed.setStatus (.waiting (some .askBackoff)) := by
      refine (State.askTimerEnd_of_asking hon hask).trans
        ((State.askTimeout_of_last (s := s.expire s.lease.askTimer) ha hopen hcount).trans
          ((State.lapse_eq _).trans (if_neg ?_)))
      rw [State.askAbort_of_ask (s := s.expire s.lease.askTimer) ha, habort]
      exact Bool.false_ne_true
    have hrequest := State.request_setStatus (.waiting (some .askBackoff)) (s := (s.expire s.lease.askTimer).lapsed)
    obtain ⟨q, b, hform⟩ := State.setStatus_form (.waiting (some .askBackoff)) (s.expire s.lease.askTimer).lapsed
    rw [hform] at hlapse hrequest
    obtain ⟨tx, rails, jack, gtime, ext, window, drives, hfin⟩ := State.finish_form (eventOf .askTimer s)
    rw [hlapse] at hfin
    refine ⟨_, (exec_of_eventOf hlapse).trans (congrArg _ hfin), rfl, rfl, rfl, rfl, rfl, ⟨rfl, rfl⟩, rfl, rfl, rfl, rfl,
      rfl, rfl, rfl, ?_, ?_, rfl, rfl⟩
    · exact hrequest.trans (congrArg (Option.map fun r => { r with status := .waiting (some .askBackoff) }) hr)
    · exact congrArg (fun st => if s.listenOnly then s.lif.ask else some ⟨.withdraw st, 0⟩)
        (State.askStamp_of_ask (s := s.expire s.lease.askTimer) ha)
  · refine exec_of_eventOf ((State.askTimerEnd_of_asking hon hask).trans
      ((State.askTimeout_of_last (s := s.expire s.lease.askTimer) ha hopen hcount).trans
        ((State.lapse_eq _).trans (if_pos ?_))))
    rw [State.askAbort_of_ask (s := s.expire s.lease.askTimer) ha, habort]
  · exact State.presentWaiting_of_not hnot
  · have hend : eventOf .reaskDelayEnd s = s.reaskOver.present :=
      (State.reaskEnd_of_on hon).trans (State.presentWaiting_of_waits (s := s.reaskOver) (State.waitsWith_of_request hr hx))
    have hreask : s.reaskOver.wouldTake r.abort := by
      obtain ⟨hidle, hhold, hheld, hclock, hall, hoff⟩ := htake
      exact ⟨hidle, hhold, hheld, hclock, (State.allPresent_elapse _ s).trans hall, hoff⟩
    have hsome : s.reaskOver.presentMembers ≠ [] := by
      rwa [show s.reaskOver.presentMembers = s.presentMembers from State.presentMembers_elapse _ s]
    have hev := hend.trans ((State.present_of_wouldTake (s := s.reaskOver) hr hreask).trans
      (State.take_of_members (s := s.reaskOver) r hsome))
    have hrequest := State.request_setStatus .taken (s := s.reaskOver.askedBy r)
    obtain ⟨q, b, hform⟩ := State.setStatus_form .taken (s.reaskOver.askedBy r)
    rw [hform] at hrequest
    replace hev := hev.trans hform
    obtain ⟨tx, rails, jack, gtime, ext, window, drives, hfin⟩ := State.finish_form (eventOf .reaskDelayEnd s)
    rw [hev] at hfin
    refine ⟨_, (exec_of_eventOf hev).trans (congrArg _ hfin), rfl, rfl, rfl, rfl, rfl, ⟨rfl, rfl⟩, rfl, rfl, rfl, rfl, ?_⟩
    exact hrequest.trans (congrArg (Option.map fun r => { r with status := .taken }) hr)
  · have hev : eventOf .holdTimerOverrun s = s.holdSpent.setLatch .leaseOverrun 90 none :=
      (if_pos hon).trans (State.latch_of_clear (s := s.holdSpent) hclear 90)
    have hnot : s.holdSpent.lease.state ≠ .asking := LeaseState.not_asking_of_holding hhold
    have hspent : s.holdSpent.lease.hold = ⟨false, s.lease.hold.limit, s.lease.hold.limit⟩ := by
      show (s.lease.hold.tick s.lease.hold.left).spent = _
      rw [Timer.tick_of_on hon]
      rfl
    have hquiet := State.setLatch_of_quiet Latch.leaseOverrun_not_mutes 90 none hnot
    have hlatches := Trip.set_latches_of_not_mem (l := .leaseOverrun) (t := s.trip) hclear s.crew.phase 90 none
    obtain ⟨tx, rails, jack, gtime, ext, window, drives, hfin⟩ :=
      State.finish_form (s.holdSpent.setLatch .leaseOverrun 90 none)
    have hpump : (s.holdSpent.setLatch .leaseOverrun 90 none).finish.drives.pump = false := by
      rw [State.finish_drives_eq]
      refine State.pumpOn_of_held ?_
      rw [State.setLatch_trip]
      exact List.ne_nil_of_mem (Trip.mem_set_latches ..)
    rw [hquiet] at hfin hpump hev
    rw [hfin] at hpump
    refine ⟨_, (exec_of_eventOf hev).trans (congrArg _ hfin), rfl, ?_, rfl, hlatches, hhold, rfl, rfl, hspent, fun hnone => ?_,
      fun honly => ?_, hpump⟩
    · dsimp only [State.blocksAtLatch]
      split <;> rfl
    · exact (Trip.set_firstCause .leaseOverrun s.crew.phase 90 none s.trip).trans (if_pos hnone)
    · exact congrArg Lif.alert (if_neg (by rw [show s.holdSpent.listenOnly = s.listenOnly from rfl, honly]; decide))
  · exact State.presentWaiting_of_waits (State.waitsWith_of_request hr hx)

end Sys2Proof.Machine

/-! The events of placement and of grouting that a command takes (R85 to R88, R90, R99 to R103, R105). -/

namespace Sys2Proof.Machine

/-! ## Placement -/

theorem State.completePlacement_eq (s : State) :
    s.completePlacement =
      { s with
        store := s.store.offer (.placement ⟨s.placement.ropeOut, s.placement.limitEvents, s.placement.slackPauses⟩)
        placement := s.placement.leave
        crew := { s.crew with phase := .grouting }
        grout := s.grout.enter } := by
  rw [State.completePlacement, State.handOver_eq]
  rfl

theorem State.offTimeEnd_of_hold {s : State} (h : s.crew.hold = true) : s.offTimeEnd = s :=
  if_neg (by simp [h])

theorem State.breakInEvent_of_not_due {s : State} (h : s.placement.breakTime < 10 ∨ s.latched .breakIn = true) :
    s.breakInEvent = s := by
  refine if_neg ?_
  unfold State.breakInDue
  rcases h with h | h
  · rw [decide_eq_false (by omega)]
    simp
  · simp [h]

theorem State.cleanDistanceEvent_eq {s : State} (hphase : s.crew.phase = .placing) :
    s.cleanDistanceEvent =
      { s with
        placement :=
          { s.placement with limitCount := if 200 ≤ s.placement.cleanDist then 0 else s.placement.limitCount } } := by
  unfold State.cleanDistanceEvent
  split
  next h => rw [if_pos h.2]; rfl
  next h => rw [if_neg fun hdist => h ⟨hphase, hdist⟩]

theorem State.placementDue_iff (s : State) :
    s.placementDue = true ↔ s.crew.phase = .placing ∧ s.par.tendonLength ≤ s.placement.ropeOut := by
  simp [State.placementDue]

/-- Settles O46: each event by its own test; completion by `State.completePlacement_eq`. -/
theorem placementEvents : Obligations.PlacementEvents := by
  refine ⟨fun s hon hphase hsub hhold => exec_of_eventOf (if_pos ?_), fun s hhold => ?_,
    fun s hphase hsub hslack => exec_of_eventOf (if_pos ?_),
    fun s hphase hdist => exec_of_eventOf (if_pos ⟨hphase, hdist⟩), fun s hphase hrope hbreak => ?_⟩
  · simp [hon, hhold, (State.placeIn_iff s .limitOff).2 ⟨hphase, hsub⟩]
  · exact exec_of_eventOf (State.offTimeEnd_of_hold hhold)
  · simp [hslack, (State.placeIn_iff s .payout).2 ⟨hphase, hsub⟩]
  · refine exec_of_eventOf ((if_pos ((State.placementDue_iff s).2 ⟨hphase, hrope⟩)).trans ?_)
    rw [State.breakInEvent_of_not_due hbreak, State.cleanDistanceEvent_eq hphase, State.completePlacement_eq,
      State.handOver_store]
    rfl

/-! ## Grouting -/

theorem State.volumeDue_iff (s : State) :
    s.volumeDue = true ↔
      s.groutOpen = true ∧ s.grout.testsOpen = true ∧ 10 * s.par.volumeLimit ≤ s.grout.volume := by
  simp [State.volumeDue, and_assoc]

theorem State.volumeDue_of_below {s : State} (h : s.grout.volume < 10 * s.par.volumeLimit) : s.volumeDue = false :=
  Bool.eq_false_iff.2 fun hdue => by
    obtain ⟨-, -, hlimit⟩ := (State.volumeDue_iff s).1 hdue
    omega

theorem State.fillDue_iff (s : State) :
    s.fillDue = true ↔
      s.groutIn .fill = true ∧ s.grout.testsOpen = true
        ∧ s.par.holeVolume * s.par.fillFactor / 10 ≤ s.grout.volume := by
  unfold State.fillDue Binding.fillVolume
  simp [and_assoc]

theorem State.refusalDue_iff (s : State) :
    s.refusalDue = true ↔
      s.groutIn .press = true ∧ s.grout.testsOpen = true ∧ 600 * s.par.refusalTime ≤ s.grout.refusalTime := by
  simp [State.refusalDue, and_assoc]

theorem State.sagDue_iff (s : State) :
    s.sagDue = true ↔
      s.groutOpen = true ∧ 20 ≤ s.grout.sagTime ∧ s.volumeDue = false ∧ s.refusalDue = false := by
  simp [State.sagDue, and_assoc]

theorem State.fillEvent_of_not_due {s : State} (hvolume : s.volumeDue = false) (hfill : s.fillDue = false) :
    s.fillEvent = s := by
  unfold State.fillEvent
  rw [if_neg (by rw [hvolume]; exact Bool.false_ne_true), if_neg (by rw [hfill]; exact Bool.false_ne_true)]

theorem State.fillEvent_of_due {s : State} (hvolume : s.volumeDue = false) (hfill : s.fillDue = true) :
    s.fillEvent = { s with grout := { s.grout with sub := some .press, refusalTime := 0 } } := by
  unfold State.fillEvent
  rw [if_neg (by rw [hvolume]; exact Bool.false_ne_true), if_pos hfill]
  rfl

theorem State.refusalEvent_of_due {s : State} (hvolume : s.volumeDue = false) (hrefusal : s.refusalDue = true) :
    s.refusalEvent = s.endGrouting .refusal := by
  unfold State.refusalEvent
  rw [if_neg (by rw [hvolume]; exact Bool.false_ne_true), if_pos hrefusal]

theorem State.cleanTimeEvent_of_due {s : State} (hopen : s.groutOpen = true) (hclean : 600 ≤ s.grout.cleanTime) :
    s.cleanTimeEvent = { s with grout := { s.grout with yieldCount := 0 } } :=
  if_pos (by simp [hopen, hclean])

/-- The two commands that end grouting with a result of their own. -/
theorem eventOf_end_of_grouting {r : GroutResult} {c : Instr} {s : State} (hphase : s.crew.phase = .grouting)
    (hopen : s.grout.testsOpen = true)
    (h : (c = .volumeLimit ∧ r = .volumeLimit ∧ (s.grout.sub = some .fill ∨ s.grout.sub = some .press)
          ∧ 10 * s.par.volumeLimit ≤ s.grout.volume)
        ∨ (c = .refusal ∧ r = .refusal ∧ s.grout.sub = some .press ∧ s.grout.volume < 10 * s.par.volumeLimit
          ∧ 600 * s.par.refusalTime ≤ s.grout.refusalTime)) :
    eventOf c s = s.endGrouting r := by
  rcases h with ⟨rfl, rfl, hsub, hlimit⟩ | ⟨rfl, rfl, hsub, hbelow, htime⟩
  · exact if_pos ((State.volumeDue_iff s).2 ⟨(State.groutOpen_iff s).2 ⟨hphase, hsub⟩, hopen, hlimit⟩)
  · exact State.refusalEvent_of_due (State.volumeDue_of_below hbelow)
      ((State.refusalDue_iff s).2 ⟨(State.groutIn_iff s .press).2 ⟨hphase, hsub⟩, hopen, htime⟩)

/-- Settles O47: each event by its own test; the ends of grouting by `State.endGrouting_eq`. -/
theorem groutingEvents : Obligations.GroutingEvents := by
  refine ⟨fun s hphase hsub hopen hfill hbelow => exec_of_eventOf (State.fillEvent_of_due
      (State.volumeDue_of_below hbelow)
      ((State.fillDue_iff s).2 ⟨(State.groutIn_iff s .fill).2 ⟨hphase, hsub⟩, hopen, hfill⟩)),
    fun r c s hphase hopen h => ?_, fun s hphase hsub hsag hvolume hrefusal hfill => ?_,
    fun x s hon hphase hsub hleft => ?_, fun s hphase hsub hclean => exec_of_eventOf (State.cleanTimeEvent_of_due
      ((State.groutOpen_iff s).2 ⟨hphase, hsub⟩) hclean)⟩
  · rw [State.handOver_store]
    exact exec_of_eventOf ((eventOf_end_of_grouting hphase hopen h).trans (State.endGrouting_eq r s))
  · have hdue : s.sagDue = true :=
      (State.sagDue_iff s).2 ⟨(State.groutOpen_iff s).2 ⟨hphase, hsub⟩, hsag, hvolume, hrefusal⟩
    refine exec_of_eventOf ((if_pos hdue).trans ?_)
    rw [State.fillEvent_of_not_due hvolume hfill]
    rfl
  · have hin : s.groutIn .yielding = true := (State.groutIn_iff s .yielding).2 ⟨hphase, hsub⟩
    refine exec_of_eventOf ((if_pos (by simp [hon, hin])).trans ?_)
    refine congrArg (fun g => { s.expire s.grout.yieldTimer with grout := g }) ?_
    unfold Grout.resume
    rw [show (s.expire s.grout.yieldTimer).grout.left = some x from hleft]
    rfl

end Sys2Proof.Machine

/-! The ends of a step, of a test and of a top-up from a held lease, and the holds of a test (R120, R124, R125, R131,
R133, R140, R143, R150, R152). -/

namespace Sys2Proof.Machine

/-! ## Hand-overs of a test -/

theorem State.addPoint_of_slot {s : State} {n : Nat} (load : Nat) (ext : Int) (h : s.seq.slot = some n) :
    s.addPoint load ext =
      { s with store := s.store.offer (.point n ⟨s.seq.step, load, ext, s.seq.clock / 1000000⟩) } :=
  State.handTest_of_slot _ h

theorem State.release_of_stressing {s : State} (hphase : s.crew.phase = .stressing) (hstate : s.lease.state = .holding)
    (hrequest : s.request.map Request.status = some .taken) :
    s.release = { s.idled with seq := { s.seq with request := none } } :=
  (State.release_eq s hstate hrequest).trans (State.setRequest_of_stressing (s := s.idled) none hphase)

theorem State.release_of_locked {s : State} (hphase : s.crew.phase = .locked) (hstate : s.lease.state = .holding)
    (hrequest : s.request.map Request.status = some .taken) :
    s.release = { s.idled with aft := { s.aft with request := none } } :=
  (State.release_eq s hstate hrequest).trans (State.setRequest_of_locked (s := s.idled) none hphase)

/-! ## The ends (R124, R131, R133, R140, R150, R152) -/

theorem State.nextStep_eq {s : State} (hphase : s.crew.phase = .stressing) (hstate : s.lease.state = .holding)
    (hrequest : s.request.map Request.status = some .taken) : s.nextStep = s.stepEnded := by
  unfold State.nextStep State.waitLease
  rw [State.release_of_stressing (s := s.onSeq fun q => { q with holdTimer := .off, jack := q.jack.stop }) hphase hstate
    hrequest]
  exact State.ask_of_stressing _ _ hphase

theorem State.endTest_eq {s : State} {n : Nat} {v : Option Verdict} {x : Verdict} (residual : Option Nat) (p : Phase)
    (hv : v = some x) (hphase : s.crew.phase = .stressing) (hstate : s.lease.state = .holding)
    (hrequest : s.request.map Request.status = some .taken) (hslot : s.seq.slot = some n) :
    s.endTest v residual p =
      { s.idled with
        store := s.store.offer (.closing n x residual)
        crew := { s.crew with phase := p }
        seq := { s.seq.leave with request := none } } := by
  subst hv
  unfold State.endTest State.closeTest
  dsimp only
  rw [State.handTest_of_slot _ hslot]
  rw [State.release_of_stressing (s := { s with store := s.store.offer (.closing n x residual) }) hphase hstate hrequest]
  rfl

theorem State.endTest_eq_testEnded {s : State} {n : Nat} {v : Option Verdict} {x : Verdict} (p : Phase)
    (hv : v = some x) (hphase : s.crew.phase = .stressing) (hstate : s.lease.state = .holding)
    (hrequest : s.request.map Request.status = some .taken) (hslot : s.seq.slot = some n) :
    s.endTest v none p = s.testEnded n x p := by
  rw [State.endTest_eq none p hv hphase hstate hrequest hslot, State.testEnded, State.handOver_store]
  rfl

/-- The top-up counted and its entry handed over, the lease still held. -/
def State.topUpCounted (n after : Nat) (ok : Bool) (s : State) : State :=
  { s with
    store := s.store.offer (.topUp n ⟨s.aft.before, after, ok⟩)
    aft := { s.aft with count := s.aft.count + 1 } }

theorem State.endTopUp_eq {s : State} {n : Nat} (after : Nat) (ok : Bool) (hphase : s.crew.phase = .locked)
    (hstate : s.lease.state = .holding) (hrequest : s.request.map Request.status = some .taken)
    (hslot : s.aft.slot = some n) : s.endTopUp after ok = s.topUpEnded n after ok := by
  have hrelease := State.release_of_locked (s := s.topUpCounted n after ok) hphase hstate hrequest
  unfold State.endTopUp
  rw [hslot]
  dsimp only
  rw [State.handOver_eq]
  refine (congrArg (fun t : State => t.onAft _) hrelease).trans ?_
  rw [State.topUpEnded, State.handOver_store]
  rfl

/-- The residual point and LOCKOFF_LOW handed over (R133). -/
def State.residualRead (n : Nat) (s : State) : State :=
  let low := residualLow s.scan.lc.toNat s.stepTarget s.par.lockTol
  let pointed := s.store.offer (.point n ⟨s.seq.step, s.scan.lc.toNat, s.testExt, s.seq.clock / 1000000⟩)
  { s with
    store := if low then pointed.offer (.lockOffLow n) else pointed
    seq := { s.seq with lockOffLow := low || s.seq.lockOffLow } }

theorem residualLow_natCast (lc target tol : Nat) :
    residualLow lc target tol = decide (lc * 100 < target * (100 - tol)) := by
  unfold residualLow
  exact decide_eq_decide.2 (by omega)

theorem State.residualRead_eq {s : State} {n : Nat} (hslot : s.seq.slot = some n) :
    (if residualLow s.scan.lc.toNat s.stepTarget s.par.lockTol then
      ((s.addPoint s.scan.lc.toNat s.testExt).onSeq fun q => { q with lockOffLow := true }).handTest .lockOffLow
    else s.addPoint s.scan.lc.toNat s.testExt) = s.residualRead n := by
  rw [State.addPoint_of_slot _ _ hslot, State.residualRead]
  split
  next hlow =>
    rw [State.handTest_of_slot (s := State.onSeq _ _) (n := n) _ (by exact hslot), hlow]
    rfl
  next hlow =>
    rw [Bool.eq_false_of_not_eq_true hlow]
    rfl

theorem State.completeLockOff_eq {s : State} {n : Nat} (hphase : s.crew.phase = .stressing)
    (hstate : s.lease.state = .holding) (hrequest : s.request.map Request.status = some .taken)
    (hslot : s.seq.slot = some n) : s.completeLockOff = s.lockedOff n := by
  have hend := State.endTest_eq (s := s.residualRead n) (some s.scan.lc.toNat) .locked (v := some .pass) rfl hphase
    hstate hrequest hslot
  unfold State.completeLockOff State.lockedOff
  dsimp only
  rw [State.residualRead_eq hslot, hend, hslot, State.handOver_store, ← residualLow_natCast]
  by_cases hlow : residualLow s.scan.lc.toNat s.stepTarget s.par.lockTol = true
  · rw [if_pos hlow, State.handOver_store, State.handOver_store, State.residualRead, hlow]
    rfl
  · rw [if_neg hlow, State.handOver_store, State.residualRead, Bool.eq_false_of_not_eq_true hlow]
    rfl

/-! ## Holds (R124, R125) -/

theorem State.stepHoldEnd_of_on {s : State} (hphase : s.crew.phase = .stressing) (hsub : s.seq.sub = some .holdLoad)
    (hon : s.seq.holdTimer.on = true) (hstep : s.stepIs .load = true ∨ s.stepIs .unload = true) :
    s.stepHoldEnd =
      ((s.expire s.seq.holdTimer).addPoint (s.expire s.seq.holdTimer).jackLoad
        (s.expire s.seq.holdTimer).testExt).nextStep :=
  if_pos (by rcases hstep with h | h <;> simp [(s.seqIn_iff _).2 ⟨hphase, hsub⟩, hon, h])

theorem State.alignCheck_of_on {s : State} (hphase : s.crew.phase = .stressing) (hsub : s.seq.sub = some .holdLoad)
    (hstep : s.seq.step = 0) (hon : s.seq.holdTimer.on = true) :
    s.alignCheck =
      if (s.scan.ext - s.seq.alignRead).natAbs < 20 ∨ 9 ≤ s.seq.checks then
        (s.elapse (60 * (s.seq.checks + 1) * 1000000 - s.seq.holdTimer.elapsed)).alignEnd
      else
        (s.elapse (60 * (s.seq.checks + 1) * 1000000 - s.seq.holdTimer.elapsed)).onSeq fun q =>
          { q with alignRead := s.scan.ext, checks := q.checks + 1 } :=
  if_pos (by simp [(s.seqIn_iff _).2 ⟨hphase, hsub⟩, hon, hstep])

theorem State.alignEnd_eq {s : State} {n : Nat} (hphase : s.crew.phase = .stressing)
    (hstate : s.lease.state = .holding) (hrequest : s.request.map Request.status = some .taken)
    (hslot : s.seq.slot = some n) :
    s.alignEnd =
      State.stepEnded
        { s with
          seq := { s.seq with datum := some s.scan.ext }
          store := s.store.offer (.point n ⟨s.seq.step, s.jackLoad, 0, s.seq.clock / 1000000⟩) } := by
  unfold State.alignEnd
  rw [State.addPoint_of_slot (s := State.onSeq _ _) (n := n) _ _ (by exact hslot)]
  exact State.nextStep_eq (s := State.mk ..) hphase hstate hrequest

/-- WAIT_LEASE of the next step with the lease released and the ADVANCE request not yet presented. -/
def State.stepAsked (s : State) : State :=
  { s.idled with
    seq :=
      { s.seq with
        holdTimer := .off, jack := { s.seq.jack with ramp := .off, raise := false, lower := false }
        step := s.seq.step + 1, sub := some .waitLease, request := some ⟨.advance, false, .waiting none⟩ } }

theorem State.stepEnded_eq_present (s : State) : s.stepEnded = s.stepAsked.present := rfl

theorem State.stepEnded_of_members {s : State} (hphase : s.crew.phase = .stressing)
    (htake : { s with lease := { s.lease with state := .idle } }.wouldTake false) (hmembers : s.presentMembers ≠ []) :
    s.stepEnded =
      { s.idled with
        seq :=
          { s.seq with
            holdTimer := .off, jack := { s.seq.jack with ramp := .off, raise := false, lower := false }
            step := s.seq.step + 1, sub := some .waitLease, request := some ⟨.advance, false, .taken⟩ }
        lease :=
          { s.idled.lease with
            state := .asking, clock := s.lease.clock + 1, required := s.presentMembers
            ask := some ⟨.advance, false, s.lease.clock + 1, 1⟩, askTimer := ⟨true, 0, 5000000⟩ }
        lif :=
          { s.idled.lif with
            ask := if s.listenOnly then s.lif.ask else some ⟨.ask .advance (s.lease.clock + 1) 1, 0⟩ } } := by
  rw [State.stepEnded_eq_present,
    State.present_of_wouldTake (s := s.stepAsked) (r := ⟨.advance, false, .waiting none⟩) (if_pos hphase) htake,
    State.take_of_members (s := s.stepAsked) _ hmembers]
  refine (State.setStatus_of_stressing _ ?_).trans rfl
  exact hphase

/-- Settles O49: the ends of the holds by `State.nextStep_eq`, the request they present by
`State.stepEnded_of_members`. -/
theorem holdsOfATestEnd : Obligations.HoldsOfATestEnd := by
  refine ⟨fun n s hphase hsub hon hstep hslot hstate hrequest => ?_,
    fun n s hphase hsub hstep hon hslot hends hstate hrequest => ?_,
    fun s hphase hsub hstep hon hmoved hchecks => ?_, fun s htake hmembers hphase => ?_⟩
  · refine exec_of_eventOf ((State.stepHoldEnd_of_on hphase hsub hon hstep).trans ?_)
    rw [State.addPoint_of_slot (s := s.expire _) _ _ hslot, State.handOver_store]
    exact State.nextStep_eq (s := State.mk ..) hphase hstate hrequest
  · refine exec_of_eventOf ((State.alignCheck_of_on hphase hsub hstep hon).trans ((if_pos hends).trans ?_))
    rw [State.handOver_store, ← hstep]
    exact State.alignEnd_eq (s := s.elapse _) hphase hstate hrequest hslot
  · exact exec_of_eventOf ((State.alignCheck_of_on hphase hsub hstep hon).trans (if_neg (by omega)))
  · rw [State.stepEnded_of_members hphase htake hmembers]
    have hgrants := State.grantedInIdle_of_grantsAll (State.grantsAll_of_stressing hphase)
    exact ⟨rfl, rfl, rfl, rfl, rfl, rfl, rfl, hgrants.2, fun hlisten => if_neg (by rw [hlisten]; exact Bool.false_ne_true)⟩

end Sys2Proof.Machine

/-! The readings of the proof hold and their checks (R126, R127, R128, R129). -/

namespace Sys2Proof.Machine

/-! ## A reading -/

theorem State.proofReading_of_due {s : State} {k mark : Nat} (hphase : s.crew.phase = .stressing)
    (hsub : s.seq.sub = some .holdLoad) (hproof : s.stepIs .proof = true) (hon : s.seq.holdTimer.on = true)
    (hk : s.seq.readings = k) (hmark : [60, 120, 180, 300, 600, 900, 1200, 1800, 2700, 3600][k]? = some mark)
    (hgoes : k < 6 ∨ s.seq.extended = true) :
    s.proofReading = (s.elapse (mark * 1000000 - s.seq.holdTimer.elapsed)).takeReading (k + 1) := by
  subst hk
  unfold State.proofReading
  rw [show Config.proofSchedule[s.seq.readings]? = some mark from hmark]
  exact if_pos (by rcases hgoes with h | h <;> simp [(s.seqIn_iff _).2 ⟨hphase, hsub⟩, hproof, hon, h])

/-- The reading `k + 1` taken, before its check (R126). -/
def State.readingTaken (n k : Nat) (s : State) : State :=
  { s with
    store := s.store.offer (.point n ⟨s.seq.step, s.jackLoad, s.testExt, s.seq.clock / 1000000⟩)
    seq :=
      { s.seq with
        readings := k + 1, ext5 := if k = 3 then some s.testExt else s.seq.ext5
        ext15 := if k = 5 then some s.testExt else s.seq.ext15 } }

theorem State.takeReading_eq {s : State} {n : Nat} (k : Nat) (hslot : s.seq.slot = some n) :
    s.takeReading (k + 1) = (s.readingTaken n k).proofCheck (k + 1) := by
  have h4 : (k + 1 = 4) = (k = 3) := propext (by omega)
  have h6 : (k + 1 = 6) = (k = 5) := propext (by omega)
  unfold State.takeReading State.readingTaken
  rw [State.addPoint_of_slot _ _ hslot]
  simp only [h4, h6]
  rfl

/-! ## The checks (R127, R128, R129) -/

theorem State.proofCheck_of_none {k : Nat} (s : State) (h : k ≠ 0 ∧ k ≠ 5 ∧ k ≠ 9) : s.proofCheck (k + 1) = s := by
  obtain ⟨h0, h5, h9⟩ := h
  unfold State.proofCheck
  rw [if_neg (by omega), if_neg (by omega), if_neg (by omega)]

theorem State.extInWindow_iff (s : State) :
    s.extInWindow = true ↔ (s.par.extMin : Int) ≤ s.testExt ∧ s.testExt ≤ (s.par.extMax : Int) := by
  simp [State.extInWindow]

theorem State.proofCheck_of_inside {s : State} (h : (s.par.extMin : Int) ≤ s.testExt ∧ s.testExt ≤ (s.par.extMax : Int)) :
    s.proofCheck 1 = s := if_pos (s.extInWindow_iff.2 h)

theorem State.proofCheck_of_outside {s : State}
    (h : s.testExt < (s.par.extMin : Int) ∨ (s.par.extMax : Int) < s.testExt) :
    s.proofCheck 1 = s.failProof .failExtension := by
  have hout : ¬s.extInWindow = true := by
    rw [s.extInWindow_iff]
    omega
  exact if_neg hout

theorem State.proofCheck_extends {s : State} {n : Nat} (hslot : s.seq.slot = some n)
    (h : (s.par.creepLimit : Int) < s.testExt - s.seq.ext5.getD 0) :
    s.proofCheck 6 =
      { s with seq := { s.seq with extended := true }, store := s.store.offer (.extended n) } := by
  refine (if_neg (Int.not_le.2 h)).trans ?_
  exact State.handTest_of_slot (s := State.onSeq _ _) _ hslot

theorem State.proofCheck_fails {s : State} (h : (s.par.creepLimit : Int) < s.testExt - s.seq.ext15.getD 0) :
    s.proofCheck 10 = s.failProof .failCreep := if_neg (Int.not_le.2 h)

/-- A creep at or below the limit ends the hold. -/
theorem State.proofCheck_ends {k : Nat} {s : State}
    (h : k = 5 ∧ s.testExt - s.seq.ext5.getD 0 ≤ (s.par.creepLimit : Int)
      ∨ k = 9 ∧ s.testExt - s.seq.ext15.getD 0 ≤ (s.par.creepLimit : Int)) :
    s.proofCheck (k + 1) = s.nextStep := by
  rcases h with ⟨rfl, h⟩ | ⟨rfl, h⟩ <;> exact if_pos h

/-- Settles O50: the reading by `State.takeReading_eq`, then the lemma of its check. -/
theorem proofReadingsAndTheirChecks : Obligations.ProofReadingsAndTheirChecks := by
  intro n k mark s hphase hsub hproof hon hslot hk hmark hgoes hstate hrequest u point w failed
  have hev : eventOf .proofReading s = (u.readingTaken n k).proofCheck (k + 1) :=
    (State.proofReading_of_due hphase hsub hproof hon hk hmark hgoes).trans (State.takeReading_eq k hslot)
  have hw : u.readingTaken n k = w := by
    show _ = State.mk ..
    rw [State.handOver_store]
    rfl
  rw [hw] at hev
  refine ⟨fun h => exec_of_eventOf (hev.trans ?_), fun h hext => exec_of_eventOf (hev.trans ?_),
    fun h hcreep => exec_of_eventOf (hev.trans ?_), fun h hcreep => exec_of_eventOf (hev.trans ?_),
    fun h => exec_of_eventOf (hev.trans ?_)⟩
  · rcases h with h | ⟨rfl, h⟩
    · exact State.proofCheck_of_none w h
    · exact State.proofCheck_of_inside (s := w) h
  · subst h
    exact State.proofCheck_of_outside (s := w) hext
  · subst h
    refine (State.proofCheck_extends (s := w) hslot hcreep).trans ?_
    rw [State.handOver_store (.extended n) (s.handOver point)]
  · subst h
    exact State.proofCheck_fails (s := w) hcreep
  · refine (State.proofCheck_ends (s := w) ?_).trans (State.nextStep_eq (s := w) hphase hstate hrequest)
    rcases h with ⟨rfl, h⟩ | ⟨rfl, h⟩
    · exact .inl ⟨rfl, h⟩
    · exact .inr ⟨rfl, h⟩

end Sys2Proof.Machine

/-! The end of a seating stroke and of a settle, in a test and in a top-up (R117, R118, R132, R133, R143, R150). -/

namespace Sys2Proof.Machine

/-! ## Seating (R117, R150) -/

theorem State.seatingEnd_of_on {s : State} (hphase : s.crew.phase = .stressing) (hsub : s.seq.sub = some .seating)
    (hon : s.seq.jack.seating.on = true) :
    s.seatingEnd = (s.expire s.seq.jack.seating).enterUnload .release :=
  if_pos (by simp [(s.seqIn_iff _).2 ⟨hphase, hsub⟩, hon])

theorem State.settleEnd_of_on {s : State} (hphase : s.crew.phase = .stressing) (hsub : s.seq.sub = some .settle)
    (hon : s.seq.jack.settle.on = true) :
    s.settleEnd =
      if s.seq.jack.readDue then
        ((s.expire s.seq.jack.settle).onSeq fun q => { q with jack := q.jack.endSettle }).completeLockOff
      else (s.expire s.seq.jack.settle).onSeq fun q => { q with jack := q.jack.endSettle } :=
  if_pos (by simp [(s.seqIn_iff _).2 ⟨hphase, hsub⟩, hon])

/-- The store after lock-off: the residual point, LOCKOFF_LOW where it is due, and the closing (R133). -/
def State.lockOffStore (n : Nat) (s : State) : Store :=
  let residual := s.scan.lc.toNat
  let pointed := s.store.offer (.point n
    ⟨s.seq.step, residual, s.scan.ext - s.seq.datum.getD 0, s.seq.clock / 1000000⟩)
  (if residual * 100 < s.stepTarget * (100 - s.par.lockTol) then pointed.offer (.lockOffLow n) else pointed).offer
    (.closing n .pass (some residual))

theorem State.lockedOff_store (n : Nat) (s : State) : (s.lockedOff n).store = s.lockOffStore n := by
  unfold State.lockedOff State.lockOffStore
  simp only [State.handOver_store, decide_eq_true_eq]
  split <;> simp only [State.handOver_store]

theorem State.lockedOff_eta (n : Nat) (s : State) : s.lockedOff n = { s.lockedOff n with store := s.lockOffStore n } := by
  rw [← State.lockedOff_store]

/-- What remains of a test after lock-off does not depend on its jack. -/
theorem State.lockedOff_of_jack {n : Nat} {s t : State} (j : Jack)
    (h : t = { s with seq := { s.seq with jack := j } }) : t.lockedOff n = s.lockedOff n := by
  subst h
  rw [State.lockedOff_eta, State.lockedOff_eta n s]
  rfl

/-- Settles O52: the seating stroke ends in the unload of the lock-off; the settle ends in `State.completeLockOff_eq`
where a scan is to be read. -/
theorem lockOffSeatsAndSettles : Obligations.LockOffSeatsAndSettles := by
  refine ⟨fun s hphase hsub hon => ?_, fun n s hphase hsub hon hread hslot hstate hrequest => ?_,
    fun s hphase hsub hon hread => ?_, fun n s => ?_⟩
  · have hev : eventOf .seatingEnd s = _ := State.seatingEnd_of_on hphase hsub hon
    have hdrive : (eventOf .seatingEnd s).finish.drives.seating = false := by
      rw [State.finish_drives_eq, hev]
      refine Bool.eq_false_iff.2 fun h => ?_
      rcases (State.seatingOn_rule _).1 h with ⟨-, hrelease⟩ | ⟨hlocked, -⟩
      · exact absurd hrelease (by decide : some SeqSub.release ≠ some .seating)
      · exact absurd (hphase.symm.trans hlocked) (by decide)
    obtain ⟨tx, rails, jack, gtime, ext, window, drives, hfin⟩ := State.finish_form (eventOf .seatingEnd s)
    rw [hfin] at hdrive
    rw [hev] at hfin
    exact ⟨_, (exec_of_eventOf hev).trans (congrArg _ hfin), rfl, rfl, rfl, ⟨rfl, rfl⟩, rfl, hdrive, rfl, rfl, rfl, rfl, rfl,
      rfl⟩
  · refine exec_of_eventOf ((State.settleEnd_of_on hphase hsub hon).trans ((if_pos hread).trans ?_))
    refine (State.completeLockOff_eq (n := n) ?_ ?_ ?_ ?_).trans (State.lockedOff_of_jack _ rfl)
    · exact hphase
    · exact hstate
    · exact hrequest
    · exact hslot
  · refine exec_of_eventOf ((State.settleEnd_of_on hphase hsub hon).trans (if_neg ?_))
    rw [hread]
    exact Bool.false_ne_true
  · intro low u w t
    have hstore : t.store = (w.handOver (.closing n .pass (some s.scan.lc.toNat))).store := by
      show (s.lockedOff n).store = _
      rw [State.lockedOff_store, State.handOver_store]
      unfold State.lockOffStore w
      dsimp only
      split
      · rw [State.handOver_store, State.handOver_store]
      · rw [State.handOver_store]
    refine ⟨hstore, rfl, rfl, rfl, fun hphase => ?_, rfl, rfl, rfl, rfl, fun hlow => ?_, rfl, rfl, rfl, rfl, rfl, rfl, rfl,
      rfl, rfl, rfl⟩
    · exact (State.grantedInIdle_of_grantsAll (State.grantsAll_of_stressing hphase)).2
    · show (decide low || s.seq.lockOffLow) = true
      rw [decide_eq_true hlow, Bool.true_or]

end Sys2Proof.Machine

/-! The events of aftercare: a low residual found, a recovery, and the end of a top-up's seating and settle (R44, R144,
R145, R147, R150, R153). -/

namespace Sys2Proof.Machine

/-! ## A low residual (R144, R145, R153) -/

theorem State.lowDue_iff (s : State) :
    s.lowDue = true ↔
      s.crew.phase = .locked ∧ s.aft.sub = some .watch ∧ s.aft.lossExcess = false ∧ 0 < s.aft.lowTime
        ∧ s.par.topUpScans ≤ s.aft.lowTime := by
  simp [State.lowDue, and_assoc]

/-- PENDING entered, the request not yet made (R145). -/
def State.pendingEntered (s : State) : State :=
  { s with aft := { s.aft with sub := some .pending, lowTime := 0, recovery := 0 } }

theorem State.lowEvent_of_due {s : State} (hdue : s.lowDue = true) (hcount : s.aft.count < 3) :
    s.lowEvent = s.pendingEntered.askSlot := (if_pos hdue).trans (if_pos hcount)

theorem State.lowEvent_of_last {s : State} (hdue : s.lowDue = true) (hcount : s.aft.count = 3) :
    s.lowEvent = s.raiseLossExcess := (if_pos hdue).trans (if_neg (by omega))

theorem State.askSlot_of_slot {s : State} (hphase : s.crew.phase = .locked) (hslot : s.aft.slot ≠ none) :
    s.askSlot = s.topUpAsked.present := by
  obtain ⟨n, hn⟩ := Option.ne_none_iff_exists'.1 hslot
  have hopen : s.openTopUpSlot = s := by
    unfold State.openTopUpSlot
    rw [hn]
  unfold State.askSlot
  rw [hopen]
  exact (if_pos (by rw [hn]; rfl)).trans (State.ask_of_locked .restore false hphase)

theorem State.openSlot_pendingEntered_store (k : SlotKind) (n : Nat) (s : State) :
    (s.pendingEntered.openSlot k n).store = (s.openSlot k n).store := by
  rw [State.openSlot, State.openSlot, State.handOver_store, State.handOver_store]
  rfl

theorem State.raiseLossExcess_of_slot {s : State} {n : Nat} (hslot : s.aft.slot = some n) :
    s.raiseLossExcess =
      { s with
        aft := { s.aft with lowTime := 0, lossExcess := true }
        store := s.store.offer (.lossExcess n)
        lif :=
          { s.lif with
            alert :=
              if s.listenOnly then s.lif.alert
              else some ⟨⟨.lossExcess, .locked, BitVec.ofNat 16 s.scan.lc.toNat⟩, 0⟩ } } := by
  unfold State.raiseLossExcess
  rw [hslot]
  dsimp only
  rw [State.handOver_eq, State.placeAlert_eq]
  rfl

theorem State.raiseLossExcess_of_none {s : State} (hslot : s.aft.slot = none) :
    s.raiseLossExcess =
      { s with
        aft := { s.aft with lowTime := 0, lossExcess := true }
        lif :=
          { s.lif with
            alert :=
              if s.listenOnly then s.lif.alert
              else some ⟨⟨.lossExcess, .locked, BitVec.ofNat 16 s.scan.lc.toNat⟩, 0⟩ } } := by
  unfold State.raiseLossExcess
  rw [hslot]
  dsimp only
  rw [State.placeAlert_eq]
  rfl

/-! ## A recovery with the ask out (R44, R147) -/

/-- The ask withdrawn and the top-up given up, what R44 grants in WATCH not yet granted. -/
def State.pendingDropped (s : State) : State :=
  { s.withdrawn with aft := { s.aft with sub := some .watch, request := none, lowTime := 0, recovery := 0 } }

theorem State.recoveryEvent_of_asking {s : State} (hdue : s.recoveryDue = true) (hask : s.lease.state = .asking) :
    s.recoveryEvent =
      { s with
        aft := { s.aft with sub := some .watch, request := none, lowTime := 0, recovery := 0 }
        lease :=
          { s.lease with
            state := .idle, ask := none, required := [], askTimer := .off, hold := .off, deferred := [] }
        lif :=
          { s.lif with
            ask := if s.listenOnly then s.lif.ask else some ⟨.withdraw s.askStamp, 0⟩
            batch := s.pendingDropped.batchGranting s.keptInIdle } } := by
  have hphase : s.crew.phase = .locked := (State.pending_of_recoveryDue hdue).1.1
  refine (if_pos hdue).trans ?_
  rw [State.withdrawGone_eq s hask, State.setRequest_of_locked (s := s.withdrawn) none hphase]
  exact State.grantDeferred_of_grantsAll (s := s.pendingDropped) rfl (State.grantsAll_of_watch hphase rfl)

/-- In PENDING the RESTORE entries are granted as the lease enters IDLE, the rest as WATCH is taken up. -/
theorem State.grantedInIdle_of_pending {s : State} (hphase : s.crew.phase = .locked)
    (hsub : s.aft.sub = some .pending) :
    s.grantedInIdle = (s.lease.deferred.filter fun d => d.cls == .restore)
      ∧ s.keptInIdle = s.lease.deferred.filter fun d => !(d.cls == .restore) := by
  have hfresh : ¬(s.crew.phase = .grouting ∨ s.crew.phase = .setting) := by rw [hphase]; decide
  exact ⟨(if_neg hfresh).trans (if_pos ⟨hphase, hsub⟩), (if_neg hfresh).trans (if_pos ⟨hphase, hsub⟩)⟩

theorem State.batchGranting_of_heard {s : State} (h : s.listenOnly = false) (ds : List Deferred) :
    s.batchGranting ds =
      { s.lif.batch with
        frame := ds.foldl (fun es d => putReply ⟨d.number, d.stamp, .grant, .none⟩ es) s.lif.batch.frame } :=
  if_neg (by rw [h]; exact Bool.false_ne_true)

theorem State.batchGranting_of_listenOnly {s : State} (h : s.listenOnly = true) (ds : List Deferred) :
    s.batchGranting ds = s.lif.batch := if_pos h

theorem State.batch_pendingDropped_of_heard {s : State} (hphase : s.crew.phase = .locked)
    (hsub : s.aft.sub = some .pending) (hheard : s.listenOnly = false) :
    s.pendingDropped.batchGranting s.keptInIdle =
      { s.lif.batch with
        frame :=
          ((s.lease.deferred.filter fun d => d.cls == .restore)
              ++ s.lease.deferred.filter fun d => !(d.cls == .restore)).foldl
            (fun es d => putReply ⟨d.number, d.stamp, .grant, .none⟩ es) s.lif.batch.frame } := by
  obtain ⟨hgranted, hkept⟩ := State.grantedInIdle_of_pending hphase hsub
  have hbatch : s.pendingDropped.lif.batch = s.batchGranting s.grantedInIdle := rfl
  rw [State.batchGranting_of_heard (s := s.pendingDropped) hheard, hbatch, hgranted, hkept,
    State.batchGranting_of_heard hheard, List.foldl_append]

theorem State.batch_pendingDropped_of_listenOnly {s : State} (hlisten : s.listenOnly = true) :
    s.pendingDropped.batchGranting s.keptInIdle = s.lif.batch :=
  (State.batchGranting_of_listenOnly (s := s.pendingDropped) hlisten _).trans
    (State.batchGranting_of_listenOnly hlisten _)

/-! ## The end of a seating stroke and of a settle (R150) -/

theorem State.topUpSeatingEnd_of_on {s : State} (hphase : s.crew.phase = .locked) (hsub : s.aft.sub = some .topUp)
    (hstage : s.aft.stage = some .seating) (hon : s.aft.jack.seating.on = true) :
    s.topUpSeatingEnd = (s.expire s.aft.jack.seating).enterTopUpUnload .release :=
  if_pos (by simp [(State.stageIn_iff s .seating).2 ⟨hphase, hsub, hstage⟩, hon])

theorem State.topUpSettleEnd_of_on {s : State} (hphase : s.crew.phase = .locked) (hsub : s.aft.sub = some .topUp)
    (hstage : s.aft.stage = some .settle) (hon : s.aft.jack.settle.on = true) :
    s.topUpSettleEnd =
      if s.aft.jack.readDue then
        ((s.expire s.aft.jack.settle).onAft fun a => { a with jack := a.jack.endSettle }).completeTopUp
      else (s.expire s.aft.jack.settle).onAft fun a => { a with jack := a.jack.endSettle } :=
  if_pos (by simp [(State.stageIn_iff s .settle).2 ⟨hphase, hsub, hstage⟩, hon])

/-- What remains of a top-up does not depend on its jack. -/
theorem State.topUpEnded_of_jack {n after : Nat} {ok : Bool} {s t : State} (j : Jack)
    (h : t = { s with aft := { s.aft with jack := j } }) : t.topUpEnded n after ok = s.topUpEnded n after ok := by
  subst h
  rw [State.topUpEnded, State.topUpEnded, State.handOver_store, State.handOver_store]
  rfl

/-- Settles O53: PENDING by `State.lowEvent_of_due`, the loss excess by `State.lowEvent_of_last`, the recovery by
`State.recoveryEvent_of_idle` and `State.recoveryEvent_of_asking`, the settle by `State.endTopUp_eq`. -/
theorem aftercareEvents : Obligations.AftercareEvents := by
  refine ⟨fun n s hphase hsub hexcess hlow htime hcount hslot htake hmembers => ?_,
    fun n s hphase hsub hexcess hlow htime hcount hslot => exec_of_eventOf ?_,
    fun s hphase hsub hrec htime hidle => ?_, fun s hphase hsub hstage hon => ?_,
    fun n s hphase hsub hstage hon hread hslot hstate hrequest => exec_of_eventOf ?_,
    fun s hphase hsub hstage hon hread => exec_of_eventOf ?_,
    fun s hphase hsub hexcess hlow htime hcount => ⟨fun hslot => exec_of_eventOf ?_,
      fun m hslot hchoose => exec_of_eventOf ?_, fun hslot hchoose => exec_of_eventOf ?_⟩,
    fun s hphase hsub hexcess hlow htime hcount hslot => exec_of_eventOf ?_,
    fun s hphase hsub hrec htime hask hheard => exec_of_eventOf ?_,
    fun s hphase hsub hask hrec htime hlisten => exec_of_eventOf ?_⟩
  · have hdue := s.lowDue_iff.2 ⟨hphase, hsub, hexcess, hlow, htime⟩
    have hev : eventOf .lowTimeReached s = _ := (State.lowEvent_of_due hdue hcount).trans
      ((State.askSlot_of_slot (s := s.pendingEntered) hphase (by rw [State.pendingEntered, hslot]; nofun)).trans
        (State.topUpAsked_present_of_members (s := s.pendingEntered) hphase htake hmembers))
    obtain ⟨tx, rails, jack, gtime, ext, window, drives, hfin⟩ := State.finish_form (eventOf .lowTimeReached s)
    rw [hev] at hfin
    exact ⟨_, (exec_of_eventOf hev).trans (congrArg _ hfin), rfl, rfl, rfl, rfl, ⟨rfl, rfl⟩, rfl, rfl, rfl, rfl, rfl, rfl, rfl,
      rfl, rfl, rfl⟩
  · rw [State.handOver_store]
    exact (State.lowEvent_of_last (s.lowDue_iff.2 ⟨hphase, hsub, hexcess, hlow, htime⟩) hcount).trans
      (State.raiseLossExcess_of_slot hslot)
  · have hdue : s.recoveryDue = true :=
      s.recoveryDue_iff.2 ⟨s.pendingTopUp_iff.2 ⟨hphase, hsub⟩, hrec, htime, by rw [hidle]; decide⟩
    have hev : eventOf .recoveryTimeReached s = _ := State.recoveryEvent_of_idle hdue hidle
    obtain ⟨tx, rails, jack, gtime, ext, window, drives, hfin⟩ := State.finish_form (eventOf .recoveryTimeReached s)
    rw [hev] at hfin
    exact ⟨_, (exec_of_eventOf hev).trans (congrArg _ hfin), rfl, rfl, rfl, rfl, ⟨rfl, rfl⟩, rfl, rfl, rfl, rfl, rfl, hidle,
      rfl, rfl, rfl⟩
  · have hev : eventOf .topupSeatingEnd s = _ := State.topUpSeatingEnd_of_on hphase hsub hstage hon
    have hdrive : (eventOf .topupSeatingEnd s).finish.drives.seating = false := by
      rw [State.finish_drives_eq, hev]
      refine Bool.eq_false_iff.2 fun h => ?_
      rcases (State.seatingOn_rule _).1 h with ⟨hstressing, -⟩ | ⟨-, -, hrelease⟩
      · exact absurd (hphase.symm.trans hstressing) (by decide)
      · exact absurd hrelease (by decide : some TopUpStage.release ≠ some .seating)
    obtain ⟨tx, rails, jack, gtime, ext, window, drives, hfin⟩ := State.finish_form (eventOf .topupSeatingEnd s)
    rw [hfin] at hdrive
    rw [hev] at hfin
    exact ⟨_, (exec_of_eventOf hev).trans (congrArg _ hfin), rfl, rfl, rfl, ⟨rfl, rfl⟩, hsub, rfl, rfl, rfl, hdrive, rfl⟩
  · refine (State.topUpSettleEnd_of_on hphase hsub hstage hon).trans ((if_pos hread).trans ?_)
    refine (State.endTopUp_eq (n := n) _ true ?_ ?_ ?_ ?_).trans (State.topUpEnded_of_jack _ rfl)
    · exact hphase
    · exact hstate
    · exact hrequest
    · exact hslot
  · refine (State.topUpSettleEnd_of_on hphase hsub hstage hon).trans (if_neg ?_)
    rw [hread]
    exact Bool.false_ne_true
  · exact (State.lowEvent_of_due (s.lowDue_iff.2 ⟨hphase, hsub, hexcess, hlow, htime⟩) hcount).trans
      (State.askSlot_of_slot (s := s.pendingEntered) hphase hslot)
  · refine (State.lowEvent_of_due (s.lowDue_iff.2 ⟨hphase, hsub, hexcess, hlow, htime⟩) hcount).trans ?_
    rw [← State.openSlot_pendingEntered_store]
    exact State.askSlot_some (s := s.pendingEntered) hphase hslot hchoose
  · exact (State.lowEvent_of_due (s.lowDue_iff.2 ⟨hphase, hsub, hexcess, hlow, htime⟩) hcount).trans
      (State.askSlot_none (s := s.pendingEntered) hslot hchoose)
  · exact (State.lowEvent_of_last (s.lowDue_iff.2 ⟨hphase, hsub, hexcess, hlow, htime⟩) hcount).trans
      (State.raiseLossExcess_of_none hslot)
  · have hdue : s.recoveryDue = true :=
      s.recoveryDue_iff.2 ⟨s.pendingTopUp_iff.2 ⟨hphase, hsub⟩, hrec, htime, by rw [hask]; decide⟩
    refine (State.recoveryEvent_of_asking hdue hask).trans ?_
    rw [State.batch_pendingDropped_of_heard hphase hsub hheard, if_neg (by rw [hheard]; exact Bool.false_ne_true)]
  · have hdue : s.recoveryDue = true :=
      s.recoveryDue_iff.2 ⟨s.pendingTopUp_iff.2 ⟨hphase, hsub⟩, hrec, htime, by rw [hask]; decide⟩
    refine (State.recoveryEvent_of_asking hdue hask).trans ?_
    rw [State.batch_pendingDropped_of_listenOnly hlisten, if_pos hlisten]

end Sys2Proof.Machine

/-! The ramp limit and the unload limit (R118, R123, R136, R149, R150, R151, R160, R166). -/

namespace Sys2Proof.Machine

/-! ## RAMP_STALL with no ask out -/

theorem Latch.rampStall_not_mutes : ¬Latch.rampStall.mutes := by simp [Latch.mutes]

/-- A latch announced by its ALERT, before the blocks act. -/
def State.alerted (l : Latch) (v : Half) (s : State) : State :=
  { s with
    trip := s.trip.set l s.crew.phase v none
    lif := { s.lif with alert := if s.listenOnly then s.lif.alert else some ⟨⟨l.cause, s.crew.phase, v⟩, 0⟩ } }

theorem State.latch_of_quiet {l : Latch} (h : ¬l.mutes) (v : Half) {s : State} (hclear : s.latched l = false)
    (hask : s.lease.state ≠ .asking) : s.latch l v = (s.alerted l v).blocksAtLatch := by
  rw [State.latch_of_clear hclear, State.setLatch_of_quiet h v none hask, State.alerted]
  split <;> rfl

theorem State.latch_in_stressing {l : Latch} (h : ¬l.mutes) (v : Half) {s : State} (hclear : s.latched l = false)
    (hask : s.lease.state ≠ .asking) (hphase : s.crew.phase = .stressing) :
    s.latch l v = { s.alerted l v with seq := s.seq.atLatch } := by
  have hphase' : (s.alerted l v).crew.phase = .stressing := hphase
  rw [State.latch_of_quiet h v hclear hask, State.blocksAtLatch, hphase']
  rfl

theorem State.latch_in_locked {l : Latch} (h : ¬l.mutes) (v : Half) {s : State} (hclear : s.latched l = false)
    (hask : s.lease.state ≠ .asking) (hphase : s.crew.phase = .locked) :
    s.latch l v = { s.alerted l v with aft := s.aft.atLatch } := by
  have hphase' : (s.alerted l v).crew.phase = .locked := hphase
  rw [State.latch_of_quiet h v hclear hask, State.blocksAtLatch, hphase']
  rfl

theorem Seq.atLatch_of_moving {q : Seq} (h : q.sub = some .ramp ∨ q.sub = some .holdLoad) :
    q.atLatch = { q with tripMark := true, sub := some .halted, holdTimer := .off, jack := q.jack.stop } := if_pos h

theorem Seq.atLatch_of_unloading {q : Seq}
    (h : q.sub = some .release ∨ q.sub = some .failUnload ∨ q.sub = some .abortUnload) :
    q.atLatch = { q with tripMark := true } := if_neg (by rcases h with h | h | h <;> rw [h] <;> decide)

theorem Aft.atLatch_of_unloading {a : Aft} (h : a.stage = some .release ∨ a.stage = some .abortUnload) :
    a.atLatch = a := if_neg (by rcases h with h | h <;> rw [h] <;> simp)

/-! ## The timers that run (R118, R123, R149, R150) -/

theorem State.rampTimerLimit_of_timer {s : State} {t : Timer} (h : s.rampTimer = some t) :
    s.rampTimerLimit = (s.expire t).latch .rampStall (BitVec.ofNat 16 s.jackLoad) := by
  unfold State.rampTimerLimit
  rw [h]
  rfl

theorem State.rampTimer_of_test {s : State} (hhold : s.crew.hold = false) (hphase : s.crew.phase = .stressing)
    (hsub : s.seq.sub = some .ramp) (hon : s.seq.jack.ramp.on = true) : s.rampTimer = some s.seq.jack.ramp := by
  unfold State.rampTimer
  rw [if_neg (by rw [hhold]; exact Bool.false_ne_true),
    if_pos (by rw [(s.seqIn_iff _).2 ⟨hphase, hsub⟩, hon]; rfl)]

theorem State.seqIn_of_locked {s : State} (hphase : s.crew.phase = .locked) (x : SeqSub) : s.seqIn x = false :=
  Bool.eq_false_iff.2 fun h => absurd (hphase.symm.trans ((s.seqIn_iff x).1 h).1) (by decide)

theorem State.rampTimer_of_topUp {s : State} (hhold : s.crew.hold = false) (hphase : s.crew.phase = .locked)
    (hsub : s.aft.sub = some .topUp) (hstage : s.aft.stage = some .lift ∨ s.aft.stage = some .ramp)
    (hon : s.aft.jack.ramp.on = true) : s.rampTimer = some s.aft.jack.ramp := by
  unfold State.rampTimer
  rw [if_neg (by rw [hhold]; exact Bool.false_ne_true),
    if_neg (by rw [State.seqIn_of_locked hphase]; exact Bool.false_ne_true), if_pos]
  rcases hstage with h | h
  · rw [(s.stageIn_iff .lift).2 ⟨hphase, hsub, h⟩, hon]
    rfl
  · rw [(s.stageIn_iff .ramp).2 ⟨hphase, hsub, h⟩, hon, Bool.or_true]
    rfl

theorem State.rampTimer_of_hold {s : State} (hhold : s.crew.hold = true) : s.rampTimer = none := if_pos hhold

theorem State.rampTimerLimit_of_none {s : State} (h : s.rampTimer = none) : s.rampTimerLimit = s := by
  unfold State.rampTimerLimit
  rw [h]

theorem State.unloadTimerLimit_of_timer {s : State} {t : Timer} (h : s.unloadTimer = some t) :
    s.unloadTimerLimit = ((s.expire t).spendUnload).latch .rampStall (BitVec.ofNat 16 s.jackLoad) := by
  unfold State.unloadTimerLimit
  rw [h]
  rfl

theorem State.unloadTimerLimit_of_closed {s : State} (h : s.reliefOpen = false) : s.unloadTimerLimit = s := by
  have hnone : s.unloadTimer = none := if_pos (by rw [h]; rfl)
  unfold State.unloadTimerLimit
  rw [hnone]

theorem State.unloadTimer_of_test {s : State} (hopen : s.reliefOpen = true) (hphase : s.crew.phase = .stressing)
    (hsub : s.seq.sub = some .release ∨ s.seq.sub = some .failUnload ∨ s.seq.sub = some .abortUnload)
    (hon : s.seq.jack.unload.on = true) : s.unloadTimer = some s.seq.jack.unload := by
  unfold State.unloadTimer
  rw [if_neg (by rw [hopen]; exact Bool.false_ne_true), if_pos]
  rcases hsub with h | h | h <;> simp [(s.seqIn_iff _).2 ⟨hphase, h⟩, hon]

theorem State.unloadTimer_of_topUp {s : State} (hopen : s.reliefOpen = true) (hphase : s.crew.phase = .locked)
    (hsub : s.aft.sub = some .topUp) (hstage : s.aft.stage = some .release ∨ s.aft.stage = some .abortUnload)
    (hon : s.aft.jack.unload.on = true) : s.unloadTimer = some s.aft.jack.unload := by
  unfold State.unloadTimer
  rw [if_neg (by rw [hopen]; exact Bool.false_ne_true), if_neg, if_pos]
  · rcases hstage with h | h <;> simp [(s.stageIn_iff _).2 ⟨hphase, hsub, h⟩, hon]
  · simp [State.seqIn_of_locked hphase]

/-- Whether it has run or not, an unload timer that is spent stands at its limit. -/
theorem Jack.tick_unload_spent (hold relief : Bool) (d : Nat) (j : Jack) :
    (j.tick hold relief d).unload.spent = ⟨false, j.unload.limit, j.unload.limit⟩ := by
  unfold Jack.tick Timer.tick
  dsimp only
  split_ifs <;> rfl

/-- The unload timer of a test stopped at its limit. -/
def State.testUnloadSpent (s : State) : State :=
  { s.expire s.seq.jack.unload with
    seq :=
      { (s.expire s.seq.jack.unload).seq with
        jack :=
          { (s.expire s.seq.jack.unload).seq.jack with
            unload := ⟨false, s.seq.jack.unload.limit, s.seq.jack.unload.limit⟩ } } }

/-- The unload timer of a top-up stopped at its limit. -/
def State.topUpUnloadSpent (s : State) : State :=
  { s.expire s.aft.jack.unload with
    aft :=
      { (s.expire s.aft.jack.unload).aft with
        jack :=
          { (s.expire s.aft.jack.unload).aft.jack with
            unload := ⟨false, s.aft.jack.unload.limit, s.aft.jack.unload.limit⟩ } } }

theorem State.spendUnload_of_stressing {s : State} (h : s.crew.phase = .stressing) :
    (s.expire s.seq.jack.unload).spendUnload = s.testUnloadSpent := by
  refine (if_pos h).trans ?_
  rw [State.testUnloadSpent, ← Jack.tick_unload_spent s.crew.hold s.reliefOpen s.seq.jack.unload.left s.seq.jack]
  rfl

theorem State.spendUnload_of_locked {s : State} (h : s.crew.phase = .locked) :
    (s.expire s.aft.jack.unload).spendUnload = s.topUpUnloadSpent := by
  refine (if_neg (fun hs => absurd (h.symm.trans hs) (by decide))).trans ?_
  rw [State.topUpUnloadSpent, ← Jack.tick_unload_spent s.crew.hold s.reliefOpen s.aft.jack.unload.left s.aft.jack]
  rfl

theorem State.reliefOpen_of_test_unload {s : State} (hstate : s.lease.state = .holding) (hhold : s.crew.hold = false)
    (hphase : s.crew.phase = .stressing)
    (hsub : s.seq.sub = some .release ∨ s.seq.sub = some .failUnload ∨ s.seq.sub = some .abortUnload)
    (hlower : s.seq.jack.lower = true) : s.reliefOpen = true :=
  s.reliefOpen_rule.2 ⟨hstate, hhold, .inl ⟨hphase, hlower, .inr hsub⟩⟩

theorem State.reliefOpen_of_topUp_unload {s : State} (hstate : s.lease.state = .holding) (hhold : s.crew.hold = false)
    (hphase : s.crew.phase = .locked) (hsub : s.aft.sub = some .topUp)
    (hstage : s.aft.stage = some .release ∨ s.aft.stage = some .abortUnload) (hlower : s.aft.jack.lower = true) :
    s.reliefOpen = true :=
  s.reliefOpen_rule.2 ⟨hstate, hhold, .inr ⟨hphase, hsub, hlower, .inr hstage⟩⟩

/-- The relief valve of a halted test is closed. -/
theorem State.reliefOpen_of_halted {s : State} (hphase : s.crew.phase = .stressing) (hsub : s.seq.sub = some .halted) :
    s.reliefOpen = false := by
  refine Bool.eq_false_iff.2 fun h => ?_
  obtain ⟨-, -, ⟨-, -, hmoves⟩ | ⟨hlocked, -⟩⟩ := s.reliefOpen_rule.1 h
  · rw [hsub] at hmoves
    simp at hmoves
  · exact absurd (hphase.symm.trans hlocked) (by decide)

/-- Settles O51: the timer that runs, the latch by `State.latch_in_stressing` and `State.latch_in_locked`, the drives by
their rules. -/
theorem rampAndUnloadLimitsLatch : Obligations.RampAndUnloadLimitsLatch := by
  refine ⟨fun s hhold hphase hsub hon => exec_of_eventOf
      (State.rampTimerLimit_of_timer (State.rampTimer_of_test hhold hphase hsub hon)),
    fun s hhold hphase hsub hon hstate hclear => ?_,
    fun s hhold hphase hsub hstage hon => exec_of_eventOf
      (State.rampTimerLimit_of_timer (State.rampTimer_of_topUp hhold hphase hsub hstage hon)),
    fun s hhold hphase hsub hon hlower hstate hclear => ?_, fun s hhold hphase hsub hstage hon hlower hstate hclear => ?_,
    fun s hhold => ⟨exec_of_eventOf (State.rampTimerLimit_of_none (State.rampTimer_of_hold hhold)),
      exec_of_eventOf (State.unloadTimerLimit_of_closed (State.reliefOpen_of_hold hhold))⟩,
    fun s hclosed => exec_of_eventOf (State.unloadTimerLimit_of_closed hclosed)⟩
  · have hev : eventOf .rampTimerLimit s = _ :=
      (State.rampTimerLimit_of_timer (State.rampTimer_of_test hhold hphase hsub hon)).trans
        (State.latch_in_stressing (s := s.expire s.seq.jack.ramp) Latch.rampStall_not_mutes _ hclear
          (LeaseState.not_asking_of_holding hstate) hphase)
    rw [Seq.atLatch_of_moving (q := (s.expire s.seq.jack.ramp).seq) (.inl hsub)] at hev
    have hlatches := Trip.set_latches_of_not_mem (l := .rampStall) (t := s.trip) hclear s.crew.phase
      (BitVec.ofNat 16 s.jackLoad) none
    have hpump : (eventOf .rampTimerLimit s).finish.drives.pump = false := by
      rw [State.finish_drives_eq, hev]
      exact State.pumpOn_of_held (List.ne_nil_of_mem (Trip.mem_set_latches ..))
    have hrelief : (eventOf .rampTimerLimit s).finish.drives.relief = false := by
      rw [State.finish_drives_eq, hev]
      exact State.reliefOpen_of_halted hphase rfl
    obtain ⟨tx, rails, jack, gtime, ext, window, drives, hfin⟩ := State.finish_form (eventOf .rampTimerLimit s)
    rw [hfin] at hpump hrelief
    rw [hev] at hfin
    refine ⟨_, (exec_of_eventOf hev).trans (congrArg _ hfin), rfl, rfl, rfl, hlatches, rfl, rfl, rfl, hpump, hrelief,
      fun hnone => ?_⟩
    refine (Trip.set_firstCause .rampStall s.crew.phase (BitVec.ofNat 16 s.jackLoad) none s.trip).trans ?_
    rw [if_pos hnone, hphase]
    rfl
  · have hopen := State.reliefOpen_of_test_unload hstate hhold hphase hsub hlower
    have htimer : eventOf .unloadTimerLimit s = s.testUnloadSpent.latch .rampStall (BitVec.ofNat 16 s.jackLoad) := by
      refine (State.unloadTimerLimit_of_timer (State.unloadTimer_of_test hopen hphase hsub hon)).trans ?_
      rw [State.spendUnload_of_stressing hphase]
    have hev := htimer.trans (State.latch_in_stressing (s := s.testUnloadSpent) Latch.rampStall_not_mutes _ hclear
      (LeaseState.not_asking_of_holding hstate) hphase)
    rw [Seq.atLatch_of_unloading (q := s.testUnloadSpent.seq) hsub] at hev
    have hlatches := Trip.set_latches_of_not_mem (l := .rampStall) (t := s.trip) hclear s.crew.phase
      (BitVec.ofNat 16 s.jackLoad) none
    have hrelief : (eventOf .unloadTimerLimit s).finish.drives.relief = s.seq.jack.lower := by
      rw [State.finish_drives_eq, hev, hlower]
      exact State.reliefOpen_of_test_unload hstate hhold hphase hsub hlower
    obtain ⟨tx, rails, jack, gtime, ext, window, drives, hfin⟩ := State.finish_form (eventOf .unloadTimerLimit s)
    have hlatched := congrArg State.finish htimer
    rw [hfin] at hrelief hlatched
    rw [hev] at hfin hrelief hlatched
    exact ⟨_, (exec_of_eventOf hev).trans (congrArg _ hfin), hlatched, rfl, rfl, rfl, hlatches, rfl, rfl, hstate, rfl,
      hrelief⟩
  · have hopen := State.reliefOpen_of_topUp_unload hstate hhold hphase hsub hstage hlower
    have htimer : eventOf .unloadTimerLimit s = s.topUpUnloadSpent.latch .rampStall (BitVec.ofNat 16 s.jackLoad) := by
      refine (State.unloadTimerLimit_of_timer (State.unloadTimer_of_topUp hopen hphase hsub hstage hon)).trans ?_
      rw [State.spendUnload_of_locked hphase]
    have hev := htimer.trans (State.latch_in_locked (s := s.topUpUnloadSpent) Latch.rampStall_not_mutes _ hclear
      (LeaseState.not_asking_of_holding hstate) hphase)
    rw [Aft.atLatch_of_unloading (a := s.topUpUnloadSpent.aft) hstage] at hev
    have hlatches := Trip.set_latches_of_not_mem (l := .rampStall) (t := s.trip) hclear s.crew.phase
      (BitVec.ofNat 16 s.jackLoad) none
    have hrelief : (eventOf .unloadTimerLimit s).finish.drives.relief = true := by
      rw [State.finish_drives_eq, hev]
      exact State.reliefOpen_of_topUp_unload hstate hhold hphase hsub hstage hlower
    obtain ⟨tx, rails, jack, gtime, ext, window, drives, hfin⟩ := State.finish_form (eventOf .unloadTimerLimit s)
    have hlatched := congrArg State.finish htimer
    rw [hfin] at hrelief hlatched
    rw [hev] at hfin hrelief hlatched
    exact ⟨_, (exec_of_eventOf hev).trans (congrArg _ hfin), hlatched, rfl, rfl, rfl, hlatches, rfl, hstate, hrelief, rfl⟩

end Sys2Proof.Machine

/-! What a scan brings due, and what the blocks do with it, leaves the published values as they are: beside the rail
times the scan changes only as a set is published (R156, R159). -/

namespace Sys2Proof.Machine

/-- The waiting commands, the binding and the values of the latest scan are as they were. -/
structure ReadingsStand (s t : State) : Prop where
  pending : t.pending = s.pending
  binding : t.binding = s.binding
  scan    : t.scan = { s.scan with railTimes := t.scan.railTimes }

theorem ReadingsStand.refl (s : State) : ReadingsStand s s := ⟨rfl, rfl, rfl⟩

theorem ReadingsStand.trans {s t u : State} (h : ReadingsStand s t) (k : ReadingsStand t u) : ReadingsStand s u where
  pending := k.pending.trans h.pending
  binding := k.binding.trans h.binding
  scan := k.scan.trans (congrArg (fun x : Scan => { x with railTimes := u.scan.railTimes }) h.scan)

theorem ReadingsStand.ite {s t u : State} (p : Prop) [Decidable p] (h : ReadingsStand s t) (k : ReadingsStand s u) :
    ReadingsStand s (if p then t else u) := by
  split
  · exact h
  · exact k

theorem ReadingsStand.of_calm {s t : State} (h : Calm s t) : ReadingsStand s t :=
  ⟨h.pending, h.binding, by rw [h.scan]⟩

theorem ReadingsStand.foldl {α : Type} {op : State → α → State} (h : ∀ s a, ReadingsStand s (op s a)) (as : List α)
    (s : State) : ReadingsStand s (as.foldl op s) := by
  induction as generalizing s with
  | nil => exact .refl s
  | cons a as ih => exact (h s a).trans (ih _)

/-! ## The state's operations -/

theorem readingsStand_elapse (d : Nat) (s : State) : ReadingsStand s (s.elapse d) := ⟨rfl, rfl, rfl⟩

theorem readingsStand_expire (t : Timer) (s : State) : ReadingsStand s (s.expire t) := readingsStand_elapse _ s

theorem readingsStand_toPhase (p : Phase) (s : State) : ReadingsStand s (s.toPhase p) := ⟨rfl, rfl, rfl⟩

theorem readingsStand_drawFree (s : State) : ReadingsStand s s.drawFree := ⟨rfl, rfl, rfl⟩

theorem readingsStand_handOver (j : Job) (s : State) : ReadingsStand s (s.handOver j) := by
  rw [State.handOver_eq]
  exact ⟨rfl, rfl, rfl⟩

theorem readingsStand_finish (s : State) : ReadingsStand s s.finish := by
  obtain ⟨tx, rails, jack, gtime, ext, window, drives, hfin⟩ := State.finish_form s
  rw [hfin]
  exact ⟨rfl, rfl, rfl⟩

theorem readingsStand_latch (l : Latch) (v : Half) (s : State) : ReadingsStand s (s.latch l v) :=
  .of_calm (calm_latch l v s)

/-! ## Latches that a scan brings due -/

theorem readingsStand_sensorEvent (c : Channel) (s : State) : ReadingsStand s (s.sensorEvent c) :=
  .ite _
    (.ite _ (.refl s)
      (ReadingsStand.trans (t := s.railCleared c) ⟨rfl, rfl, rfl⟩ (.of_calm (calm_setLatch _ _ _ _))))
    (.refl s)

theorem readingsStand_takeLatches (s : State) : ReadingsStand s s.takeLatches :=
  (ReadingsStand.foldl (fun t c => readingsStand_sensorEvent c t) allChannels s).trans
    ((ReadingsStand.ite _ (readingsStand_latch _ _ _) (.refl _)).trans
      ((ReadingsStand.ite _ (readingsStand_latch _ _ _) (.refl _)).trans
        (.ite _ (readingsStand_latch _ _ _) (.refl _))))

/-! ## Placement -/

theorem readingsStand_cleanDistanceEvent (s : State) : ReadingsStand s s.cleanDistanceEvent :=
  .ite _ (.of_calm (calm_onPlacement s _)) (.refl s)

theorem readingsStand_completePlacement (s : State) : ReadingsStand s s.completePlacement := by
  rw [State.completePlacement_eq]
  exact ⟨rfl, rfl, rfl⟩

theorem readingsStand_placementEvent (s : State) : ReadingsStand s s.placementEvent :=
  .ite _
    ((ReadingsStand.of_calm (calm_breakInEvent s)).trans
      ((readingsStand_cleanDistanceEvent _).trans (readingsStand_completePlacement _)))
    (.refl s)

theorem calm_slackEvent (s : State) : Calm s s.slackEvent := .ite _ (calm_onPlacement s _) (.refl s)

theorem calm_limitEvent (s : State) : Calm s s.limitEvent := by
  unfold State.limitEvent
  exact (calm_onPlacement s _).trans (.ite _ ((calm_onPlacement _ _).trans (calm_latch _ _ _)) (calm_onPlacement _ _))

theorem calm_placementScan (rise : Nat) (s : State) : Calm s (s.placementScan rise) := by
  unfold State.placementScan State.countRope
  exact (calm_onPlacement s _).trans
    (.ite _ (.refl _) (.ite _ (.ite _ (calm_limitEvent _) (calm_onPlacement _ _)) (.refl _)))

/-! ## Grouting and setting -/

theorem readingsStand_endGrouting (r : GroutResult) (s : State) : ReadingsStand s (s.endGrouting r) := by
  rw [State.endGrouting_eq]
  exact ⟨rfl, rfl, rfl⟩

theorem readingsStand_refusalEvent (s : State) : ReadingsStand s s.refusalEvent :=
  .ite _ (readingsStand_endGrouting _ s) (.ite _ (readingsStand_endGrouting _ s) (.refl s))

theorem readingsStand_fillEvent (s : State) : ReadingsStand s s.fillEvent :=
  .ite _ (readingsStand_endGrouting _ s) (.ite _ (.of_calm (calm_onGrout s _)) (.refl s))

theorem readingsStand_sagEvent (s : State) : ReadingsStand s s.sagEvent :=
  .ite _ ((readingsStand_fillEvent s).trans (.of_calm (calm_onGrout _ _))) (.refl s)

theorem calm_cleanTimeEvent (s : State) : Calm s s.cleanTimeEvent := .ite _ (calm_onGrout s _) (.refl s)

theorem calm_settingEvent (s : State) : Calm s s.settingEvent :=
  .ite _ ((calm_placeAlert _ s).trans (calm_onGrout _ _)) (.refl s)

theorem calm_countGrout (s : State) : Calm s s.countGrout := .ite _ (calm_onGrout s _) (.refl s)

theorem calm_modulate (s : State) : Calm s s.modulate := .ite _ (calm_onGrout s _) (.refl s)

theorem calm_groutScan (s : State) : Calm s s.groutScan := by
  unfold State.groutScan
  exact (calm_countGrout s).trans ((calm_modulate _).trans
    ((calm_onGrout _ _).trans (.ite _ (.refl _) (.ite _ (calm_onGrout _ _) (.refl _)))))

/-! ## A test -/

theorem readingsStand_handTest (job : Nat → Job) (s : State) : ReadingsStand s (s.handTest job) := by
  unfold State.handTest
  split
  · exact .refl s
  · exact readingsStand_handOver _ s

theorem readingsStand_endTest (v : Option Verdict) (residual : Option Nat) (p : Phase) (s : State) :
    ReadingsStand s (s.endTest v residual p) := by
  have hclose : ReadingsStand s (s.closeTest v residual) := by
    unfold State.closeTest
    split
    · exact .refl s
    · exact readingsStand_handTest _ s
  exact hclose.trans ((ReadingsStand.of_calm (calm_release _)).trans
    ((readingsStand_toPhase p _).trans (.of_calm (calm_onSeq _ _))))

theorem readingsStand_completeLockOff (s : State) : ReadingsStand s s.completeLockOff := by
  unfold State.completeLockOff
  exact (readingsStand_handTest _ s).trans
    ((ReadingsStand.ite _ ((ReadingsStand.of_calm (calm_onSeq _ _)).trans (readingsStand_handTest _ _)) (.refl _)).trans
      ((readingsStand_endTest _ _ _ _).trans (.of_calm (calm_onAft _ _))))

theorem readingsStand_settleEnd (s : State) : ReadingsStand s s.settleEnd :=
  .ite _
    ((readingsStand_expire _ s).trans ((ReadingsStand.of_calm (calm_onSeq _ _)).trans
      (.ite _ (readingsStand_completeLockOff _) (.refl _))))
    (.refl s)

theorem readingsStand_settleReadEvent (s : State) : ReadingsStand s s.settleReadEvent :=
  .ite _ (readingsStand_settleEnd s) (.refl s)

theorem readingsStand_rampScan (s : State) : ReadingsStand s s.rampScan := by
  refine .ite _ (.ite _ ?_ (.of_calm (calm_onSeq s _))) (.of_calm (calm_onSeq s _))
  exact (readingsStand_handTest _ s).trans (.of_calm (calm_onSeq _ _))

theorem readingsStand_settleScan (s : State) : ReadingsStand s s.settleScan :=
  .ite _ (.refl s) (.ite _ (readingsStand_completeLockOff s) (.ite _ (.of_calm (calm_onSeq s _)) (.refl s)))

theorem readingsStand_lowerTest (s : State) : ReadingsStand s s.lowerTest := .of_calm (calm_onSeq s _)

theorem readingsStand_seqScan (s : State) : ReadingsStand s s.seqScan := by
  unfold State.seqScan
  split
  case h_1 => exact readingsStand_rampScan s
  case h_2 => exact .of_calm (calm_onSeq s _)
  case h_3 => exact .ite _ (.of_calm (calm_onSeq s _)) (readingsStand_lowerTest s)
  case h_4 | h_5 => exact .ite _ (readingsStand_endTest _ _ _ s) (readingsStand_lowerTest s)
  case h_6 => exact readingsStand_settleScan s
  all_goals exact .refl s

/-! ## Aftercare -/

theorem readingsStand_openTopUpSlot (s : State) : ReadingsStand s s.openTopUpSlot := by
  unfold State.openTopUpSlot
  split
  · exact (readingsStand_handOver _ s).trans (.of_calm (calm_onAft _ _))
  all_goals exact .refl s

theorem readingsStand_askSlot (s : State) : ReadingsStand s s.askSlot :=
  (readingsStand_openTopUpSlot s).trans
    (.ite _ (.of_calm (calm_ask _ _ _)) (.of_calm (calm_onAft _ _)))

theorem readingsStand_raiseLossExcess (s : State) : ReadingsStand s s.raiseLossExcess := by
  unfold State.raiseLossExcess
  dsimp only
  refine (ReadingsStand.trans ?_ (.of_calm (calm_placeAlert _ _)))
  split
  · exact (ReadingsStand.of_calm (calm_onAft s _)).trans (readingsStand_handOver _ _)
  · exact .of_calm (calm_onAft s _)

theorem readingsStand_lowEvent (s : State) : ReadingsStand s s.lowEvent :=
  .ite _
    (.ite _ ((ReadingsStand.of_calm (calm_onAft s _)).trans (readingsStand_askSlot _)) (readingsStand_raiseLossExcess s))
    (.refl s)

theorem calm_recoveryEvent (s : State) : Calm s s.recoveryEvent :=
  .ite _ ((calm_withdrawGone s).trans ((calm_onAft _ _).trans (calm_grantDeferred _))) (.refl s)

theorem readingsStand_endTopUp (after : Nat) (ok : Bool) (s : State) : ReadingsStand s (s.endTopUp after ok) := by
  unfold State.endTopUp
  refine ReadingsStand.trans ?_ (.of_calm ((calm_onAft _ _).trans ((calm_release _).trans (calm_onAft _ _))))
  split
  · exact readingsStand_handOver _ s
  · exact .refl s

theorem readingsStand_topUpSettleEnd (s : State) : ReadingsStand s s.topUpSettleEnd :=
  .ite _
    ((readingsStand_expire _ s).trans ((ReadingsStand.of_calm (calm_onAft _ _)).trans
      (.ite _ (readingsStand_endTopUp _ _ _) (.refl _))))
    (.refl s)

theorem readingsStand_topUpReadEvent (s : State) : ReadingsStand s s.topUpReadEvent :=
  .ite _ (readingsStand_topUpSettleEnd s) (.refl s)

theorem calm_topUpRampScan (lift : Bool) (s : State) : Calm s (s.topUpRampScan lift) :=
  .ite _ (.ite _ (calm_onAft s _) (calm_onAft s _)) (.ite _ (calm_onAft s _) (calm_onAft s _))

theorem readingsStand_lowerTopUp (s : State) : ReadingsStand s s.lowerTopUp := .of_calm (calm_onAft s _)

theorem readingsStand_stageScan (x : TopUpStage) (s : State) : ReadingsStand s (s.stageScan x) := by
  cases x with
  | lift | ramp => exact .of_calm (calm_topUpRampScan _ s)
  | release => exact .ite _ (.of_calm (calm_onAft s _)) (readingsStand_lowerTopUp s)
  | abortUnload => exact .ite _ (readingsStand_endTopUp _ _ s) (readingsStand_lowerTopUp s)
  | settle =>
    exact .ite _ (.refl s) (.ite _ (readingsStand_endTopUp _ _ s) (.ite _ (.of_calm (calm_onAft s _)) (.refl s)))
  | seating | halted => exact .refl s

theorem readingsStand_aftScan (s : State) : ReadingsStand s s.aftScan := by
  unfold State.aftScan
  split
  · exact .refl s
  · exact .of_calm (calm_onAft s _)
  · exact .of_calm (calm_onAft s _)
  · split
    · exact .refl s
    · exact readingsStand_stageScan _ s

/-! ## A whole scan -/

theorem readingsStand_takeOverdue (s : State) : ReadingsStand s s.takeOverdue := by
  have hplace := (readingsStand_takeLatches s).trans ((ReadingsStand.of_calm (calm_breakInEvent _)).trans
    ((readingsStand_cleanDistanceEvent _).trans ((readingsStand_placementEvent _).trans
      (.of_calm (calm_slackEvent _)))))
  have hgrout := hplace.trans ((readingsStand_refusalEvent _).trans ((readingsStand_fillEvent _).trans
    ((readingsStand_sagEvent _).trans (.of_calm ((calm_cleanTimeEvent _).trans (calm_settingEvent _))))))
  exact hgrout.trans ((readingsStand_lowEvent _).trans ((ReadingsStand.of_calm (calm_recoveryEvent _)).trans
    ((readingsStand_settleReadEvent _).trans (readingsStand_topUpReadEvent _))))

theorem readingsStand_consume (rise : Nat) (s : State) : ReadingsStand s (s.consume rise) := by
  unfold State.consume
  split
  case h_1 => exact .of_calm (calm_placementScan rise s)
  case h_2 => exact .of_calm (calm_groutScan s)
  case h_3 => exact .of_calm (calm_onGrout s _)
  case h_4 => exact readingsStand_seqScan s
  case h_5 => exact readingsStand_aftScan s
  all_goals exact .refl s

end Sys2Proof.Machine

/-! A scan: what is published and measured, what earlier scans brought due, and the block of the phase (R156, R157, R159,
R163 to R165, R170). -/

namespace Sys2Proof.Machine

/-! ## Published and measured -/

/-- The rail time of a channel at a scan with these marks (R159). -/
def State.railAfter (v : ScanSet) (s : State) (c : Channel) : Nat :=
  if s.inUse c = true ∧ v.rails.getLsbD (channelCode c) = true ∧ s.named c = false then min 10 (s.railTime c + 1) else 0

/-- The EXT window of R165 at a scan. -/
def State.windowAfter (v : ScanSet) (s : State) : List Int :=
  if s.par.extEnable = true ∧ s.seqIn .holdLoad = true then (v.ext :: s.trip.window).take 61 else []

/-- The rise over the window, 0 while it is short. -/
def State.riseAfter (v : ScanSet) (s : State) : Int :=
  ((s.windowAfter v)[60]?.map fun first => v.ext - first).getD 0

theorem windowRise_windowAfter (v : ScanSet) (s : State) :
    (windowRise (s.windowAfter v)).getD 0 = s.riseAfter v := by
  unfold State.riseAfter State.windowAfter
  split <;> rfl

/-- The values published and the rail times measured. -/
def State.railsMeasured (v : ScanSet) (s : State) : State :=
  { s with scan := { Scan.publish v s.scan with railTimes := allChannels.map (s.railAfter v) } }

theorem State.measureRails_eq (v : ScanSet) (s : State) :
    (s.onScan (Scan.publish v)).measureRails = s.railsMeasured v := by
  unfold State.railsMeasured
  refine congrArg (fun r => { s with scan := { Scan.publish v s.scan with railTimes := r } }) ?_
  refine List.map_congr_left fun c _ => if_congr ?_ rfl rfl
  rw [Bool.and_eq_true, Bool.and_eq_true, Bool.not_eq_true', and_assoc]
  rfl

theorem State.keepTrusted_eq (v : ScanSet) (s : State) :
    (s.railsMeasured v).keepTrusted =
      { s with
        scan :=
          { (s.railsMeasured v).scan with
            lcTrusted := if s.named .lc = false ∧ s.railAfter v .lc < 10 then v.lc else s.scan.lcTrusted } } := by
  have htrusts : (s.railsMeasured v).trusts .lc = true ↔ s.named .lc = false ∧ s.railAfter v .lc < 10 := by
    unfold State.trusts
    rw [Bool.and_eq_true, Bool.not_eq_true', decide_eq_true_iff]
    rfl
  unfold State.keepTrusted
  by_cases h : s.named .lc = false ∧ s.railAfter v .lc < 10
  · rw [if_pos (htrusts.2 h), if_pos h]
    rfl
  · rw [if_neg (mt htrusts.1 h), if_neg h]
    rfl

theorem State.measureTrips_eq (s : State) :
    s.measureTrips =
      { s with
        trip :=
          { s.trip with
            jackTime :=
              if s.inUse .jp = true ∧ s.named .jp = false ∧ s.latched .jackOver = false
                  ∧ (s.par.maxJack : Int) < s.scan.jp then
                min 1 (s.trip.jackTime + 1)
              else 0
            groutTime :=
              if s.crew.phase = .grouting ∧ s.named .gp = false ∧ s.latched .groutOver = false
                  ∧ (s.par.groutMax : Int) < s.scan.gp then
                min s.par.groutScans (s.trip.groutTime + 1)
              else 0
            window :=
              if s.par.extEnable = true ∧ s.seqIn .holdLoad = true then (s.scan.ext :: s.trip.window).take 61 else []
            extTime :=
              if s.named .ext = false ∧ s.latched .extRunaway = false
                  ∧ 20 < (windowRise
                      (if s.par.extEnable = true ∧ s.seqIn .holdLoad = true then
                        (s.scan.ext :: s.trip.window).take 61
                      else [])).getD 0 then
                min s.par.extScans (s.trip.extTime + 1)
              else 0 } } := by
  unfold State.measureTrips pushWindow State.onTrip
  simp only [Bool.and_eq_true, Bool.not_eq_true', decide_eq_true_eq, beq_iff_eq, and_assoc]

theorem State.publish_eq (v : ScanSet) (s : State) :
    s.publish v =
      { s with
        scan :=
          { jp := v.jp, ext := v.ext, lc := v.lc, gp := v.gp, gf := v.gf, hp := v.hp, wp := v.wp
            ro := if v.rails.getLsbD 7 then s.scan.ro else s.scan.ro + v.pulses, rails := v.rails
            railTimes := allChannels.map (s.railAfter v)
            lcTrusted := if s.named .lc = false ∧ s.railAfter v .lc < 10 then v.lc else s.scan.lcTrusted }
        trip :=
          { s.trip with
            window := s.windowAfter v
            jackTime :=
              if s.inUse .jp = true ∧ s.named .jp = false ∧ s.latched .jackOver = false
                  ∧ (s.par.maxJack : Int) < v.jp then
                min 1 (s.trip.jackTime + 1)
              else 0
            groutTime :=
              if s.crew.phase = .grouting ∧ s.named .gp = false ∧ s.latched .groutOver = false
                  ∧ (s.par.groutMax : Int) < v.gp then
                min s.par.groutScans (s.trip.groutTime + 1)
              else 0
            extTime :=
              if s.named .ext = false ∧ s.latched .extRunaway = false ∧ 20 < s.riseAfter v then
                min s.par.extScans (s.trip.extTime + 1)
              else 0 } } := by
  unfold State.publish
  rw [State.measureRails_eq, State.keepTrusted_eq, State.measureTrips_eq, ← windowRise_windowAfter]
  rfl

/-! ## What earlier scans brought due -/

theorem State.latchDue_eq_false_iff (s : State) :
    s.latchDue = false ↔
      (∀ c ∈ allChannels, s.sensorDue c = false) ∧ s.jackOverDue = false ∧ s.groutOverDue = false
        ∧ s.extRunawayDue = false := by
  simp [State.latchDue, and_assoc]

theorem State.takeLatches_of_not_due {s : State} (h : s.latchDue = false) : s.takeLatches = s := by
  obtain ⟨hsensors, hjack, hgrout, hext⟩ := s.latchDue_eq_false_iff.1 h
  have hfold (cs : List Channel) (hcs : ∀ c ∈ cs, s.sensorDue c = false) :
      cs.foldl (fun t c => t.sensorEvent c) s = s := by
    induction cs with
    | nil => rfl
    | cons c cs ih =>
      have hc : s.sensorEvent c = s := if_neg (by rw [hcs c (List.mem_cons_self ..)]; exact Bool.false_ne_true)
      rw [List.foldl_cons, hc]
      exact ih fun d hd => hcs d (List.mem_cons_of_mem c hd)
  have hjackOver : s.jackOverEvent = s := if_neg (by rw [hjack]; exact Bool.false_ne_true)
  have hgroutOver : s.groutOverEvent = s := if_neg (by rw [hgrout]; exact Bool.false_ne_true)
  unfold State.takeLatches
  rw [hfold allChannels hsensors, hjackOver, hgroutOver]
  exact if_neg (by rw [hext]; exact Bool.false_ne_true)

theorem State.sensorEvent_eq (c : Channel) (s : State) :
    s.sensorEvent c =
      if s.inUse c = true ∧ s.named c = false ∧ 10 ≤ s.railTime c then
        State.setLatch .sensorFault (BitVec.ofNat 16 (channelCode c)) (some c) (s.railCleared c)
      else s := by
  unfold State.sensorEvent
  split
  next h =>
    have hdue := (s.sensorDue_iff c).1 h
    rw [if_pos hdue, State.nameChannel_of_clear hdue.2.1]
  next h => rw [if_neg (mt (s.sensorDue_iff c).2 h)]

theorem windowRise_eq (w : List Int) :
    (windowRise w).getD 0 = (w[60]?.map fun first => w.headD 0 - first).getD 0 := by
  cases w <;> rfl

theorem State.jackOverEvent_eq (s : State) :
    s.jackOverEvent =
      if s.inUse .jp = true ∧ s.latched .jackOver = false ∧ 1 ≤ s.trip.jackTime then
        s.latch .jackOver (BitVec.ofNat 16 (s.scan.jp.toNat / 10))
      else s := if_congr s.jackOverDue_iff rfl rfl

theorem State.groutOverEvent_eq (s : State) :
    s.groutOverEvent =
      if s.crew.phase = .grouting ∧ s.latched .groutOver = false ∧ 1 ≤ s.trip.groutTime
          ∧ s.par.groutScans ≤ s.trip.groutTime then
        s.latch .groutOver (BitVec.ofInt 16 s.scan.gp)
      else s := if_congr s.groutOverDue_iff rfl rfl

theorem State.extRunawayEvent_eq (s : State) :
    s.extRunawayEvent =
      if s.crew.phase = .stressing ∧ s.seq.sub = some .holdLoad ∧ s.latched .extRunaway = false
          ∧ 1 ≤ s.trip.extTime ∧ s.par.extScans ≤ s.trip.extTime then
        s.latch .extRunaway
          (BitVec.ofInt 16 ((s.trip.window[60]?.map fun first => s.trip.window.headD 0 - first).getD 0))
      else s := by
  unfold State.extRunawayEvent
  rw [windowRise_eq]
  refine if_congr (s.extRunawayDue_iff.trans ?_) rfl rfl
  rw [s.seqIn_iff, and_assoc]

/-! ### Each event where it is not due -/

theorem State.cleanDistanceEvent_of_not_due {s : State} (h : s.crew.phase = .placing → s.placement.cleanDist < 200) :
    s.cleanDistanceEvent = s := if_neg fun hc => absurd hc.2 (Nat.not_le.2 (h hc.1))

theorem State.placementEvent_of_not_due {s : State} (h : s.placementDue = false) : s.placementEvent = s :=
  if_neg (by rw [h]; exact Bool.false_ne_true)

theorem State.slackEvent_of_not_due {s : State} (h : s.crew.phase = .placing → s.placement.slackTime < 20) :
    s.slackEvent = s := by
  refine if_neg fun hc => ?_
  obtain ⟨hin, hslack⟩ := Bool.and_eq_true_iff.1 hc
  exact absurd (of_decide_eq_true hslack) (Nat.not_le.2 (h ((s.placeIn_iff _).1 hin).1))

theorem State.refusalEvent_of_not_due {s : State} (hvolume : s.volumeDue = false) (hrefusal : s.refusalDue = false) :
    s.refusalEvent = s := by
  unfold State.refusalEvent
  rw [if_neg (by rw [hvolume]; exact Bool.false_ne_true), if_neg (by rw [hrefusal]; exact Bool.false_ne_true)]

theorem State.sagEvent_of_not_due {s : State} (h : s.crew.phase = .grouting → s.grout.sagTime < 20) :
    s.sagEvent = s := by
  refine if_neg fun hc => ?_
  obtain ⟨hopen, hsag, -, -⟩ := s.sagDue_iff.1 hc
  exact absurd hsag (Nat.not_le.2 (h (s.groutOpen_iff.1 hopen).1))

theorem State.cleanTimeEvent_of_not_due {s : State} (h : s.crew.phase = .grouting → s.grout.cleanTime < 600) :
    s.cleanTimeEvent = s := by
  refine if_neg fun hc => ?_
  obtain ⟨hopen, hclean⟩ := Bool.and_eq_true_iff.1 hc
  exact absurd (of_decide_eq_true hclean) (Nat.not_le.2 (h (s.groutOpen_iff.1 hopen).1))

theorem State.settingEvent_of_not_due {s : State} (h : s.crew.phase = .setting → s.grout.breakTime < 10) :
    s.settingEvent = s := if_neg fun hc => absurd hc.2.2 (Nat.not_le.2 (h hc.1))

theorem State.lowEvent_of_not_due {s : State} (h : s.lowDue = false) : s.lowEvent = s :=
  if_neg (by rw [h]; exact Bool.false_ne_true)

theorem State.recoveryEvent_of_not_due {s : State} (h : s.recoveryDue = false) : s.recoveryEvent = s :=
  if_neg (by rw [h]; exact Bool.false_ne_true)

/-- A settle whose end is not to be read is left to its command. -/
theorem State.settleReadEvent_of_not_due {s : State} (h : s.seq.jack.readDue = false ∨ s.seqIn .settle = false) :
    s.settleReadEvent = s := by
  by_cases hread : s.seq.jack.readDue = true
  · have hsub : s.seqIn .settle = false := h.resolve_left (by rw [hread]; decide)
    exact (if_pos hread).trans (if_neg (by simp [hsub]))
  · exact if_neg hread

theorem State.topUpReadEvent_of_not_due {s : State} (h : s.aft.jack.readDue = false ∨ s.stageIn .settle = false) :
    s.topUpReadEvent = s := by
  by_cases hread : s.aft.jack.readDue = true
  · have hstage : s.stageIn .settle = false := h.resolve_left (by rw [hread]; decide)
    exact (if_pos hread).trans (if_neg (by simp [hstage]))
  · exact if_neg hread

/-- What earlier scans brought due in placement, with the clean distance aside. -/
theorem State.placementEvents_of_not_due {s : State} (hbreak : s.breakInDue = false) (hdone : s.placementDue = false)
    (hslack : s.crew.phase = .placing → s.placement.slackTime < 20) :
    s.breakInEvent.cleanDistanceEvent.placementEvent.slackEvent = s.cleanDistanceEvent := by
  have hbreakIn : s.breakInEvent = s := if_neg (by rw [hbreak]; exact Bool.false_ne_true)
  have hkept : s.cleanDistanceEvent.crew = s.crew ∧ s.cleanDistanceEvent.placement.slackTime = s.placement.slackTime
      ∧ s.cleanDistanceEvent.placementDue = s.placementDue := by
    unfold State.cleanDistanceEvent
    split <;> exact ⟨rfl, rfl, rfl⟩
  obtain ⟨hcrew, htime, hdue⟩ := hkept
  rw [hbreakIn, State.placementEvent_of_not_due (hdue.trans hdone)]
  refine State.slackEvent_of_not_due ?_
  rw [hcrew, htime]
  exact hslack

/-- What earlier scans brought due in grouting, with the clean time aside. -/
theorem State.groutEvents_of_not_due {s : State} (hvolume : s.volumeDue = false) (hrefusal : s.refusalDue = false)
    (hfill : s.fillDue = false) (hsag : s.crew.phase = .grouting → s.grout.sagTime < 20) :
    s.refusalEvent.fillEvent.sagEvent.cleanTimeEvent = s.cleanTimeEvent := by
  rw [State.refusalEvent_of_not_due hvolume hrefusal, State.fillEvent_of_not_due hvolume hfill,
    State.sagEvent_of_not_due hsag]

/-- What earlier scans brought due in aftercare and in a settle. -/
theorem State.readEvents_of_not_due {s : State} (hlow : s.lowDue = false) (hrecovery : s.recoveryDue = false)
    (hseq : s.seq.jack.readDue = false ∨ s.seqIn .settle = false)
    (haft : s.aft.jack.readDue = false ∨ s.stageIn .settle = false) :
    s.lowEvent.recoveryEvent.settleReadEvent.topUpReadEvent = s := by
  rw [State.lowEvent_of_not_due hlow, State.recoveryEvent_of_not_due hrecovery, State.settleReadEvent_of_not_due hseq,
    State.topUpReadEvent_of_not_due haft]

theorem State.takeOverdue_of_quiet {s : State} (hlatch : s.latchDue = false) (hbreak : s.breakInDue = false)
    (hplace : s.crew.phase = .placing → s.placement.cleanDist < 200 ∧ s.placement.slackTime < 20)
    (hdone : s.placementDue = false) (hvolume : s.volumeDue = false) (hrefusal : s.refusalDue = false)
    (hfill : s.fillDue = false) (hgrout : s.crew.phase = .grouting → s.grout.sagTime < 20 ∧ s.grout.cleanTime < 600)
    (hset : s.crew.phase = .setting → s.grout.breakTime < 10) (hlow : s.lowDue = false)
    (hrecovery : s.recoveryDue = false) (hseq : s.seq.jack.readDue = false ∨ s.seqIn .settle = false)
    (haft : s.aft.jack.readDue = false ∨ s.stageIn .settle = false) : s.takeOverdue = s := by
  unfold State.takeOverdue
  rw [State.takeLatches_of_not_due hlatch,
    State.placementEvents_of_not_due hbreak hdone fun h => (hplace h).2,
    State.cleanDistanceEvent_of_not_due fun h => (hplace h).1,
    State.groutEvents_of_not_due hvolume hrefusal hfill fun h => (hgrout h).1,
    State.cleanTimeEvent_of_not_due fun h => (hgrout h).2, State.settingEvent_of_not_due hset,
    State.readEvents_of_not_due hlow hrecovery hseq haft]

/-! ## The scan -/

theorem State.consume_elsewhere {s : State} (rise : Nat)
    (h : s.crew.phase = .setup ∨ s.crew.phase = .curing ∨ s.crew.phase = .cured ∨ s.crew.phase = .rejected
      ∨ s.crew.phase = .detached) : s.consume rise = s := by
  unfold State.consume
  rcases h with h | h | h | h | h <;> rw [h]

/-- What was due is taken, the event closed, and 100 ms pass before the set is published. -/
theorem readingsStand_beforeScan (s : State) : ReadingsStand s (s.takeOverdue.finish.elapse 100000) :=
  ReadingsStand.trans (readingsStand_takeOverdue s) ((readingsStand_finish _).trans (readingsStand_elapse _ _))

theorem State.ro_beforeScan (s : State) : (s.takeOverdue.finish.elapse 100000).scan.ro = s.scan.ro := by
  rw [(readingsStand_beforeScan s).scan]

theorem exec_scanPublish (v : ScanSet) (s : State) :
    exec (.scanPublish v) s = .next ((s.takeOverdue.finish.elapse 100000).scanEffect v).finish := exec_of_eventOf rfl

theorem State.scanEffect_of_not_due {v : ScanSet} {s : State} (h : (s.publish v).latchDue = false) :
    s.scanEffect v = (s.publish v).consume ((s.publish v).scan.ro - s.scan.ro).toNat :=
  if_neg (by rw [h]; exact Bool.false_ne_true)

/-- Where a latch falls due at the scan, what comes first is a free value (R141, R154, R170). -/
theorem State.scanEffect_of_due {v : ScanSet} {s : State} (h : (s.publish v).latchDue = true) :
    s.scanEffect v = (s.publish v).drawFree.takeLatches.consume ((s.publish v).scan.ro - s.scan.ro).toNat
      ∨ s.scanEffect v = (s.publish v).drawFree.consume ((s.publish v).scan.ro - s.scan.ro).toNat := by
  unfold State.scanEffect
  dsimp only
  rw [if_pos h]
  split
  · exact .inl rfl
  · exact .inr rfl

theorem exec_scanPublish_of_not_due {v : ScanSet} {s p : State}
    (hp : (s.takeOverdue.finish.elapse 100000).publish v = p) (h : p.latchDue = false) :
    exec (.scanPublish v) s = .next (State.finish (p.consume (p.scan.ro - s.scan.ro).toNat)) := by
  subst hp
  rw [exec_scanPublish, State.scanEffect_of_not_due h, State.ro_beforeScan]

theorem exec_scanPublish_of_due {v : ScanSet} {s p : State}
    (hp : (s.takeOverdue.finish.elapse 100000).publish v = p) (h : p.latchDue = true) :
    exec (.scanPublish v) s = .next (State.finish (p.drawFree.takeLatches.consume (p.scan.ro - s.scan.ro).toNat))
      ∨ exec (.scanPublish v) s = .next (State.finish (p.drawFree.consume (p.scan.ro - s.scan.ro).toNat)) := by
  subst hp
  rw [exec_scanPublish]
  rcases State.scanEffect_of_due h with hfirst | hfirst
  · rw [hfirst, State.ro_beforeScan]
    exact .inl rfl
  · rw [hfirst, State.ro_beforeScan]
    exact .inr rfl

/-- Settles O40: the set by `State.publish_eq`, what was due by `State.takeOverdue_of_quiet` and
`State.takeLatches_of_not_due`, the order of latch and block by `State.scanEffect_of_due`. -/
theorem scanMeasuresAndHandsOn : Obligations.ScanMeasuresAndHandsOn := by
  refine ⟨fun v s => State.publish_eq v s, fun v s => ?_, fun s => State.takeLatches_of_not_due,
    fun s hlatch hbreak hplace hdone hvolume hrefusal hfill hgrout hset hlow hrecovery hseq haft =>
      State.takeOverdue_of_quiet hlatch hbreak hplace hdone hvolume hrefusal hfill hgrout hset hlow hrecovery
        (.inl hseq) (.inl haft),
    fun pulses s => State.consume_elsewhere pulses, fun s => ?_, fun s => rfl, fun s => ?_⟩
  · exact ⟨exec_scanPublish_of_not_due rfl, exec_scanPublish_of_due rfl⟩
  · intro sensor a b c
    have hsensor : (fun (t : State) c => t.sensorEvent c) = sensor :=
      funext fun t => funext fun c => State.sensorEvent_eq c t
    have ha : allChannels.foldl (fun (t : State) c => t.sensorEvent c) s = a := by rw [hsensor]; rfl
    have hb : a.jackOverEvent = b := a.jackOverEvent_eq
    have hc : b.groutOverEvent = c := b.groutOverEvent_eq
    unfold State.takeLatches
    rw [ha, hb, hc]
    exact c.extRunawayEvent_eq
  · refine ⟨rfl, rfl, rfl, rfl, rfl, fun h => ?_, rfl, rfl, rfl, rfl, rfl, rfl, rfl, fun h => ?_, fun h => ?_, fun h => ?_,
      fun h => ?_⟩
    · exact (if_pos h).trans (if_pos h).symm
    · exact exec_of_eventOf (if_pos h).symm
    · exact State.settleReadEvent_of_not_due (.inl h)
    · exact exec_of_eventOf (if_pos h).symm
    · exact State.topUpReadEvent_of_not_due (.inl h)

end Sys2Proof.Machine

/-! A scan that brings no latch due: what is published on top of passing time, and the phases without a block (R156, R159,
R163 to R165). -/

namespace Sys2Proof.Machine

/-! ## No latch is due -/

theorem State.latchDue_of_clear {s : State} (hrails : ∀ c, s.inUse c = false ∨ s.railTime c = 0)
    (hjack : s.inUse .jp = false ∨ s.trip.jackTime = 0) (hgrout : s.crew.phase ≠ .grouting ∨ s.trip.groutTime = 0)
    (hext : s.seqIn .holdLoad = false ∨ s.trip.extTime < s.par.extScans) : s.latchDue = false := by
  refine s.latchDue_eq_false_iff.2 ⟨fun c _ => ?_, ?_, ?_, ?_⟩ <;> refine Bool.eq_false_iff.2 fun h => ?_
  · obtain ⟨huse, -, htime⟩ := (s.sensorDue_iff c).1 h
    rcases hrails c with hc | hc
    · exact Bool.false_ne_true (hc.symm.trans huse)
    · omega
  · obtain ⟨huse, -, htime⟩ := s.jackOverDue_iff.1 h
    rcases hjack with hc | hc
    · exact Bool.false_ne_true (hc.symm.trans huse)
    · omega
  · obtain ⟨hphase, -, htime, -⟩ := s.groutOverDue_iff.1 h
    rcases hgrout with hc | hc
    · exact hc hphase
    · omega
  · obtain ⟨hhold, -, -, htime⟩ := s.extRunawayDue_iff.1 h
    rcases hext with hc | hc
    · exact Bool.false_ne_true (hc.symm.trans hhold)
    · omega

theorem State.railTime_of_zeros {s : State} (h : s.scan.railTimes = [0, 0, 0, 0, 0, 0, 0, 0]) (c : Channel) :
    s.railTime c = 0 := by
  unfold State.railTime
  rw [h]
  cases c <;> rfl

theorem State.railTime_publish (v : ScanSet) (s : State) (c : Channel) : (s.publish v).railTime c = s.railAfter v c := by
  rw [State.publish_eq]
  cases c <;> rfl

theorem State.railAfter_of_clear {v : ScanSet} {s : State} {c : Channel} (h : v.rails = 0 ∨ s.inUse c = false) :
    s.railAfter v c = 0 := by
  refine if_neg fun hc => ?_
  obtain ⟨huse, hrail, -⟩ := hc
  rcases h with h | h
  · rw [h] at hrail
    simp at hrail
  · exact Bool.false_ne_true (h.symm.trans huse)

theorem State.latchDue_publish {v : ScanSet} {s : State} (hrails : ∀ c, s.inUse c = false ∨ v.rails = 0)
    (hjack : s.inUse .jp = false ∨ v.jp ≤ (s.par.maxJack : Int))
    (hgrout : s.crew.phase ≠ .grouting ∨ v.gp ≤ (s.par.groutMax : Int))
    (hext : s.seqIn .holdLoad = false ∨ s.trip.extTime + 1 < s.par.extScans) : (s.publish v).latchDue = false := by
  have hrail (c : Channel) : (s.publish v).railTime c = 0 :=
    (State.railTime_publish v s c).trans (State.railAfter_of_clear (hrails c).symm)
  refine State.latchDue_of_clear (fun c => .inr (hrail c)) ?_ ?_ ?_ <;> rw [State.publish_eq]
  · refine hjack.imp_right fun h => if_neg fun hc => ?_
    exact absurd hc.2.2.2 (Int.not_lt.2 h)
  · refine hgrout.imp_right fun h => if_neg fun hc => ?_
    exact absurd hc.2.2.2 (Int.not_lt.2 h)
  · refine hext.imp_right fun h => ?_
    show (if _ then min s.par.extScans (s.trip.extTime + 1) else 0) < s.par.extScans
    split
    · exact lt_of_le_of_lt (min_le_right ..) h
    · omega

/-! ## The state at a scan -/

/-- On top of passing time a scan changes the transmitter's condition, the scan, the trip monitor's times and the
outputs. -/
theorem State.atScan_form (v : ScanSet) (s : State) :
    ∃ (tx : Tx) (rails : List Nat) (lc : Int) (jack grout ext : Nat) (window : List Int) (drives : Drives),
      s.atScan v =
        { s.elapse 100000 with
          lif := { (s.elapse 100000).lif with tx := tx }
          scan :=
            { jp := v.jp, ext := v.ext, lc := v.lc, gp := v.gp, gf := v.gf, hp := v.hp, wp := v.wp
              ro := if v.rails.getLsbD 7 then s.scan.ro else s.scan.ro + v.pulses, rails := v.rails
              railTimes := rails, lcTrusted := lc }
          trip := { s.trip with jackTime := jack, groutTime := grout, extTime := ext, window := window }
          drives := drives } := by
  obtain ⟨tx, rails, jack, grout, ext, window, drives, hfin⟩ := State.finish_form s
  unfold State.atScan
  rw [hfin, State.publish_eq]
  exact ⟨_, _, _, _, _, _, _, _, rfl⟩

/-- The blocks at a scan, before they act, are as time leaves them. -/
theorem State.atScan_crew (v : ScanSet) (s : State) : (s.atScan v).crew = (s.elapse 100000).crew := by
  obtain ⟨tx, rails, lc, jack, grout, ext, window, drives, hform⟩ := State.atScan_form v s
  rw [hform]

theorem State.atScan_placement (v : ScanSet) (s : State) : (s.atScan v).placement = (s.elapse 100000).placement := by
  obtain ⟨tx, rails, lc, jack, grout, ext, window, drives, hform⟩ := State.atScan_form v s
  rw [hform]

theorem State.atScan_grout (v : ScanSet) (s : State) : (s.atScan v).grout = (s.elapse 100000).grout := by
  obtain ⟨tx, rails, lc, jack, grout, ext, window, drives, hform⟩ := State.atScan_form v s
  rw [hform]

theorem State.atScan_seq (v : ScanSet) (s : State) : (s.atScan v).seq = (s.elapse 100000).seq := by
  obtain ⟨tx, rails, lc, jack, grout, ext, window, drives, hform⟩ := State.atScan_form v s
  rw [hform]

theorem State.atScan_aft (v : ScanSet) (s : State) : (s.atScan v).aft = (s.elapse 100000).aft := by
  obtain ⟨tx, rails, lc, jack, grout, ext, window, drives, hform⟩ := State.atScan_form v s
  rw [hform]

theorem State.atScan_lease (v : ScanSet) (s : State) : (s.atScan v).lease = (s.elapse 100000).lease := by
  obtain ⟨tx, rails, lc, jack, grout, ext, window, drives, hform⟩ := State.atScan_form v s
  rw [hform]

theorem State.atScan_par (v : ScanSet) (s : State) : (s.atScan v).par = s.par := by
  obtain ⟨tx, rails, lc, jack, grout, ext, window, drives, hform⟩ := State.atScan_form v s
  rw [hform]
  rfl

theorem State.atScan_named (v : ScanSet) (s : State) (c : Channel) : (s.atScan v).named c = s.named c := by
  obtain ⟨tx, rails, lc, jack, grout, ext, window, drives, hform⟩ := State.atScan_form v s
  rw [hform]
  rfl

theorem State.atScan_latches (v : ScanSet) (s : State) : (s.atScan v).trip.latches = s.trip.latches := by
  obtain ⟨tx, rails, lc, jack, grout, ext, window, drives, hform⟩ := State.atScan_form v s
  rw [hform]

theorem State.atScan_readings (v : ScanSet) (s : State) :
    (s.atScan v).scan.jp = v.jp ∧ (s.atScan v).scan.ext = v.ext ∧ (s.atScan v).scan.lc = v.lc
      ∧ (s.atScan v).scan.gp = v.gp ∧ (s.atScan v).scan.gf = v.gf ∧ (s.atScan v).scan.hp = v.hp
      ∧ (s.atScan v).scan.wp = v.wp := by
  obtain ⟨tx, rails, lc, jack, grout, ext, window, drives, hform⟩ := State.atScan_form v s
  rw [hform]
  exact ⟨rfl, rfl, rfl, rfl, rfl, rfl, rfl⟩

theorem State.finish_extTime_le (s : State) : s.finish.trip.extTime ≤ s.trip.extTime := by
  rw [State.finish_trip]
  show (if s.seqIn .holdLoad = true then s.trip.extTime else 0) ≤ s.trip.extTime
  split <;> omega

theorem State.latchDue_atScan {v : ScanSet} {s : State} (hrails : ∀ c, s.inUse c = false ∨ v.rails = 0)
    (hjack : s.inUse .jp = false ∨ v.jp ≤ (s.par.maxJack : Int))
    (hgrout : s.crew.phase ≠ .grouting ∨ v.gp ≤ (s.par.groutMax : Int))
    (hext : s.seqIn .holdLoad = false ∨ s.trip.extTime + 1 < s.par.extScans) : (s.atScan v).latchDue = false := by
  have hle := s.finish_extTime_le
  obtain ⟨tx, rails, jack, grout, ext, window, drives, hfin⟩ := State.finish_form s
  refine State.latchDue_publish ?_ ?_ ?_ ?_ <;> rw [hfin] at hle ⊢
  · exact hrails
  · exact hjack
  · exact hgrout
  · exact hext.imp_right fun h => lt_of_le_of_lt (Nat.add_le_add_right hle 1) h

theorem State.trusts_atScan {v : ScanSet} (s : State) (hrails : v.rails = 0) (c : Channel) :
    (s.atScan v).trusts c = !s.named c := by
  have hrail : (s.atScan v).railTime c = 0 :=
    (State.railTime_publish v _ c).trans (State.railAfter_of_clear (.inl hrails))
  obtain ⟨tx, rails, lc, jack, grout, ext, window, drives, hform⟩ := State.atScan_form v s
  unfold State.trusts
  rw [hrail, decide_eq_true (by omega), Bool.and_true, hform]
  rfl

/-- The pulses of a scan whose rope-out loop is not at its rail (R157). -/
theorem State.pulses_atScan {v : ScanSet} (s : State) (hrails : v.rails = 0) :
    ((s.atScan v).scan.ro - s.scan.ro).toNat = v.pulses.toNat := by
  obtain ⟨tx, rails, lc, jack, grout, ext, window, drives, hform⟩ := State.atScan_form v s
  rw [hform, hrails]
  show (s.scan.ro + v.pulses - s.scan.ro).toNat = v.pulses.toNat
  rw [BitVec.add_comm, BitVec.add_sub_cancel]

/-- A scan before which the state is `t` by what was due, and which brings no latch due, is its block's. -/
theorem exec_scanPublish_of_quiet {v : ScanSet} {s t : State} (hdue : s.takeOverdue = t)
    (hlatch : (t.atScan v).latchDue = false) :
    exec (.scanPublish v) s =
      .next (State.finish ((t.atScan v).consume ((t.atScan v).scan.ro - s.scan.ro).toNat)) :=
  exec_scanPublish_of_not_due (congrArg (fun x : State => (x.finish.elapse 100000).publish v) hdue) hlatch

/-! ## Phases without a block (R156) -/

/-- The phases in which no channel is in use. -/
def Phase.idle (p : Phase) : Prop := p = .setup ∨ p = .curing ∨ p = .cured ∨ p = .rejected ∨ p = .detached

theorem State.inUse_of_idle {s : State} (h : s.crew.phase.idle) (c : Channel) : s.inUse c = false := by
  unfold State.inUse
  rcases h with h | h | h | h | h <;> rw [h]

theorem Phase.ne_of_idle {p q : Phase} (h : p.idle)
    (hq : q = .placing ∨ q = .grouting ∨ q = .setting ∨ q = .stressing ∨ q = .locked) : p ≠ q := by
  rcases h with rfl | rfl | rfl | rfl | rfl <;> rcases hq with rfl | rfl | rfl | rfl | rfl <;> decide

theorem State.seqIn_of_phase {s : State} (h : s.crew.phase ≠ .stressing) (x : SeqSub) : s.seqIn x = false :=
  Bool.eq_false_iff.2 fun hin => h ((s.seqIn_iff x).1 hin).1

theorem State.stageIn_of_phase {s : State} (h : s.crew.phase ≠ .locked) (x : TopUpStage) : s.stageIn x = false :=
  Bool.eq_false_iff.2 fun hin => h ((s.stageIn_iff x).1 hin).1

theorem State.breakInDue_of_phase {s : State} (h : s.crew.phase ≠ .placing) : s.breakInDue = false :=
  Bool.eq_false_iff.2 fun hdue => h (s.breakInDue_iff.1 hdue).1

theorem State.placementDue_of_phase {s : State} (h : s.crew.phase ≠ .placing) : s.placementDue = false :=
  Bool.eq_false_iff.2 fun hdue => h (s.placementDue_iff.1 hdue).1

theorem State.volumeDue_of_phase {s : State} (h : s.crew.phase ≠ .grouting) : s.volumeDue = false :=
  Bool.eq_false_iff.2 fun hdue => h (s.groutOpen_iff.1 (s.volumeDue_iff.1 hdue).1).1

theorem State.refusalDue_of_phase {s : State} (h : s.crew.phase ≠ .grouting) : s.refusalDue = false :=
  Bool.eq_false_iff.2 fun hdue => h ((s.groutIn_iff _).1 (s.refusalDue_iff.1 hdue).1).1

theorem State.fillDue_of_phase {s : State} (h : s.crew.phase ≠ .grouting) : s.fillDue = false :=
  Bool.eq_false_iff.2 fun hdue => h ((s.groutIn_iff _).1 (s.fillDue_iff.1 hdue).1).1

theorem State.lowDue_of_phase {s : State} (h : s.crew.phase ≠ .locked) : s.lowDue = false :=
  Bool.eq_false_iff.2 fun hdue => h (s.lowDue_iff.1 hdue).1

theorem State.recoveryDue_of_phase {s : State} (h : s.crew.phase ≠ .locked) : s.recoveryDue = false :=
  Bool.eq_false_iff.2 fun hdue => h (s.pendingTopUp_iff.1 (s.recoveryDue_iff.1 hdue).1).1

theorem State.takeOverdue_of_idle {s : State} (h : s.crew.phase.idle) : s.takeOverdue = s := by
  have hplacing := Phase.ne_of_idle (q := .placing) h (.inl rfl)
  have hgrouting := Phase.ne_of_idle (q := .grouting) h (.inr (.inl rfl))
  have hsetting := Phase.ne_of_idle (q := .setting) h (.inr (.inr (.inl rfl)))
  have hstressing := Phase.ne_of_idle (q := .stressing) h (.inr (.inr (.inr (.inl rfl))))
  have hlocked := Phase.ne_of_idle (q := .locked) h (.inr (.inr (.inr (.inr rfl))))
  have huse := State.inUse_of_idle h
  exact State.takeOverdue_of_quiet
    (State.latchDue_of_clear (fun c => .inl (huse c)) (.inl (huse .jp)) (.inl hgrouting)
      (.inl (State.seqIn_of_phase hstressing _)))
    (State.breakInDue_of_phase hplacing) (fun hc => absurd hc hplacing) (State.placementDue_of_phase hplacing)
    (State.volumeDue_of_phase hgrouting) (State.refusalDue_of_phase hgrouting) (State.fillDue_of_phase hgrouting)
    (fun hc => absurd hc hgrouting) (fun hc => absurd hc hsetting) (State.lowDue_of_phase hlocked)
    (State.recoveryDue_of_phase hlocked) (.inr (State.seqIn_of_phase hstressing _))
    (.inr (State.stageIn_of_phase hlocked _))

theorem exec_scanPublish_of_idle {v : ScanSet} {s : State} (h : s.crew.phase.idle) :
    exec (.scanPublish v) s = .next (s.atScan v).finish := by
  have huse := State.inUse_of_idle h
  have hlatch : (s.atScan v).latchDue = false := State.latchDue_atScan (fun c => .inl (huse c)) (.inl (huse .jp))
    (.inl (Phase.ne_of_idle h (.inr (.inl rfl))))
    (.inl (State.seqIn_of_phase (Phase.ne_of_idle h (.inr (.inr (.inr (.inl rfl))))) _))
  have hcrew : (s.atScan v).crew.phase.idle := by
    obtain ⟨tx, rails, lc, jack, grout, ext, window, drives, hform⟩ := State.atScan_form v s
    rw [hform]
    exact h
  rw [exec_scanPublish_of_quiet (State.takeOverdue_of_idle h) hlatch, State.consume_elsewhere _ hcrew]

theorem State.lcTrusted_atScan {v : ScanSet} {s : State} (h : s.inUse .lc = false ∨ v.rails = 0) :
    (s.atScan v).scan.lcTrusted = if s.named .lc then s.scan.lcTrusted else v.lc := by
  obtain ⟨tx, rails, jack, grout, ext, window, drives, hfin⟩ := State.finish_form s
  have hrail : (s.finish.elapse 100000).railAfter v .lc = 0 := by
    refine State.railAfter_of_clear (h.symm.imp_right fun huse => ?_)
    rw [hfin]
    exact huse
  unfold State.atScan
  rw [State.publish_eq, hrail, hfin]
  by_cases hnamed : s.named .lc = true
  · exact (if_neg fun hc => Bool.false_ne_true (hc.1.symm.trans hnamed)).trans (if_pos hnamed).symm
  · exact (if_pos ⟨Bool.eq_false_of_not_eq_true hnamed, by decide⟩).trans (if_neg hnamed).symm

/-! ## Values (R156, R157) -/

theorem readingsStand_scanEffect (v : ScanSet) (s : State) : ReadingsStand (s.publish v) (s.scanEffect v) :=
  .ite _
    ((readingsStand_drawFree _).trans
      (.ite _ ((readingsStand_takeLatches _).trans (readingsStand_consume _ _)) (readingsStand_consume _ _)))
    (readingsStand_consume _ _)

theorem State.publish_pending (v : ScanSet) (s : State) : (s.publish v).pending = s.pending := by rw [State.publish_eq]

theorem State.publish_binding (v : ScanSet) (s : State) : (s.publish v).binding = s.binding := by rw [State.publish_eq]

theorem State.eq_of_pending_of_binding {s t : State} (hp : t.pending = s.pending) (hb : t.binding = s.binding) :
    t =
      { s with
        free := t.free, lif := t.lif, lease := t.lease, crew := t.crew, placement := t.placement, grout := t.grout
        seq := t.seq, aft := t.aft, store := t.store, roster := t.roster, scan := t.scan, trip := t.trip
        drives := t.drives } := by
  rw [← hp, ← hb]

/-- The values of a published set stand in the scan once its event is closed. -/
theorem State.scan_of_published {v : ScanSet} {s t : State} (h : ReadingsStand (s.publish v) t) :
    t.scan.jp = v.jp ∧ t.scan.ext = v.ext ∧ t.scan.lc = v.lc ∧ t.scan.gp = v.gp ∧ t.scan.gf = v.gf
      ∧ t.scan.hp = v.hp ∧ t.scan.wp = v.wp ∧ t.scan.rails = v.rails
      ∧ t.scan.ro = (if v.rails.getLsbD 7 then s.scan.ro else s.scan.ro + v.pulses) := by
  rw [h.scan, State.publish_eq]
  exact ⟨rfl, rfl, rfl, rfl, rfl, rfl, rfl, rfl, rfl⟩

/-- Settles O39: the values stand through every block by `readingsStand_scanEffect`; in a phase without a block
`exec_scanPublish_of_idle`. -/
theorem scanPublishesItsValues : Obligations.ScanPublishesItsValues := by
  refine ⟨fun v s => ?_, fun v s hphase => ?_⟩
  · have hbefore := readingsStand_beforeScan s
    have hstand := (readingsStand_scanEffect v (s.takeOverdue.finish.elapse 100000)).trans (readingsStand_finish _)
    have hvalues := State.scan_of_published hstand
    rw [State.ro_beforeScan] at hvalues
    exact ⟨_, exec_scanPublish v s, State.eq_of_pending_of_binding
      (hstand.pending.trans ((State.publish_pending v _).trans hbefore.pending))
      (hstand.binding.trans ((State.publish_binding v _).trans hbefore.binding)), hvalues⟩
  · have hlc := State.lcTrusted_atScan (v := v) (.inl (State.inUse_of_idle (s := s) hphase .lc))
    have hexec := exec_scanPublish_of_idle (v := v) hphase
    obtain ⟨tx, rails, lc, jack, grout, ext, window, drives, hform⟩ := State.atScan_form v s
    obtain ⟨tx', rails', jack', grout', ext', window', drives', hfin⟩ := State.finish_form (s.atScan v)
    rw [hfin] at hexec
    rw [hform] at hexec hlc
    exact ⟨_, hexec, rfl, rfl, rfl, rfl, rfl, rfl, rfl, rfl, rfl, rfl, rfl, rfl, rfl, rfl, hlc⟩

end Sys2Proof.Machine

/-! Setting and curing: the watch, the two timers, and a scan in SETTING (R44, R110, R111, R112). -/

namespace Sys2Proof.Machine

/-! ## The watch and the timers -/

theorem State.settingEvent_of_due {s : State} (hphase : s.crew.phase = .setting) (hwatch : s.grout.watch = .armed)
    (htime : 10 ≤ s.grout.breakTime) :
    s.settingEvent =
      { s with
        lif :=
          { s.lif with
            alert :=
              if s.listenOnly then s.lif.alert
              else some ⟨⟨.breakthrough, .setting, BitVec.ofInt 16 s.scan.gp⟩, 0⟩ }
        grout := { s.grout with watch := .alerted, breakTime := 0 } } := by
  refine (if_pos ⟨hphase, hwatch, htime⟩).trans ?_
  rw [State.placeAlert_eq]
  rfl

/-- CURING entered, the deferred list not yet granted. -/
def State.curingEntered (s : State) : State :=
  { s with
    crew := { s.crew with phase := .curing }
    grout :=
      { s.grout with
        setTimer := .off, watch := .unarmed, breakTime := 0, cureTimer := ⟨true, 0, s.par.cureTime * 3600000000⟩ } }

theorem State.toCuring_of_idle {s : State} (hidle : s.lease.state = .idle) :
    s.toCuring =
      { s.curingEntered with
        lif := { s.lif with batch := s.batchGranting s.lease.deferred }
        lease := { s.lease with deferred := [] } } :=
  State.grantDeferred_of_grantsAll (s := s.curingEntered) hidle ⟨rfl, rfl⟩

theorem State.setEnd_of_on {s : State} (hon : s.grout.setTimer.on = true) (hphase : s.crew.phase = .setting) :
    s.setEnd = (s.expire s.grout.setTimer).toCuring := if_pos (by simp [hon, hphase])

theorem State.cureEnd_of_on {s : State} (hon : s.grout.cureTimer.on = true) (hphase : s.crew.phase = .curing) :
    s.cureEnd = ((s.expire s.grout.cureTimer).onGrout fun g => { g with cureTimer := .off }).toPhase .cured :=
  if_pos (by simp [hon, hphase])

/-! ## A scan in SETTING (R111) -/

theorem State.settingScan_eq {s : State} {named : Bool} (htrusts : s.trusts .gp = !named)
    (htime : s.grout.breakTime < 10) :
    s.settingScan =
      { s with
        grout :=
          { s.grout with
            watch :=
              if named = false ∧ s.grout.watch = .unarmed ∧ s.scan.gp ≤ (s.par.breakthrough : Int) then .armed
              else s.grout.watch
            breakTime :=
              if named = true then 0
              else if s.grout.watch = .armed then
                (if (s.par.breakthrough : Int) < s.scan.gp then s.grout.breakTime + 1 else 0)
              else s.grout.breakTime } } := by
  have hmin : min 10 (s.grout.breakTime + 1) = s.grout.breakTime + 1 := by omega
  unfold State.settingScan State.onGrout
  refine congrArg (fun g => { s with grout := g }) ?_
  dsimp only
  rw [htrusts, Bool.not_not, hmin]
  generalize s.grout = g
  cases named with
  | true => simp
  | false =>
    cases g with
    | mk _ _ _ _ _ _ _ _ _ _ _ _ _ _ watch =>
      cases watch with
      | unarmed => by_cases hlow : s.scan.gp ≤ (s.par.breakthrough : Int) <;> simp [hlow]
      | armed => simp
      | alerted => simp

theorem State.consume_of_setting (rise : Nat) {s : State} (h : s.crew.phase = .setting) :
    s.consume rise = s.settingScan := by
  unfold State.consume
  rw [h]

theorem State.inUse_of_setting {s : State} (h : s.crew.phase = .setting) {c : Channel} (hc : c ≠ .gp) :
    s.inUse c = false := by
  unfold State.inUse
  rw [h]
  exact beq_false_of_ne hc

theorem State.takeOverdue_of_setting {s : State} (hphase : s.crew.phase = .setting) (htime : s.grout.breakTime < 10)
    (hlatch : s.latchDue = false) : s.takeOverdue = s := by
  have hplacing : s.crew.phase ≠ .placing := by rw [hphase]; decide
  have hgrouting : s.crew.phase ≠ .grouting := by rw [hphase]; decide
  have hlocked : s.crew.phase ≠ .locked := by rw [hphase]; decide
  have hstressing : s.crew.phase ≠ .stressing := by rw [hphase]; decide
  exact State.takeOverdue_of_quiet hlatch (State.breakInDue_of_phase hplacing) (fun hc => absurd hc hplacing)
    (State.placementDue_of_phase hplacing) (State.volumeDue_of_phase hgrouting) (State.refusalDue_of_phase hgrouting)
    (State.fillDue_of_phase hgrouting) (fun hc => absurd hc hgrouting) (fun _ => htime)
    (State.lowDue_of_phase hlocked) (State.recoveryDue_of_phase hlocked) (.inr (State.seqIn_of_phase hstressing _))
    (.inr (State.stageIn_of_phase hlocked _))

/-- Settles O48: each event by its lemma; a scan by `State.settingScan_eq`. -/
theorem settingAndCuring : Obligations.SettingAndCuring := by
  refine ⟨fun s hphase hwatch htime => exec_of_eventOf (State.settingEvent_of_due hphase hwatch htime),
    fun s hon hphase hidle => ?_, fun s hon hphase => exec_of_eventOf (State.cureEnd_of_on hon hphase),
    fun v s hphase hrails hzeros htime => ?_⟩
  · have hev : eventOf .setTimerEnd s = _ := (State.setEnd_of_on hon hphase).trans
      (State.toCuring_of_idle (s := s.expire s.grout.setTimer) hidle)
    obtain ⟨tx, rails, jack, gtime, ext, window, drives, hfin⟩ := State.finish_form (eventOf .setTimerEnd s)
    rw [hev] at hfin
    exact ⟨_, (exec_of_eventOf hev).trans (congrArg _ hfin), rfl, rfl, rfl, rfl, rfl, ⟨rfl, rfl⟩, rfl, rfl, hidle, rfl, rfl,
      rfl, rfl, rfl, rfl, rfl⟩
  · have huse : s.inUse .jp = false := State.inUse_of_setting hphase (by decide)
    have hgrouting : s.crew.phase ≠ .grouting := by rw [hphase]; decide
    have hhold : s.seqIn .holdLoad = false := State.seqIn_of_phase (by rw [hphase]; decide) _
    have hdue := State.takeOverdue_of_setting hphase htime (State.latchDue_of_clear
      (fun c => .inr (State.railTime_of_zeros hzeros c)) (.inl huse) (.inl hgrouting) (.inl hhold))
    have hlatch : (s.atScan v).latchDue = false :=
      State.latchDue_atScan (fun _ => .inr hrails) (.inl huse) (.inl hgrouting) (.inl hhold)
    have hphase' : (s.atScan v).crew.phase = .setting := by rw [State.atScan_crew]; exact hphase
    refine (exec_scanPublish_of_quiet hdue hlatch).trans (congrArg (fun x : State => Host.Outcome.next x.finish) ?_)
    refine (State.consume_of_setting _ hphase').trans
      ((State.settingScan_eq (State.trusts_atScan s hrails .gp) ?_).trans ?_)
    · rw [State.atScan_grout]
      exact htime
    · obtain ⟨tx, rails, lc, jack, grout, ext, window, drives, hform⟩ := State.atScan_form v s
      rw [hform]
      rfl

end Sys2Proof.Machine

/-! Placement at a scan: the rope counted, the limit and slack tests, and a breakthrough under a named GP (R83, R85 to R88,
R92, R167). -/

namespace Sys2Proof.Machine

/-! ## The block (R83, R85, R87, R92) -/

theorem State.countRope_eq {rise : Nat} {s : State} (hro : s.trusts .ro = true) (hgp : s.named .gp = false)
    (htime : s.placement.breakTime < 10) :
    s.countRope rise =
      { s with
        placement :=
          { s.placement with
            ropeOut := min 65535 (s.placement.ropeOut + rise)
            cleanDist :=
              if s.placement.sub = some .payout then min 200 (s.placement.cleanDist + rise) else s.placement.cleanDist
            breakTime := if (s.par.breakthrough : Int) < s.scan.gp then s.placement.breakTime + 1 else 0 } } := by
  have hmin : min 10 (s.placement.breakTime + 1) = s.placement.breakTime + 1 := by omega
  unfold State.countRope
  rw [hro, hgp]
  simp only [State.onPlacement, Bool.not_false, Bool.true_and, decide_eq_true_eq, if_true, hmin]

/-- The breakthrough time under a named GP, whatever else is counted (R167). -/
theorem State.countRope_of_named {rise : Nat} {s : State} (h : s.named .gp = true) :
    (s.countRope rise).placement.breakTime = 0 := by
  unfold State.countRope
  rw [h]
  rfl

/-- The limit and slack tests are taken (R85, R87, R88, R92). -/
def State.testing (s : State) : Prop :=
  s.placement.sub = some .payout ∧ s.crew.hold = false ∧ s.held = false
    ∧ s.placement.ropeOut < s.par.tendonLength ∧ (s.placement.breakTime < 10 ∨ s.latched .breakIn = true)

theorem State.no_break_no_end_iff {s : State} (hphase : s.crew.phase = .placing) :
    (s.breakInDue || s.placementDue) = false ↔
      (s.placement.breakTime < 10 ∨ s.latched .breakIn = true) ∧ s.placement.ropeOut < s.par.tendonLength := by
  rw [Bool.or_eq_false_iff, Bool.eq_false_iff, Bool.eq_false_iff, Ne, Ne, s.breakInDue_iff, s.placementDue_iff,
    not_and, not_and, not_and]
  refine and_congr ⟨fun h => ?_, fun h _ htime => ?_⟩ ⟨fun h => ?_, fun h _ => ?_⟩
  · by_cases htime : s.placement.breakTime < 10
    · exact .inl htime
    · exact .inr (by simpa using h hphase (by omega))
  · exact h.elim (fun hlt => absurd htime (by omega)) (fun hset => by simp [hset])
  · exact Nat.not_le.1 (h hphase)
  · exact Nat.not_le.2 h

theorem State.placementScan_of_testing {rise : Nat} {s u : State} (hu : s.countRope rise = u)
    (hphase : u.crew.phase = .placing) (h : u.testing) : s.placementScan rise = u.limitAndSlack := by
  obtain ⟨hsub, hhold, hheld, hrope, hbreak⟩ := h
  unfold State.placementScan
  rw [hu]
  dsimp only
  rw [if_neg (by rw [(State.no_break_no_end_iff hphase).2 ⟨hbreak, hrope⟩]; exact Bool.false_ne_true),
    if_pos (by simp [hsub, hhold, hheld])]

theorem State.placementScan_of_not_testing {rise : Nat} {s u : State} (hu : s.countRope rise = u)
    (hphase : u.crew.phase = .placing) (h : ¬u.testing) : s.placementScan rise = u := by
  unfold State.placementScan
  rw [hu]
  dsimp only
  split
  · rfl
  next hgoes =>
    refine if_neg fun hc => h ?_
    obtain ⟨hbreak, hrope⟩ := (State.no_break_no_end_iff hphase).1 (Bool.eq_false_of_not_eq_true hgoes)
    obtain ⟨hsub, hrest⟩ := hc
    exact ⟨hsub, by simpa using hrest.1, by simpa using hrest.2, hrope, hbreak⟩

theorem State.limitAndSlack_of_below {s : State} {wp : Int} {b : Binding} {k : Nat} (hwp : s.scan.wp = wp)
    (hpar : s.par = b) (hk : s.placement.slackTime = k) (h : wp ≤ (b.pullLimit : Int)) (htime : k < 20) :
    s.limitAndSlack =
      { s with placement := { s.placement with slackTime := if wp < (b.slack : Int) then k + 1 else 0 } } := by
  subst hwp hpar hk
  have hmin : min 20 (s.placement.slackTime + 1) = s.placement.slackTime + 1 := by omega
  refine (if_neg (Int.not_lt.2 h)).trans ?_
  rw [← hmin]
  rfl

/-- What a limit event makes of the counts, from these limit events (R85, R86). -/
def Placement.limited (events : Half) (p : Placement) : Placement :=
  { p with
    cleanDist := 0, slackTime := 0, limitEvents := if events = 65535#16 then events else events + 1 }

theorem State.limitAndSlack_of_limit {s : State} {wp : Int} {b : Binding} {events : Half} {n : Nat}
    (hwp : s.scan.wp = wp) (hpar : s.par = b) (hevents : s.placement.limitEvents = events)
    (hn : s.placement.nextLimitCount = n) (h : (b.pullLimit : Int) < wp) (hcount : n < 5) :
    s.limitAndSlack =
      { s with
        placement :=
          { s.placement.limited events with
            sub := some .limitOff, limitCount := n, offTime := ⟨true, 0, b.offTimeUs⟩ } } := by
  subst hwp hpar hevents hn
  exact (if_pos h).trans (if_neg (by omega))

theorem State.limitAndSlack_of_last {s : State} {wp : Int} {b : Binding} {events : Half} {n : Nat}
    (hwp : s.scan.wp = wp) (hpar : s.par = b) (hevents : s.placement.limitEvents = events)
    (hn : s.placement.nextLimitCount = n) (h : (b.pullLimit : Int) < wp) (hcount : 5 ≤ n) :
    s.limitAndSlack =
      State.latch .winchJam (BitVec.ofNat 16 s.placement.ropeOut)
        { s with placement := { s.placement.limited events with sub := some .waitGo, limitCount := 0 } } := by
  subst hwp hpar hevents hn
  exact (if_pos h).trans (if_pos hcount)

/-! ## WINCH_JAM (R86, R91, R160) -/

theorem Latch.winchJam_not_mutes : ¬Latch.winchJam.mutes := by simp [Latch.mutes]

theorem State.setLatch_placement (l : Latch) (v : Half) (ch : Option Channel) (s : State) :
    (s.setLatch l v ch).placement = if s.crew.phase = .placing then s.placement.atLatch else s.placement := by
  obtain ⟨lif, hnote⟩ := State.noteLatch_form l v ch s
  obtain ⟨ask, batch, lease, q, a, hheld⟩ := (s.noteLatch l v ch).askHeld_form
  rw [State.setLatch_eq_blocks, hheld, hnote]
  rfl

theorem State.setStatus_of_placing (x : RequestStatus) {s : State} (h : s.crew.phase = .placing) :
    s.setStatus x = s := by
  unfold State.setStatus State.setRequest
  rw [if_neg (by rw [h]; decide), if_neg (by rw [h]; decide)]

/-- In PLACING a latch reaches the two slots of the lease, the lease, and placement. -/
theorem State.setLatch_in_placing {l : Latch} (h : ¬l.mutes) (v : Half) {s : State} (hphase : s.crew.phase = .placing) :
    ∃ ask batch lease,
      s.setLatch l v none =
        { s.alerted l v with
          lif := { (s.alerted l v).lif with ask := ask, batch := batch }
          lease := lease, placement := s.placement.atLatch }
      ∧ (s.lease.state ≠ .asking → ask = s.lif.ask ∧ batch = s.lif.batch ∧ lease = s.lease) := by
  have hnote : s.noteLatch l v none = s.alerted l v := by
    rw [State.noteLatch_of_not_mutes h, State.alerted]
    split <;> rfl
  rw [State.setLatch_eq_blocks, hnote]
  by_cases hask : (s.alerted l v).lease.state = .asking ∧ (s.alerted l v).askAbort = false
  · rw [State.askHeld_of_asking hask.1 hask.2, State.setStatus_of_placing (s := (s.alerted l v).withdrawn) _ hphase]
    refine ⟨(s.alerted l v).withdrawn.lif.ask, (s.alerted l v).withdrawn.lif.batch, (s.alerted l v).withdrawn.lease, ?_,
      fun hnot => absurd hask.1 hnot⟩
    unfold State.blocksAtLatch
    rw [show (s.alerted l v).withdrawn.crew.phase = .placing from hphase]
    rfl
  · have hheld : (s.alerted l v).askHeld = s.alerted l v := if_neg hask
    refine ⟨s.lif.ask, s.lif.batch, s.lease, ?_, fun _ => ⟨rfl, rfl, rfl⟩⟩
    rw [hheld]
    unfold State.blocksAtLatch
    rw [show (s.alerted l v).crew.phase = .placing from hphase]
    rfl

theorem Placement.atLatch_of_waitGo {p : Placement} (h : p.sub = some .waitGo) : p.atLatch = p :=
  if_neg (by rw [h]; decide)

/-! ## What was due (R85 to R88, R92) -/

/-- Beyond placement nothing is due in PLACING. -/
theorem State.laterEvents_of_placing {s : State} (hphase : s.crew.phase = .placing) :
    s.refusalEvent.fillEvent.sagEvent.cleanTimeEvent.settingEvent.lowEvent.recoveryEvent.settleReadEvent.topUpReadEvent
      = s := by
  have hgrouting : s.crew.phase ≠ .grouting := by rw [hphase]; decide
  have hsetting : s.crew.phase ≠ .setting := by rw [hphase]; decide
  have hstressing : s.crew.phase ≠ .stressing := by rw [hphase]; decide
  have hlocked : s.crew.phase ≠ .locked := by rw [hphase]; decide
  rw [State.groutEvents_of_not_due (State.volumeDue_of_phase hgrouting) (State.refusalDue_of_phase hgrouting)
      (State.fillDue_of_phase hgrouting) fun hc => absurd hc hgrouting,
    State.cleanTimeEvent_of_not_due fun hc => absurd hc hgrouting,
    State.settingEvent_of_not_due fun hc => absurd hc hsetting,
    State.readEvents_of_not_due (State.lowDue_of_phase hlocked) (State.recoveryDue_of_phase hlocked)
      (.inr (State.seqIn_of_phase hstressing _)) (.inr (State.stageIn_of_phase hlocked _))]

/-- With nothing but the clean distance due. -/
theorem State.takeOverdue_of_placing {s : State} (hphase : s.crew.phase = .placing) (hlatch : s.latchDue = false)
    (hbreak : s.breakInDue = false) (hdone : s.placementDue = false) (hslack : s.placement.slackTime < 20) :
    s.takeOverdue =
      { s with
        placement :=
          { s.placement with limitCount := if 200 ≤ s.placement.cleanDist then 0 else s.placement.limitCount } } := by
  unfold State.takeOverdue
  rw [State.takeLatches_of_not_due hlatch, State.placementEvents_of_not_due hbreak hdone fun _ => hslack,
    State.cleanDistanceEvent_eq hphase]
  exact State.laterEvents_of_placing hphase

theorem State.inUse_of_placing {s : State} (h : s.crew.phase = .placing) : s.inUse .jp = false := by
  unfold State.inUse
  rw [h]
  rfl

theorem State.consume_of_placing (rise : Nat) {s : State} (h : s.crew.phase = .placing) :
    s.consume rise = s.placementScan rise := by
  unfold State.consume
  rw [h]

end Sys2Proof.Machine

/-! A scan in PLACING (R83, R85 to R88, R92, R156, R167). -/

namespace Sys2Proof.Machine

/-! ## A scan with nothing but the clean distance overdue -/

/-- In PLACING, no channel at its rail, and nothing but the clean distance due. -/
structure PlacingScan (v : ScanSet) (s : State) : Prop where
  phase : s.crew.phase = .placing
  rails : v.rails = 0
  zeros : s.scan.railTimes = [0, 0, 0, 0, 0, 0, 0, 0]
  named : s.trip.named = []
  broken : s.placement.breakTime < 10
  rope : s.placement.ropeOut < s.par.tendonLength
  slack : s.placement.slackTime < 20

/-- The consecutive-limit count once a clean distance of 200 cm has been taken. -/
def State.countBefore (s : State) : Nat := if 200 ≤ s.placement.cleanDist then 0 else s.placement.limitCount

/-- The state with the clean distance taken. -/
def State.cleanTaken (s : State) : State := { s with placement := { s.placement with limitCount := s.countBefore } }

/-- Rope-out at the scan. -/
def State.ropeAfter (v : ScanSet) (s : State) : Nat := min 65535 (s.placement.ropeOut + v.pulses.toNat)

/-- The clean distance at the scan. -/
def State.cleanAfter (v : ScanSet) (s : State) : Nat :=
  if s.placement.sub = some .payout then min 200 (s.placement.cleanDist + v.pulses.toNat) else s.placement.cleanDist

/-- The breakthrough time at the scan. -/
def State.brokenAfter (v : ScanSet) (s : State) : Nat :=
  if (s.par.breakthrough : Int) < v.gp then s.placement.breakTime + 1 else 0

/-- The state at the scan with the rope counted. -/
def State.ropeCounted (v : ScanSet) (s : State) : State :=
  { s.cleanTaken.atScan v with
    placement :=
      { (s.cleanTaken.atScan v).placement with
        ropeOut := s.ropeAfter v, cleanDist := s.cleanAfter v, breakTime := s.brokenAfter v } }

/-- The limit and slack tests of the scan are taken. -/
def State.testingAt (v : ScanSet) (s : State) : Prop :=
  s.placement.sub = some .payout ∧ s.crew.hold = false ∧ s.held = false ∧ s.ropeAfter v < s.par.tendonLength
    ∧ (s.brokenAfter v < 10 ∨ s.latched .breakIn = true)

/-- The consecutive-limit count with a limit event at the scan. -/
def State.limitsAfter (v : ScanSet) (s : State) : Nat := (if 200 ≤ s.cleanAfter v then 0 else s.countBefore) + 1

theorem PlacingScan.cleanTaken {v : ScanSet} {s : State} (h : PlacingScan v s) : PlacingScan v s.cleanTaken :=
  ⟨h.phase, h.rails, h.zeros, h.named, h.broken, h.rope, h.slack⟩

theorem PlacingScan.takeOverdue {v : ScanSet} {s : State} (h : PlacingScan v s) : s.takeOverdue = s.cleanTaken := by
  have hgrouting : s.crew.phase ≠ .grouting := by rw [h.phase]; decide
  have hstressing : s.crew.phase ≠ .stressing := by rw [h.phase]; decide
  have hlatch : s.latchDue = false := State.latchDue_of_clear (fun c => .inr (State.railTime_of_zeros h.zeros c))
    (.inl (State.inUse_of_placing h.phase)) (.inl hgrouting) (.inl (State.seqIn_of_phase hstressing _))
  have hbroken := h.broken
  have hrope := h.rope
  refine State.takeOverdue_of_placing h.phase hlatch ?_ ?_ h.slack
  · refine Bool.eq_false_iff.2 fun hdue => ?_
    obtain ⟨-, htime, -⟩ := s.breakInDue_iff.1 hdue
    omega
  · refine Bool.eq_false_iff.2 fun hdue => ?_
    obtain ⟨-, hend⟩ := s.placementDue_iff.1 hdue
    omega

theorem PlacingScan.latchDue {v : ScanSet} {s : State} (h : PlacingScan v s) : (s.atScan v).latchDue = false :=
  State.latchDue_atScan (fun _ => .inr h.rails) (.inl (State.inUse_of_placing h.phase))
    (.inl (by rw [h.phase]; decide)) (.inl (State.seqIn_of_phase (by rw [h.phase]; decide) _))

theorem PlacingScan.not_named {v : ScanSet} {s : State} (h : PlacingScan v s) (c : Channel) : s.named c = false := by
  unfold State.named
  rw [h.named]
  rfl

theorem PlacingScan.countRope {v : ScanSet} {s : State} (h : PlacingScan v s) :
    (s.cleanTaken.atScan v).countRope v.pulses.toNat = s.ropeCounted v := by
  have hclean := h.cleanTaken
  obtain ⟨tx, rails, lc, jack, grout, ext, window, drives, hform⟩ := State.atScan_form v s.cleanTaken
  refine (State.countRope_eq ?_ ?_ ?_).trans ?_
  · rw [State.trusts_atScan _ hclean.rails, hclean.not_named]
    rfl
  · rw [State.atScan_named, hclean.not_named]
  · rw [hform]
    exact h.broken
  · rw [State.ropeCounted, hform]
    rfl

theorem PlacingScan.exec_eq {v : ScanSet} {s : State} (h : PlacingScan v s) :
    exec (.scanPublish v) s = .next (State.finish ((s.cleanTaken.atScan v).placementScan v.pulses.toNat)) := by
  have hphase : (s.cleanTaken.atScan v).crew.phase = .placing := by rw [State.atScan_crew]; exact h.phase
  have hpulses := State.pulses_atScan s.cleanTaken h.rails
  refine (exec_scanPublish_of_quiet h.takeOverdue h.cleanTaken.latchDue).trans ?_
  rw [State.consume_of_placing _ hphase]
  exact congrArg (fun n => Host.Outcome.next (State.finish ((s.cleanTaken.atScan v).placementScan n))) hpulses

/-- What the limit and slack tests read of the state at the scan. -/
theorem State.ropeCounted_reads (v : ScanSet) (s : State) :
    (s.ropeCounted v).scan.wp = v.wp ∧ (s.ropeCounted v).par = s.par
      ∧ (s.ropeCounted v).placement.slackTime = s.placement.slackTime
      ∧ (s.ropeCounted v).placement.limitEvents = s.placement.limitEvents
      ∧ (s.ropeCounted v).placement.nextLimitCount = s.limitsAfter v
      ∧ (s.ropeCounted v).crew.phase = s.crew.phase ∧ ((s.ropeCounted v).testing ↔ s.testingAt v) := by
  obtain ⟨tx, rails, lc, jack, grout, ext, window, drives, hform⟩ := State.atScan_form v s.cleanTaken
  unfold State.ropeCounted
  rw [hform]
  exact ⟨rfl, rfl, rfl, rfl, rfl, rfl, .rfl⟩

theorem PlacingScan.exec_of_not_testing {v : ScanSet} {s : State} (h : PlacingScan v s) (hnot : ¬s.testingAt v) :
    exec (.scanPublish v) s = .next (State.finish (s.ropeCounted v)) := by
  obtain ⟨-, -, -, -, -, hphase, htesting⟩ := s.ropeCounted_reads v
  rw [h.exec_eq, State.placementScan_of_not_testing h.countRope (hphase.trans h.phase) (mt htesting.1 hnot)]

theorem PlacingScan.exec_of_testing {v : ScanSet} {s : State} (h : PlacingScan v s) (htest : s.testingAt v) :
    exec (.scanPublish v) s = .next (State.finish (s.ropeCounted v).limitAndSlack) := by
  obtain ⟨-, -, -, -, -, hphase, htesting⟩ := s.ropeCounted_reads v
  rw [h.exec_eq, State.placementScan_of_testing h.countRope (hphase.trans h.phase) (htesting.2 htest)]

theorem PlacingScan.exec_of_below {v : ScanSet} {s : State} (h : PlacingScan v s) (htest : s.testingAt v)
    (hwp : v.wp ≤ (s.par.pullLimit : Int)) :
    exec (.scanPublish v) s = .next (State.finish
      { s.ropeCounted v with
        placement :=
          { (s.ropeCounted v).placement with
            slackTime := if v.wp < (s.par.slack : Int) then s.placement.slackTime + 1 else 0 } }) := by
  obtain ⟨hread, hpar, hslack, -, -, -, -⟩ := s.ropeCounted_reads v
  rw [h.exec_of_testing htest, State.limitAndSlack_of_below hread hpar hslack hwp h.slack]

theorem PlacingScan.exec_of_limit {v : ScanSet} {s : State} (h : PlacingScan v s) (htest : s.testingAt v)
    (hwp : (s.par.pullLimit : Int) < v.wp) (hcount : s.limitsAfter v < 5) :
    exec (.scanPublish v) s = .next (State.finish
      { s.ropeCounted v with
        placement :=
          { (s.ropeCounted v).placement.limited s.placement.limitEvents with
            sub := some .limitOff, limitCount := s.limitsAfter v, offTime := ⟨true, 0, s.par.offTimeUs⟩ } }) := by
  obtain ⟨hread, hpar, -, hevents, hn, -, -⟩ := s.ropeCounted_reads v
  rw [h.exec_of_testing htest, State.limitAndSlack_of_limit hread hpar hevents hn hwp hcount]

/-- The state at a limit event that is the fifth in a row, WINCH_JAM not yet latched. -/
def State.jammed (v : ScanSet) (s : State) : State :=
  { s.ropeCounted v with
    placement :=
      { (s.ropeCounted v).placement.limited s.placement.limitEvents with sub := some .waitGo, limitCount := 0 } }

theorem PlacingScan.exec_of_last {v : ScanSet} {s : State} (h : PlacingScan v s) (htest : s.testingAt v)
    (hwp : (s.par.pullLimit : Int) < v.wp) (hcount : 5 ≤ s.limitsAfter v) :
    exec (.scanPublish v) s =
      .next (State.finish (State.latch .winchJam (BitVec.ofNat 16 (s.ropeAfter v)) (s.jammed v))) := by
  obtain ⟨hread, hpar, -, hevents, hn, -, -⟩ := s.ropeCounted_reads v
  rw [h.exec_of_testing htest, State.limitAndSlack_of_last hread hpar hevents hn hwp hcount]
  rfl

end Sys2Proof.Machine

/-! What a scan in PLACING leaves as time leaves it, and the breakthrough under a named GP (R83, R86, R91, R92, R160,
R167). -/

namespace Sys2Proof.Machine

/-! ## The outcome of a scan -/

theorem State.drawn_winch_of_stopped {s : State} (h : s.placement.sub ≠ some .payout) : s.finish.drives.winch = false := by
  rw [State.finish_drives_eq]
  exact Bool.eq_false_iff.2 fun hwinch => h (s.winchOn_rule.1 hwinch).2.1

theorem State.phase_ropeCounted (v : ScanSet) (s : State) : (s.ropeCounted v).crew.phase = s.crew.phase := by
  obtain ⟨-, -, -, -, -, hphase, -⟩ := s.ropeCounted_reads v
  exact hphase

theorem State.latched_jammed (v : ScanSet) (l : Latch) (s : State) : (s.jammed v).latched l = s.latched l := by
  obtain ⟨tx, rails, lc, jack, grout, ext, window, drives, hform⟩ := State.atScan_form v s.cleanTaken
  unfold State.jammed State.ropeCounted
  rw [hform]
  rfl

/-- The scan latches WINCH_JAM. -/
def State.jamsAt (v : ScanSet) (s : State) : Prop :=
  s.testingAt v ∧ (s.par.pullLimit : Int) < v.wp ∧ 5 ≤ s.limitsAfter v ∧ s.latched .winchJam = false

/-- Where WINCH_JAM does not latch, the scan changes placement alone. -/
theorem PlacingScan.exec_of_no_jam {v : ScanSet} {s : State} (h : PlacingScan v s) (hnot : ¬s.jamsAt v) :
    ∃ P : Placement,
      exec (.scanPublish v) s = .next (State.finish { s.cleanTaken.atScan v with placement := P })
        ∧ P.ropeOut = s.ropeAfter v ∧ P.breakTime = s.brokenAfter v
        ∧ (s.testingAt v → (s.par.pullLimit : Int) < v.wp → P.sub ≠ some .payout) := by
  by_cases htest : s.testingAt v
  · by_cases hwp : (s.par.pullLimit : Int) < v.wp
    · by_cases hcount : 5 ≤ s.limitsAfter v
      · have hset : s.latched .winchJam = true := by
          by_contra hclear
          exact hnot ⟨htest, hwp, hcount, Bool.eq_false_of_not_eq_true hclear⟩
        have hexec := h.exec_of_last htest hwp hcount
        rw [State.latch_of_set ((s.latched_jammed v .winchJam).trans hset)] at hexec
        exact ⟨_, hexec, rfl, rfl, fun _ _ => nofun⟩
      · exact ⟨_, h.exec_of_limit htest hwp (by omega), rfl, rfl, fun _ _ => nofun⟩
    · exact ⟨_, h.exec_of_below htest (Int.not_lt.1 hwp), rfl, rfl, fun _ hlimit => absurd hlimit hwp⟩
  · exact ⟨_, h.exec_of_not_testing htest, rfl, rfl, fun hc => absurd hc htest⟩

/-- WINCH_JAM recorded and announced, with what the lease then holds. -/
def State.jamAnnounced (v : ScanSet) (ask : Option (Waiting AskFrame)) (batch : Waiting (List ReplyEntry))
    (lease : Lease) (s : State) : State :=
  { (s.jammed v).alerted .winchJam (BitVec.ofNat 16 (s.ropeAfter v)) with
    lif := { ((s.jammed v).alerted .winchJam (BitVec.ofNat 16 (s.ropeAfter v))).lif with ask := ask, batch := batch }
    lease := lease, placement := (s.jammed v).placement }

theorem PlacingScan.exec_of_jam {v : ScanSet} {s : State} (h : PlacingScan v s) (hjam : s.jamsAt v) :
    ∃ ask batch lease,
      exec (.scanPublish v) s = .next (State.finish (s.jamAnnounced v ask batch lease))
        ∧ ((s.jammed v).lease.state ≠ .asking →
            ask = (s.jammed v).lif.ask ∧ batch = (s.jammed v).lif.batch ∧ lease = (s.jammed v).lease) := by
  obtain ⟨htest, hwp, hcount, hclear⟩ := hjam
  have hexec := h.exec_of_last htest hwp hcount
  rw [State.latch_of_clear ((s.latched_jammed v .winchJam).trans hclear)] at hexec
  obtain ⟨ask, batch, lease, hset, hquiet⟩ := State.setLatch_in_placing Latch.winchJam_not_mutes
    (BitVec.ofNat 16 (s.ropeAfter v)) (s := s.jammed v) ((s.phase_ropeCounted v).trans h.phase)
  rw [Placement.atLatch_of_waitGo (p := (s.jammed v).placement) rfl] at hset
  exact ⟨ask, batch, lease, hexec.trans (congrArg (fun x : State => Host.Outcome.next x.finish) hset), hquiet⟩

theorem PlacingScan.outcome {v : ScanSet} {s : State} (h : PlacingScan v s) :
    ∃ t, exec (.scanPublish v) s = .next t
      ∧ t =
          { s.elapse 100000 with
            lif := t.lif, lease := t.lease, placement := t.placement, scan := t.scan, trip := t.trip
            drives := t.drives }
      ∧ (s.lease.state ≠ .asking →
          t.lease = (s.elapse 100000).lease
          ∧ t.lif = { (s.elapse 100000).lif with alert := t.lif.alert, tx := t.lif.tx })
      ∧ t.placement.ropeOut = s.ropeAfter v ∧ t.placement.breakTime = s.brokenAfter v ∧ t.trip.named = s.trip.named
      ∧ ((s.testingAt v → (s.par.pullLimit : Int) < v.wp → s.limitsAfter v < 5) →
          t.lif = { (s.elapse 100000).lif with tx := t.lif.tx }
          ∧ t.lease = (s.elapse 100000).lease ∧ t.trip.latches = s.trip.latches
          ∧ t.trip.firstCause = s.trip.firstCause)
      ∧ (s.testingAt v → (s.par.pullLimit : Int) < v.wp → t.drives.winch = false)
      ∧ (s.testingAt v → (s.par.pullLimit : Int) < v.wp → 5 ≤ s.limitsAfter v →
          (s.latched .winchJam = false → t.trip.latches = s.trip.latches ++ [.winchJam]
            ∧ (s.listenOnly = false →
                t.lif.alert = some ⟨⟨.winchJam, .placing, BitVec.ofNat 16 (s.ropeAfter v)⟩, 0⟩))
          ∧ (s.trip.latches = [] →
              t.trip.firstCause = some ⟨.winchJam, .placing, BitVec.ofNat 16 (s.ropeAfter v), none⟩)) := by
  by_cases hjam : s.jamsAt v
  · obtain ⟨ask, batch, lease, hexec, hquiet⟩ := h.exec_of_jam hjam
    obtain ⟨htest, hwp, hcount, hclear⟩ := hjam
    have hwinch := State.drawn_winch_of_stopped (s := s.jamAnnounced v ask batch lease) nofun
    obtain ⟨tx, rails, lc, jack, grout, ext, window, drives, hform⟩ := State.atScan_form v s.cleanTaken
    obtain ⟨tx', rails', jack', grout', ext', window', drives', hfin⟩ :=
      State.finish_form (s.jamAnnounced v ask batch lease)
    rw [hfin] at hexec hwinch
    unfold State.jamAnnounced State.alerted at hexec hwinch
    unfold State.jammed State.ropeCounted at hexec hwinch hquiet
    rw [hform] at hexec hwinch hquiet
    have hlatches := Trip.set_latches_of_not_mem (l := .winchJam) (t := s.trip) hclear s.crew.phase
      (BitVec.ofNat 16 (s.ropeAfter v)) none
    refine ⟨_, hexec, rfl, fun hask => ?_, rfl, rfl, rfl, fun hfew => absurd (hfew htest hwp) (Nat.not_lt.2 hcount),
      fun _ _ => hwinch, fun _ _ _ => ⟨fun _ => ⟨hlatches, fun honly => ?_⟩, fun hnone => ?_⟩⟩
    · obtain ⟨rfl, rfl, rfl⟩ := hquiet hask
      exact ⟨rfl, rfl⟩
    · rw [← h.phase]
      exact if_neg fun hc => Bool.false_ne_true (honly.symm.trans hc)
    · rw [← h.phase]
      exact (Trip.set_firstCause .winchJam s.crew.phase (BitVec.ofNat 16 (s.ropeAfter v)) none s.trip).trans
        (if_pos hnone)
  · obtain ⟨P, hexec, hrope, hbroken, hsub⟩ := h.exec_of_no_jam hjam
    have hwinch (htest : s.testingAt v) (hwp : (s.par.pullLimit : Int) < v.wp) :
        (State.finish { s.cleanTaken.atScan v with placement := P }).drives.winch = false :=
      State.drawn_winch_of_stopped (hsub htest hwp)
    obtain ⟨tx, rails, lc, jack, grout, ext, window, drives, hform⟩ := State.atScan_form v s.cleanTaken
    obtain ⟨tx', rails', jack', grout', ext', window', drives', hfin⟩ :=
      State.finish_form { s.cleanTaken.atScan v with placement := P }
    rw [hfin] at hexec hwinch
    rw [hform] at hexec hwinch
    refine ⟨_, hexec, rfl, fun _ => ⟨rfl, rfl⟩, hrope, hbroken, rfl, fun _ => ⟨rfl, rfl, rfl, rfl⟩, hwinch,
      fun htest hwp hcount => ?_⟩
    have hset : s.latched .winchJam = true := by
      by_contra hclear
      exact hjam ⟨htest, hwp, hcount, Bool.eq_false_of_not_eq_true hclear⟩
    refine ⟨fun hclear => absurd (hclear.symm.trans hset) Bool.false_ne_true, fun hnone => ?_⟩
    exact absurd (List.contains_iff_mem.1 hset) (by rw [hnone]; exact List.not_mem_nil)

end Sys2Proof.Machine

/-! The breakthrough time under a SENSOR_FAULT naming GP (R92, R167). -/

namespace Sys2Proof.Machine

/-- The breakthrough time, rope-out and BREAK_IN stand, and GP stays named. -/
structure BreakthroughStands (s t : State) : Prop where
  phase : t.crew.phase = s.crew.phase
  binding : t.binding = s.binding
  time : t.placement.breakTime = s.placement.breakTime
  rope : t.placement.ropeOut = s.placement.ropeOut
  latched : t.latched .breakIn = s.latched .breakIn
  named : s.named .gp = true → t.named .gp = true

theorem BreakthroughStands.refl (s : State) : BreakthroughStands s s := ⟨rfl, rfl, rfl, rfl, rfl, id⟩

theorem BreakthroughStands.trans {s t u : State} (h : BreakthroughStands s t) (k : BreakthroughStands t u) :
    BreakthroughStands s u :=
  ⟨k.phase.trans h.phase, k.binding.trans h.binding, k.time.trans h.time, k.rope.trans h.rope,
    k.latched.trans h.latched, fun hn => k.named (h.named hn)⟩

theorem BreakthroughStands.ite {s t u : State} (p : Prop) [Decidable p] (h : BreakthroughStands s t)
    (k : BreakthroughStands s u) : BreakthroughStands s (if p then t else u) := by
  split
  · exact h
  · exact k

theorem BreakthroughStands.foldl {α : Type} {op : State → α → State} (h : ∀ s a, BreakthroughStands s (op s a))
    (as : List α) (s : State) : BreakthroughStands s (as.foldl op s) := by
  induction as generalizing s with
  | nil => exact .refl s
  | cons a as ih => exact (h s a).trans (ih _)

/-! ## Latches -/

theorem Placement.atLatch_counts (p : Placement) :
    p.atLatch.breakTime = p.breakTime ∧ p.atLatch.ropeOut = p.ropeOut := by
  unfold Placement.atLatch
  split <;> exact ⟨rfl, rfl⟩

theorem Trip.set_contains_of_ne {l k : Latch} (h : k ≠ l) (p : Phase) (v : Half) (ch : Option Channel) (t : Trip) :
    (t.set l p v ch).latches.contains k = t.latches.contains k := by
  rw [Trip.set_latches]
  split
  · rfl
  · simp [h]

theorem Trip.set_named_of_named {c : Channel} {t : Trip} (h : t.named.contains c = true) (l : Latch) (p : Phase) (v : Half)
    (ch : Option Channel) : (t.set l p v ch).named.contains c = true := by
  cases ch with
  | none => exact h
  | some d =>
    rw [Trip.set_named_some]
    split
    · exact h
    · exact List.contains_iff_mem.2 (List.mem_append_left _ (List.contains_iff_mem.1 h))

theorem breakthroughStands_setLatch {l : Latch} (h : Latch.breakIn ≠ l) (v : Half) (ch : Option Channel) (s : State) :
    BreakthroughStands s (s.setLatch l v ch) := by
  have hcalm := calm_setLatch l v ch s
  have htrip := State.setLatch_trip l v ch s
  have hplace : (s.setLatch l v ch).placement.breakTime = s.placement.breakTime
      ∧ (s.setLatch l v ch).placement.ropeOut = s.placement.ropeOut := by
    rw [State.setLatch_placement]
    split
    · exact s.placement.atLatch_counts
    · exact ⟨rfl, rfl⟩
  refine ⟨congrArg Crew.phase hcalm.crew, hcalm.binding, hplace.1, hplace.2, ?_, fun hn => ?_⟩
  · unfold State.latched
    rw [htrip]
    exact Trip.set_contains_of_ne h _ _ _ _
  · unfold State.named
    rw [htrip]
    exact Trip.set_named_of_named hn _ _ _ _

theorem breakthroughStands_latch {l : Latch} (h : Latch.breakIn ≠ l) (v : Half) (s : State) :
    BreakthroughStands s (s.latch l v) := .ite _ (.refl s) (breakthroughStands_setLatch h v none s)

theorem breakthroughStands_sensorEvent (c : Channel) (s : State) : BreakthroughStands s (s.sensorEvent c) := by
  rw [State.sensorEvent_eq]
  exact .ite _
    (BreakthroughStands.trans (t := s.railCleared c) ⟨rfl, rfl, rfl, rfl, rfl, id⟩
      (breakthroughStands_setLatch (l := .sensorFault) (by decide) _ _ _))
    (.refl s)

theorem breakthroughStands_takeLatches (s : State) : BreakthroughStands s s.takeLatches :=
  (BreakthroughStands.foldl (fun t c => breakthroughStands_sensorEvent c t) allChannels s).trans
    ((BreakthroughStands.ite _ (breakthroughStands_latch (l := .jackOver) (by decide) _ _) (.refl _)).trans
      ((BreakthroughStands.ite _ (breakthroughStands_latch (l := .groutOver) (by decide) _ _) (.refl _)).trans
        (.ite _ (breakthroughStands_latch (l := .extRunaway) (by decide) _ _) (.refl _))))

/-! ## The rest of a scan -/

theorem breakthroughStands_cleanDistanceEvent (s : State) : BreakthroughStands s s.cleanDistanceEvent :=
  .ite _ ⟨rfl, rfl, rfl, rfl, rfl, id⟩ (.refl s)

theorem breakthroughStands_slackEvent (s : State) : BreakthroughStands s s.slackEvent :=
  .ite _ ⟨rfl, rfl, rfl, rfl, rfl, id⟩ (.refl s)

theorem breakthroughStands_limitAndSlack (s : State) : BreakthroughStands s s.limitAndSlack := by
  refine .ite _ ?_ ⟨rfl, rfl, rfl, rfl, rfl, id⟩
  refine .ite _ (BreakthroughStands.trans (t := State.onPlacement _ _) ?_
    (breakthroughStands_latch (l := .winchJam) (by decide) _ _)) ?_
  · exact ⟨rfl, rfl, rfl, rfl, rfl, id⟩
  · exact ⟨rfl, rfl, rfl, rfl, rfl, id⟩

theorem breakthroughStands_finish (s : State) : BreakthroughStands s s.finish := by
  obtain ⟨tx, rails, jack, gtime, ext, window, drives, hfin⟩ := State.finish_form s
  rw [hfin]
  exact ⟨rfl, rfl, rfl, rfl, rfl, id⟩

theorem breakthroughStands_elapse (d : Nat) (s : State) : BreakthroughStands s (s.elapse d) :=
  ⟨rfl, rfl, rfl, rfl, rfl, id⟩

theorem breakthroughStands_publish (v : ScanSet) (s : State) : BreakthroughStands s (s.publish v) := by
  rw [State.publish_eq]
  exact ⟨rfl, rfl, rfl, rfl, rfl, id⟩

/-- The breakthrough time is 0 at a scan under a named GP, and BREAK_IN as it was. -/
structure BreakthroughReset (s t : State) : Prop where
  phase : t.crew.phase = s.crew.phase
  time : t.placement.breakTime = 0
  latched : t.latched .breakIn = s.latched .breakIn

theorem BreakthroughStands.reset {s t u : State} (h : BreakthroughStands s t) (k : BreakthroughReset t u) :
    BreakthroughReset s u := ⟨k.phase.trans h.phase, k.time, k.latched.trans h.latched⟩

theorem BreakthroughReset.stands {s t u : State} (h : BreakthroughReset s t) (k : BreakthroughStands t u) :
    BreakthroughReset s u := ⟨k.phase.trans h.phase, k.time.trans h.time, k.latched.trans h.latched⟩

theorem breakthroughReset_consume {s : State} (rise : Nat) (hphase : s.crew.phase = .placing)
    (hnamed : s.named .gp = true) : BreakthroughReset s (s.consume rise) := by
  have hcount : BreakthroughReset s (s.countRope rise) := ⟨rfl, State.countRope_of_named hnamed, rfl⟩
  rw [State.consume_of_placing rise hphase]
  exact hcount.stands (.ite _ (.refl _) (.ite _ (breakthroughStands_limitAndSlack _) (.refl _)))

theorem breakthroughStands_takeOverdue {s : State} (hphase : s.crew.phase = .placing) (hbreak : s.breakInDue = false)
    (hdone : s.placementDue = false) : BreakthroughStands s s.takeOverdue := by
  have hdue {t : State} (h : BreakthroughStands s t) : t.breakInDue = false ∧ t.placementDue = false := by
    have hpar : t.par = s.par := by
      unfold State.par
      rw [h.binding]
    refine ⟨Eq.trans ?_ hbreak, Eq.trans ?_ hdone⟩
    · unfold State.breakInDue
      rw [h.phase, h.time, h.latched]
    · unfold State.placementDue
      rw [h.phase, h.rope, hpar]
  have hlatches := breakthroughStands_takeLatches s
  have hbreakIn : s.takeLatches.breakInEvent = s.takeLatches :=
    if_neg (by rw [(hdue hlatches).1]; exact Bool.false_ne_true)
  have hclean := hlatches.trans (breakthroughStands_cleanDistanceEvent _)
  have hslack := hclean.trans (breakthroughStands_slackEvent _)
  unfold State.takeOverdue
  rw [hbreakIn, State.placementEvent_of_not_due (hdue hclean).2,
    State.laterEvents_of_placing (hslack.phase.trans hphase)]
  exact hslack

theorem breakthroughReset_scanEffect {v : ScanSet} {s : State} (hphase : s.crew.phase = .placing)
    (hnamed : s.named .gp = true) : BreakthroughReset s (s.scanEffect v) := by
  have hconsume {t : State} (h : BreakthroughStands s t) (rise : Nat) : BreakthroughReset s (t.consume rise) :=
    h.reset (breakthroughReset_consume rise (h.phase.trans hphase) (h.named hnamed))
  have hpublish := breakthroughStands_publish v s
  have hdraw : BreakthroughStands s (s.publish v).drawFree := hpublish.trans ⟨rfl, rfl, rfl, rfl, rfl, id⟩
  unfold State.scanEffect
  dsimp only
  split
  · split
    · exact hconsume (hdraw.trans (breakthroughStands_takeLatches _)) _
    · exact hconsume hdraw _
  · exact hconsume hpublish _

/-- Settles O41: the block by `State.countRope_eq` and the limit and slack tests, the rest by `PlacingScan.outcome`; under
a named GP the breakthrough time by `breakthroughReset_scanEffect`. -/
theorem scanInPlacing : Obligations.ScanInPlacing := by
  refine ⟨fun v s hphase hrails hzeros hnamed hbroken hrope hslack => ?_, fun v s hphase hnamed hbreak hdone => ?_⟩
  · have h : PlacingScan v s := ⟨hphase, hrails, hzeros, hnamed, hbroken, hrope, hslack⟩
    exact ⟨h.exec_of_not_testing, h.exec_of_below, h.exec_of_limit, h.exec_of_last, h.outcome⟩
  · have hbefore := (breakthroughStands_takeOverdue hphase hbreak hdone).trans
      ((breakthroughStands_finish _).trans (breakthroughStands_elapse 100000 _))
    have hreset := (hbefore.reset (breakthroughReset_scanEffect (v := v) (hbefore.phase.trans hphase)
      (hbefore.named hnamed))).stands (breakthroughStands_finish _)
    exact ⟨_, exec_scanPublish v s, hreset.phase.trans hphase, hreset.time, hreset.latched⟩

end Sys2Proof.Machine

/-! A scan in GROUTING (R95, R96, R98 to R101, R103). -/

namespace Sys2Proof.Machine

/-! ## What the block reads -/

/-- The sub-state is FILL or PRESS. -/
abbrev State.filling (s : State) : Prop := s.grout.sub = some .fill ∨ s.grout.sub = some .press

/-- The sub-state is one in which grout is counted. -/
abbrev State.counting (s : State) : Prop :=
  s.filling ∨ s.grout.sub = some .yielding ∨ s.grout.sub = some .supplyWeak

/-- The grout valve is open. -/
abbrev State.opened (s : State) : Prop := s.filling ∧ s.crew.hold = false ∧ s.held = false

/-- The grout valve is modulated. -/
abbrev State.moving (s : State) : Prop := s.grout.sub = some .press ∧ s.crew.hold = false ∧ s.held = false

theorem State.groutOpen_eq {s : State} (h : s.crew.phase = .grouting) : s.groutOpen = decide s.filling :=
  Bool.eq_iff_iff.2 (by rw [s.groutOpen_iff, decide_eq_true_iff]; exact and_iff_right h)

theorem State.groutBegun_iff {s : State} (h : s.crew.phase = .grouting) : s.groutBegun = true ↔ s.counting := by
  unfold State.groutBegun State.counting State.filling
  simp only [Bool.or_eq_true, s.groutIn_iff, h, true_and, or_assoc]

theorem State.valveOf_eq {s : State} (h : s.crew.phase = .grouting) :
    s.valveOf =
      if s.crew.hold = false ∧ s.held = false then
        (if s.grout.sub = some .fill then .opened else if s.grout.sub = some .press then .modulated else .closed)
      else .closed := by
  rw [s.valveOf_rule]
  refine if_congr ?_ rfl rfl
  rw [s.held_iff]
  exact and_iff_right h

theorem State.valveOf_eq_modulated_iff {s : State} (h : s.crew.phase = .grouting) :
    s.valveOf = .modulated ↔ s.moving := by
  rw [State.valveOf_eq h]
  unfold State.moving
  by_cases hgo : s.crew.hold = false ∧ s.held = false
  · rw [if_pos hgo]
    by_cases hfill : s.grout.sub = some .fill
    · simp [hfill]
    · by_cases hpress : s.grout.sub = some .press <;> simp [hfill, hpress, hgo]
  · rw [if_neg hgo]
    simp [hgo]

theorem State.valveOf_ne_closed_iff {s : State} (h : s.crew.phase = .grouting) : s.valveOf ≠ .closed ↔ s.opened := by
  rw [State.valveOf_eq h]
  unfold State.opened State.filling
  by_cases hgo : s.crew.hold = false ∧ s.held = false
  · rw [if_pos hgo]
    by_cases hfill : s.grout.sub = some .fill
    · simp [hfill, hgo]
    · by_cases hpress : s.grout.sub = some .press <;> simp [hfill, hpress, hgo]
  · rw [if_neg hgo]
    simp [hgo]

/-! ## The block, step by step -/

/-- The volume counted at a scan, 0.1 L for each 600 of flow (R98). -/
abbrev State.volumeAt (gfNamed : Bool) (s : State) : Nat :=
  if s.counting ∧ gfNamed = false then min 1000000 (s.grout.volume + (s.grout.remainder + s.scan.gf.toNat) / 600)
  else s.grout.volume

/-- The refusal time at a scan (R100). -/
abbrev State.refusalAt (s : State) : Nat :=
  if s.moving then (if s.scan.gf < (s.par.refusalFlow : Int) then s.grout.refusalTime + 1 else 0)
  else s.grout.refusalTime

/-- The scan ends grouting (R99). -/
abbrev State.endsAt (gfNamed : Bool) (s : State) : Prop :=
  s.filling ∧ 10 * s.par.volumeLimit ≤ s.volumeAt gfNamed
    ∨ s.grout.sub = some .press ∧ 600 * s.par.refusalTime ≤ s.refusalAt

/-- The header is looked at (R99, R101, R103). -/
abbrev State.lookingAt (gfNamed hpNamed : Bool) (s : State) : Prop :=
  s.opened ∧ ¬s.endsAt gfNamed ∧ hpNamed = false

theorem State.countGrout_eq {s : State} {gfNamed : Bool} (hphase : s.crew.phase = .grouting)
    (hgf : s.trusts .gf = !gfNamed) :
    s.countGrout =
      { s with
        grout :=
          { s.grout with
            volume := s.volumeAt gfNamed
            remainder :=
              if s.counting ∧ gfNamed = false then (s.grout.remainder + s.scan.gf.toNat) % 600
              else s.grout.remainder } } := by
  have hiff : (s.groutBegun && s.trusts .gf) = true ↔ s.counting ∧ gfNamed = false := by
    rw [Bool.and_eq_true, State.groutBegun_iff hphase, hgf, Bool.not_eq_true']
  unfold State.countGrout State.volumeAt
  by_cases h : s.counting ∧ gfNamed = false
  · rw [if_pos (hiff.2 h), if_pos h, if_pos h]
    rfl
  · rw [if_neg (mt hiff.1 h), if_neg h, if_neg h]

theorem State.modulate_eq {s : State} {gpNamed : Bool} (hphase : s.crew.phase = .grouting)
    (hgp : s.trusts .gp = !gpNamed) :
    s.modulate =
      { s with
        grout :=
          { s.grout with
            opening :=
              if s.moving ∧ gpNamed = false then
                (if s.scan.gp < (s.par.stagePressure : Int) then min 100 (s.grout.opening + 5)
                  else if (s.par.stagePressure : Int) < s.scan.gp then s.grout.opening - 5
                  else s.grout.opening)
              else s.grout.opening
            refusalTime := s.refusalAt } } := by
  unfold State.modulate State.refusalAt
  by_cases h : s.moving
  · rw [if_pos ((State.valveOf_eq_modulated_iff hphase).2 h), if_pos h, hgp]
    cases gpNamed with
    | true => rw [if_neg (by simp)]; rfl
    | false => rw [if_pos ⟨h, rfl⟩]; rfl
  · rw [if_neg (mt (State.valveOf_eq_modulated_iff hphase).1 h), if_neg h, if_neg fun hc => h hc.1]

/-- The state at a scan before the header is looked at. -/
def State.tested (gfNamed gpNamed : Bool) (s : State) : State :=
  { s with
    grout :=
      { s.grout with
        volume := s.volumeAt gfNamed, refusalTime := s.refusalAt
        remainder :=
          if s.counting ∧ gfNamed = false then (s.grout.remainder + s.scan.gf.toNat) % 600 else s.grout.remainder
        testsOpen := decide s.filling
        opening :=
          if s.moving ∧ gpNamed = false then
            (if s.scan.gp < (s.par.stagePressure : Int) then min 100 (s.grout.opening + 5)
              else if (s.par.stagePressure : Int) < s.scan.gp then s.grout.opening - 5
              else s.grout.opening)
          else s.grout.opening } }

theorem State.tested_eq {s : State} {gfNamed gpNamed : Bool} (hphase : s.crew.phase = .grouting)
    (hgf : s.trusts .gf = !gfNamed) (hgp : s.trusts .gp = !gpNamed) :
    (s.countGrout.modulate.onGrout fun g => { g with testsOpen := s.groutOpen }) = s.tested gfNamed gpNamed := by
  rw [State.countGrout_eq hphase hgf, State.modulate_eq (gpNamed := gpNamed), State.groutOpen_eq hphase]
  · rfl
  · exact hphase
  · exact hgp

theorem State.tested_ends_iff {s : State} {gfNamed gpNamed : Bool} (hphase : s.crew.phase = .grouting) :
    ((s.tested gfNamed gpNamed).volumeDue || (s.tested gfNamed gpNamed).refusalDue) = true ↔ s.endsAt gfNamed := by
  rw [Bool.or_eq_true, State.volumeDue_iff, State.refusalDue_iff, State.groutOpen_iff, State.groutIn_iff]
  unfold State.endsAt
  refine or_congr ⟨fun h => ⟨h.1.2, h.2.2⟩, fun h => ⟨⟨hphase, h.1⟩, decide_eq_true h.1, h.2⟩⟩
    ⟨fun h => ⟨h.1.2, h.2.2⟩, fun h => ⟨⟨hphase, h.1⟩, decide_eq_true (.inr h.1), h.2⟩⟩

theorem State.measureHeader_eq {s : State} {hpNamed : Bool} (hphase : s.crew.phase = .grouting)
    (hhp : s.trusts .hp = !hpNamed) (hsag : s.grout.sagTime < 20) :
    s.measureHeader =
      { s with
        grout :=
          { s.grout with
            sagTime :=
              if s.opened ∧ hpNamed = false then
                (if s.scan.hp < (s.par.headerMin : Int) then s.grout.sagTime + 1 else 0)
              else s.grout.sagTime
            cleanTime :=
              if s.opened ∧ hpNamed = false then
                (if s.scan.hp < (s.par.headerMin : Int) then 0 else min 600 (s.grout.cleanTime + 1))
              else s.grout.cleanTime } } := by
  have hmin : min 20 (s.grout.sagTime + 1) = s.grout.sagTime + 1 := by omega
  have hiff : s.valveOf ≠ .closed ∧ s.trusts .hp = true ↔ s.opened ∧ hpNamed = false := by
    rw [State.valveOf_ne_closed_iff hphase, hhp, Bool.not_eq_true']
  unfold State.measureHeader
  by_cases h : s.opened ∧ hpNamed = false
  · rw [if_pos (hiff.2 h), if_pos h, if_pos h, ← hmin]
    unfold State.onGrout
    split <;> rfl
  · rw [if_neg (mt hiff.1 h), if_neg h, if_neg h]

/-- The grout controller at a scan. -/
theorem State.groutScan_eq {s : State} {gfNamed gpNamed hpNamed : Bool} (hphase : s.crew.phase = .grouting)
    (hgf : s.trusts .gf = !gfNamed) (hgp : s.trusts .gp = !gpNamed) (hhp : s.trusts .hp = !hpNamed)
    (hsag : s.grout.sagTime < 20) :
    s.groutScan =
      { s.tested gfNamed gpNamed with
        grout :=
          { (s.tested gfNamed gpNamed).grout with
            sagTime :=
              if s.lookingAt gfNamed hpNamed then
                (if s.scan.hp < (s.par.headerMin : Int) then s.grout.sagTime + 1 else 0)
              else s.grout.sagTime
            cleanTime :=
              if s.lookingAt gfNamed hpNamed then
                (if s.scan.hp < (s.par.headerMin : Int) then 0 else min 600 (s.grout.cleanTime + 1))
              else s.grout.cleanTime } } := by
  unfold State.groutScan
  rw [State.tested_eq hphase hgf hgp]
  dsimp only
  by_cases hends : s.endsAt gfNamed
  · have hnot : ¬s.lookingAt gfNamed hpNamed := fun hc => hc.2.1 hends
    rw [if_pos ((State.tested_ends_iff hphase).2 hends), if_neg hnot, if_neg hnot]
    rfl
  · rw [if_neg (mt (State.tested_ends_iff hphase).1 hends),
      State.measureHeader_eq (s := s.tested gfNamed gpNamed) (hpNamed := hpNamed) hphase hhp hsag]
    have hiff : (s.tested gfNamed gpNamed).opened ∧ hpNamed = false ↔ s.lookingAt gfNamed hpNamed :=
      ⟨fun h => ⟨h.1, hends, h.2⟩, fun h => ⟨h.1, h.2.2⟩⟩
    rw [if_congr hiff rfl rfl, if_congr hiff rfl rfl]
    rfl

end Sys2Proof.Machine

/-! A scan in GROUTING with nothing but the clean time overdue (R96, R98 to R101, R103, R156). -/

namespace Sys2Proof.Machine

/-! ## The clean time taken before the scan -/

/-- The closing of an event, field by field. -/
theorem State.finish_eq (s : State) :
    s.finish =
      { s with
        lif := s.clearTimes.startTx.lif, scan := s.clearTimes.scan, trip := s.clearTimes.trip, drives := s.drivesNow } := by
  rw [← State.finish_drives_eq]
  unfold State.finish State.showDrives State.startTx
  split <;> rfl

/-- The consecutive-yield count once a clean time of 60 s has been taken. -/
abbrev State.yieldsBefore (s : State) : Nat :=
  if s.filling ∧ 600 ≤ s.grout.cleanTime then 0 else s.grout.yieldCount

/-- The state with this consecutive-yield count. -/
def State.withYields (n : Nat) (s : State) : State := { s with grout := { s.grout with yieldCount := n } }

/-- No part of a scan before the block reads or writes the count. -/
theorem State.atScan_withYields (v : ScanSet) (n : Nat) (s : State) :
    (s.withYields n).atScan v =
      { s.atScan v with grout := { (s.atScan v).grout with yieldCount := n } } := by
  unfold State.atScan
  rw [State.publish_eq, State.publish_eq, State.finish_eq, State.finish_eq s, State.startTx_lif, State.startTx_lif]
  rfl

theorem State.cleanTimeEvent_eq {s : State} (hphase : s.crew.phase = .grouting) :
    s.cleanTimeEvent = s.withYields s.yieldsBefore := by
  have hiff : (s.groutOpen && decide (600 ≤ s.grout.cleanTime)) = true ↔ s.filling ∧ 600 ≤ s.grout.cleanTime := by
    rw [State.groutOpen_eq hphase, Bool.and_eq_true, decide_eq_true_iff, decide_eq_true_iff]
  unfold State.cleanTimeEvent State.yieldsBefore
  by_cases h : s.filling ∧ 600 ≤ s.grout.cleanTime
  · rw [if_pos (hiff.2 h), if_pos h]
    rfl
  · rw [if_neg (mt hiff.1 h), if_neg h]
    rfl

/-- Beyond grouting nothing is due in GROUTING. -/
theorem State.lastEvents_of_grouting {s : State} (hphase : s.crew.phase = .grouting) :
    s.settingEvent.lowEvent.recoveryEvent.settleReadEvent.topUpReadEvent = s := by
  have hsetting : s.crew.phase ≠ .setting := by rw [hphase]; decide
  have hstressing : s.crew.phase ≠ .stressing := by rw [hphase]; decide
  have hlocked : s.crew.phase ≠ .locked := by rw [hphase]; decide
  rw [State.settingEvent_of_not_due fun hc => absurd hc hsetting,
    State.readEvents_of_not_due (State.lowDue_of_phase hlocked) (State.recoveryDue_of_phase hlocked)
      (.inr (State.seqIn_of_phase hstressing _)) (.inr (State.stageIn_of_phase hlocked _))]

theorem State.takeOverdue_of_grouting {s : State} (hphase : s.crew.phase = .grouting) (hlatch : s.latchDue = false)
    (hvolume : s.volumeDue = false) (hrefusal : s.refusalDue = false) (hfill : s.fillDue = false)
    (hsag : s.grout.sagTime < 20) : s.takeOverdue = s.withYields s.yieldsBefore := by
  have hplacing : s.crew.phase ≠ .placing := by rw [hphase]; decide
  unfold State.takeOverdue
  rw [State.takeLatches_of_not_due hlatch,
    State.placementEvents_of_not_due (State.breakInDue_of_phase hplacing) (State.placementDue_of_phase hplacing)
      fun hc => absurd hc hplacing,
    State.cleanDistanceEvent_of_not_due fun hc => absurd hc hplacing,
    State.groutEvents_of_not_due hvolume hrefusal hfill fun _ => hsag, State.cleanTimeEvent_eq hphase]
  exact State.lastEvents_of_grouting hphase

theorem State.inUse_of_grouting {s : State} (h : s.crew.phase = .grouting) : s.inUse .jp = false := by
  unfold State.inUse
  rw [h]
  rfl

theorem State.consume_of_grouting (rise : Nat) {s : State} (h : s.crew.phase = .grouting) :
    s.consume rise = s.groutScan := by
  unfold State.consume
  rw [h]

/-- Settles O42: what is due by `State.takeOverdue_of_grouting`, the block by `State.groutScan_eq`. -/
theorem scanInGrouting : Obligations.ScanInGrouting := by
  intro v s hphase hrails hzeros hgp htime hvolume hrefusal hfill hsag
  have hhold : s.seqIn .holdLoad = false := State.seqIn_of_phase (by rw [hphase]; decide) _
  have hdue := State.takeOverdue_of_grouting hphase (State.latchDue_of_clear
    (fun c => .inr (State.railTime_of_zeros hzeros c)) (.inl (State.inUse_of_grouting hphase)) (.inr htime)
    (.inl hhold)) hvolume hrefusal hfill hsag
  have hlatch : ((s.withYields s.yieldsBefore).atScan v).latchDue = false :=
    State.latchDue_atScan (fun _ => .inr hrails) (.inl (State.inUse_of_grouting hphase)) (.inr hgp) (.inl hhold)
  have htrusts (c : Channel) : ((s.withYields s.yieldsBefore).atScan v).trusts c = !s.named c :=
    State.trusts_atScan _ hrails c
  have hphase' : ((s.withYields s.yieldsBefore).atScan v).crew.phase = .grouting := by
    rw [State.atScan_crew]; exact hphase
  have hsag' : ((s.withYields s.yieldsBefore).atScan v).grout.sagTime < 20 := by
    rw [State.atScan_grout]; exact hsag
  refine (exec_scanPublish_of_quiet hdue hlatch).trans (congrArg (fun x : State => Host.Outcome.next x.finish) ?_)
  refine (State.consume_of_grouting _ hphase').trans
    ((State.groutScan_eq hphase' (htrusts .gf) (htrusts .gp) (htrusts .hp) hsag').trans ?_)
  obtain ⟨tx, rails, lc, jack, grout, ext, window, drives, hform⟩ := State.atScan_form v s
  rw [State.atScan_withYields, hform]
  rfl

end Sys2Proof.Machine

/-! A scan in STRESSING (R118, R122, R124, R125, R132, R133, R156). -/

namespace Sys2Proof.Machine

/-! ## What was due, and no latch (R159, R164, R165) -/

theorem State.takeOverdue_of_stressing {s : State} (hphase : s.crew.phase = .stressing) (hlatch : s.latchDue = false)
    (hread : s.seq.jack.readDue = false ∨ s.seq.sub ≠ some .settle) : s.takeOverdue = s := by
  have hplacing : s.crew.phase ≠ .placing := by rw [hphase]; decide
  have hgrouting : s.crew.phase ≠ .grouting := by rw [hphase]; decide
  have hsetting : s.crew.phase ≠ .setting := by rw [hphase]; decide
  have hlocked : s.crew.phase ≠ .locked := by rw [hphase]; decide
  have hsettle (h : s.seq.sub ≠ some .settle) : s.seqIn .settle = false :=
    Bool.eq_false_iff.2 fun hin => h ((s.seqIn_iff _).1 hin).2
  exact State.takeOverdue_of_quiet hlatch (State.breakInDue_of_phase hplacing) (fun hc => absurd hc hplacing)
    (State.placementDue_of_phase hplacing) (State.volumeDue_of_phase hgrouting) (State.refusalDue_of_phase hgrouting)
    (State.fillDue_of_phase hgrouting) (fun hc => absurd hc hgrouting) (fun hc => absurd hc hsetting)
    (State.lowDue_of_phase hlocked) (State.recoveryDue_of_phase hlocked) (hread.imp_right hsettle)
    (.inr (State.stageIn_of_phase hlocked _))

theorem State.consume_of_stressing (rise : Nat) {s : State} (h : s.crew.phase = .stressing) :
    s.consume rise = s.seqScan := by
  unfold State.consume
  rw [h]

/-- A calm scan in STRESSING with no settle to be read is the sequencer's alone. -/
theorem exec_scanPublish_of_stressing {v : ScanSet} {s : State} (hphase : s.crew.phase = .stressing)
    (hcalm : s.calmAt v) (hread : s.seq.jack.readDue = false ∨ s.seq.sub ≠ some .settle)
    (hext : s.seq.sub ≠ some .holdLoad ∨ s.trip.extTime + 1 < s.par.extScans) :
    exec (.scanPublish v) s = .next (State.finish (s.atScan v).seqScan) := by
  obtain ⟨hrails, hzeros, hjp, htime⟩ := hcalm
  have hgrouting : s.crew.phase ≠ .grouting := by rw [hphase]; decide
  have hhold (h : s.seq.sub ≠ some .holdLoad) : s.seqIn .holdLoad = false :=
    Bool.eq_false_iff.2 fun hin => h ((s.seqIn_iff _).1 hin).2
  have hdue := State.takeOverdue_of_stressing hphase (State.latchDue_of_clear
    (fun c => .inr (State.railTime_of_zeros hzeros c)) (.inr htime) (.inl hgrouting)
    (hext.imp hhold fun h => by omega)) hread
  have hlatch : (s.atScan v).latchDue = false :=
    State.latchDue_atScan (fun _ => .inr hrails) (.inr hjp) (.inl hgrouting) (hext.imp_left hhold)
  have hphase' : (s.atScan v).crew.phase = .stressing := by rw [State.atScan_crew]; exact hphase
  exact (exec_scanPublish_of_quiet hdue hlatch).trans
    (congrArg (fun x : State => Host.Outcome.next x.finish) (State.consume_of_stressing _ hphase'))

/-! ## RAMP, HOLD_LOAD and the sub-states without a scan (R122, R124) -/

theorem State.seqScan_of_ramp {s : State} (h : s.seq.sub = some .ramp) : s.seqScan = s.rampScan := by
  unfold State.seqScan
  rw [h]

theorem State.seqScan_of_holdLoad {s : State} (h : s.seq.sub = some .holdLoad) : s.seqScan = s.holdScan := by
  unfold State.seqScan
  rw [h]

theorem State.seqScan_of_waiting {s : State}
    (h : s.seq.sub = some .waitLease ∨ s.seq.sub = some .abortWait ∨ s.seq.sub = some .seating
      ∨ s.seq.sub = some .halted) : s.seqScan = s := by
  unfold State.seqScan
  rcases h with h | h | h | h <;> rw [h]

theorem State.atTarget_iff (target : Nat) (s : State) :
    s.atTarget target = true ↔ s.jackLoad ≤ target + s.loadTolerance ∧ target ≤ s.jackLoad + s.loadTolerance := by
  simp [State.atTarget]

/-- The sequencer at a scan at which the ramp of LOCKOFF ends (R132). -/
def Seq.seatingBegun (q : Seq) : Seq :=
  { q with
    sub := some .seating
    jack := { q.jack with ramp := .off, raise := false, lower := false, seating := ⟨true, 0, 5000000⟩ } }

/-- The sequencer at a scan at which the ramp of another step ends (R122, R125). -/
def Seq.holdBegun (us : Nat) (ext : Int) (q : Seq) : Seq :=
  { q with
    sub := some .holdLoad, holdTimer := ⟨true, 0, us⟩, checks := 0, readings := 0
    alignRead := if q.step = 0 then ext else q.alignRead
    jack := { q.jack with ramp := .off, raise := false, lower := false } }

theorem State.rampScan_of_lockOff {s : State} (hnear : s.atTarget s.stepTarget = true)
    (hstep : s.stepIs .lockOff = true) :
    s.rampScan = { s.addPoint s.jackLoad s.testExt with seq := s.seq.seatingBegun } := by
  refine (if_pos hnear).trans ((if_pos hstep).trans ?_)
  unfold State.onSeq State.addPoint
  rw [State.handTest_seq]
  rfl

theorem State.rampScan_of_near {s : State} (hnear : s.atTarget s.stepTarget = true)
    (hstep : s.stepIs .lockOff = false) :
    s.rampScan = { s with seq := s.seq.holdBegun s.stepHoldUs s.scan.ext } :=
  (if_pos hnear).trans (if_neg (by rw [hstep]; exact Bool.false_ne_true))

theorem State.rampScan_of_far {s : State} (hfar : ¬s.atTarget s.stepTarget = true) :
    s.rampScan = { s with seq := { s.seq with jack := s.rampCalls s.stepTarget s.seq.jack } } := if_neg hfar

/-- How long a hold lasts, by the kind of its step (R124, R125, R126). -/
theorem State.stepHoldUs_of_align {s : State} (h : s.seq.step = 0) : s.stepHoldUs = 600000000 := by
  unfold State.stepHoldUs State.planStep
  rw [h]
  rfl

theorem State.stepHoldUs_of_proof {s : State} (h : s.stepIs .proof = true) : s.stepHoldUs = 3600000000 := by
  unfold State.stepIs at h
  unfold State.stepHoldUs
  obtain ⟨p, hp, hkind⟩ := Option.map_eq_some_iff.1 (beq_iff_eq.1 h)
  rw [hp]
  dsimp only
  rw [if_pos hkind]
  rfl

theorem State.stepHoldUs_of_other {s : State} {p : PlanStep} (h : s.planStep = some p) (hkind : p.kind ≠ .proof) :
    s.stepHoldUs = p.hold * 1000000 := by
  unfold State.stepHoldUs
  rw [h]
  dsimp only
  rw [if_neg hkind]
  rfl

theorem State.addPoint_of_none {s : State} (load : Nat) (ext : Int) (h : s.seq.slot = none) :
    s.addPoint load ext = s := by
  unfold State.addPoint State.handTest
  rw [h]

/-- The jack load of a scan is within the load tolerance of the target of the step (R122). -/
abbrev State.nearAt (v : ScanSet) (s : State) : Prop :=
  v.jp.toNat * s.par.ramArea / 10000 ≤ s.stepTarget + max (s.par.designLoad / 100) 2
    ∧ s.stepTarget ≤ v.jp.toNat * s.par.ramArea / 10000 + max (s.par.designLoad / 100) 2

theorem State.atTarget_atScan_iff (v : ScanSet) (s : State) :
    (s.atScan v).atTarget (s.atScan v).stepTarget = true ↔ s.nearAt v := by
  obtain ⟨tx, rails, lc, jack, grout, ext, window, drives, hform⟩ := State.atScan_form v s
  rw [State.atTarget_iff, hform]
  exact .rfl

theorem State.stepIs_atScan (v : ScanSet) (s : State) (k : StepKind) : (s.atScan v).stepIs k = s.stepIs k := by
  obtain ⟨tx, rails, lc, jack, grout, ext, window, drives, hform⟩ := State.atScan_form v s
  rw [hform]
  rfl

/-- In RAMP a scan changes the sequencer and the store alone. -/
theorem exec_scanPublish_of_ramp {v : ScanSet} {s : State} (hphase : s.crew.phase = .stressing)
    (hsub : s.seq.sub = some .ramp) (hcalm : s.calmAt v) :
    ∃ Q S, exec (.scanPublish v) s = .next (State.finish { s.atScan v with seq := Q, store := S })
      ∧ (s.nearAt v → s.stepIs .lockOff = true →
          Q = (s.elapse 100000).seq.seatingBegun
            ∧ ∀ n, s.seq.slot = some n →
              S = s.store.offer (.point n
                ⟨s.seq.step, v.jp.toNat * s.par.ramArea / 10000, v.ext - s.seq.datum.getD 0,
                  (s.elapse 100000).seq.clock / 1000000⟩))
      ∧ (s.nearAt v → s.stepIs .lockOff = false →
          Q = (s.elapse 100000).seq.holdBegun s.stepHoldUs v.ext ∧ S = s.store)
      ∧ (¬s.nearAt v →
          Q = { (s.elapse 100000).seq with
                jack := (s.atScan v).rampCalls (s.atScan v).stepTarget (s.atScan v).seq.jack }
            ∧ S = s.store) := by
  have hexec := exec_scanPublish_of_stressing hphase hcalm (.inr (by rw [hsub]; decide)) (.inl (by rw [hsub]; decide))
  have hsub' : (s.atScan v).seq.sub = some .ramp := by rw [State.atScan_seq]; exact hsub
  rw [State.seqScan_of_ramp hsub'] at hexec
  have hnear := State.atTarget_atScan_iff v s
  have hstep := State.stepIs_atScan v s .lockOff
  obtain ⟨tx, rails, lc, jack, grout, ext, window, drives, hform⟩ := State.atScan_form v s
  by_cases h : s.nearAt v
  · by_cases hlock : s.stepIs .lockOff = true
    · rw [State.rampScan_of_lockOff (hnear.2 h) (hstep.trans hlock)] at hexec
      have hkept : (s.atScan v).seq.slot = s.seq.slot := by rw [State.atScan_seq]; rfl
      cases hslot : s.seq.slot with
      | none =>
        rw [State.addPoint_of_none _ _ (hkept.trans hslot), hform] at hexec
        rw [hform]
        exact ⟨_, _, hexec, fun _ _ => ⟨rfl, nofun⟩, fun _ hc => absurd (hc.symm.trans hlock) Bool.false_ne_true,
          fun hc => absurd h hc⟩
      | some n =>
        rw [State.addPoint_of_slot _ _ (hkept.trans hslot), hform] at hexec
        rw [hform]
        refine ⟨_, _, hexec, fun _ _ => ⟨rfl, fun m hm => ?_⟩, fun _ hc => absurd (hc.symm.trans hlock) Bool.false_ne_true,
          fun hc => absurd h hc⟩
        rw [← Option.some.inj hm]
        rfl
    · rw [State.rampScan_of_near (hnear.2 h) (hstep.trans (Bool.eq_false_of_not_eq_true hlock)), hform] at hexec
      rw [hform]
      exact ⟨_, _, hexec, fun _ hc => absurd hc hlock, fun _ _ => ⟨rfl, rfl⟩, fun hc => absurd h hc⟩
  · rw [State.rampScan_of_far (mt hnear.1 h), hform] at hexec
    rw [hform]
    exact ⟨_, _, hexec, fun hc => absurd hc h, fun hc => absurd hc h, fun _ => ⟨rfl, rfl⟩⟩

/-- Settles O43: RAMP by `exec_scanPublish_of_ramp`, the other sub-states by their case of the scan. -/
theorem scanInARamp : Obligations.ScanInARamp := by
  refine ⟨fun v s hphase hsub hrails hzeros hjp htime => ?_, fun v s hphase hsub hcalm hext => ?_,
    fun v s hphase hcalm hsub => ?_⟩
  · obtain ⟨Q, S, hexec, hlock, hhold, hfar⟩ :=
      exec_scanPublish_of_ramp hphase hsub ⟨hrails, hzeros, hjp, htime⟩
    obtain ⟨tx, rails, lc, jack, grout, ext, window, drives, hform⟩ := State.atScan_form v s
    obtain ⟨tx', rails', jack', grout', ext', window', drives', hfin⟩ :=
      State.finish_form { s.atScan v with seq := Q, store := S }
    rw [hfin] at hexec
    rw [hform] at hexec hfar
    refine ⟨_, hexec, rfl, rfl, rfl, rfl, rfl, fun hnear hstep => ?_, fun hnear hstep => ?_, fun hnot => ?_⟩
    · obtain ⟨hQ, hS⟩ := hlock hnear hstep
      refine ⟨hQ, fun n hslot => ?_⟩
      rw [State.handOver_store]
      exact hS n hslot
    · obtain ⟨rfl, hS⟩ := hhold hnear hstep
      exact ⟨rfl, State.stepHoldUs_of_align, State.stepHoldUs_of_proof, fun p => State.stepHoldUs_of_other, hS⟩
    · obtain ⟨hQ, hS⟩ := hfar hnot
      exact ⟨hS, hQ⟩
  · have hsub' : (s.atScan v).seq.sub = some .holdLoad := by rw [State.atScan_seq]; exact hsub
    refine (exec_scanPublish_of_stressing hphase hcalm (.inr (by rw [hsub]; decide)) (.inr hext)).trans
      (congrArg (fun x : State => Host.Outcome.next x.finish) ((State.seqScan_of_holdLoad hsub').trans ?_))
    obtain ⟨tx, rails, lc, jack, grout, ext, window, drives, hform⟩ := State.atScan_form v s
    rw [hform]
    rfl
  · have hsub' : (s.atScan v).seq.sub = s.seq.sub := by rw [State.atScan_seq]; rfl
    have hnot (x : SeqSub) (hx : x ≠ .waitLease ∧ x ≠ .abortWait ∧ x ≠ .seating ∧ x ≠ .halted) :
        s.seq.sub ≠ some x := by
      rcases hsub with h | h | h | h <;> rw [h] <;> simpa using by tauto
    refine (exec_scanPublish_of_stressing hphase hcalm (.inr (hnot .settle (by decide)))
      (.inl (hnot .holdLoad (by decide)))).trans
      (congrArg (fun x : State => Host.Outcome.next x.finish) (State.seqScan_of_waiting ?_))
    rw [hsub']
    exact hsub

end Sys2Proof.Machine

/-! A scan in an unload and in a settle of a test (R118, R131, R132, R133, R140). -/

namespace Sys2Proof.Machine

/-! ## The end of an unload (R118, R150) -/

theorem State.jackLow_iff (s : State) : s.jackLow = true ↔ s.scan.jp < 500 ∧ s.named .jp = false := by
  unfold State.jackLow
  rw [Bool.and_eq_true, decide_eq_true_iff, Bool.not_eq_true']
  rfl

/-- With no channel at its rail an unload ends just where JP is low and not named. -/
theorem State.unloadEnds_atScan_iff {v : ScanSet} (s : State) (hrails : v.rails = 0) :
    (s.atScan v).unloadEnds = true ↔ v.jp < 500 ∧ s.named .jp = false := by
  obtain ⟨hjp, -⟩ := State.atScan_readings v s
  unfold State.unloadEnds
  rw [Bool.and_eq_true, State.jackLow_iff, State.trusts_atScan s hrails, Bool.not_eq_true', State.atScan_named, hjp,
    and_assoc, and_self]

theorem State.unloadEnds_of_loaded {v : ScanSet} {s : State} (hrails : v.rails = 0)
    (h : 500 ≤ v.jp ∨ s.named .jp = true) : ¬(s.atScan v).unloadEnds = true := by
  rw [State.unloadEnds_atScan_iff s hrails]
  rintro ⟨hlow, hclear⟩
  exact h.elim (fun hhigh => absurd hlow (Int.not_lt.2 hhigh)) fun hn => Bool.false_ne_true (hclear.symm.trans hn)

/-! ## The sequencer in an unload and in SETTLE -/

theorem State.seqScan_of_unloading {s : State}
    (hsub : s.seq.sub = some .release ∨ s.seq.sub = some .failUnload ∨ s.seq.sub = some .abortUnload)
    (h : ¬s.unloadEnds = true) :
    s.seqScan = { s with seq := { s.seq with jack := { s.seq.jack with lower := true } } } := by
  unfold State.seqScan
  rcases hsub with hsub | hsub | hsub <;>
    · rw [hsub]
      exact if_neg h

theorem State.seqScan_of_release {s : State} (hsub : s.seq.sub = some .release) (h : s.unloadEnds = true) :
    s.seqScan =
      { s with
        seq :=
          { s.seq with
            sub := some .settle
            jack :=
              { s.seq.jack with
                unload := .off, lower := false, settle := ⟨true, 0, 60000000⟩, settled := false, readDue := false } } } := by
  unfold State.seqScan
  rw [hsub]
  exact if_pos h

theorem State.seqScan_of_failUnload {s : State} (hsub : s.seq.sub = some .failUnload) (h : s.unloadEnds = true) :
    s.seqScan = s.endFailed := by
  unfold State.seqScan
  rw [hsub]
  exact if_pos h

theorem State.seqScan_of_abortUnload {s : State} (hsub : s.seq.sub = some .abortUnload) (h : s.unloadEnds = true) :
    s.seqScan = s.endAborted := by
  unfold State.seqScan
  rw [hsub]
  exact if_pos h

theorem State.seqScan_of_settle {s : State} {named : Bool} (hsub : s.seq.sub = some .settle)
    (htrusts : s.trusts .lc = !named) :
    s.seqScan =
      if named then s
      else if s.seq.jack.settled then s.completeLockOff
      else if s.seq.jack.settleOver then { s with seq := { s.seq with jack := { s.seq.jack with readDue := true } } }
      else s := by
  unfold State.seqScan
  rw [hsub]
  unfold State.settleScan
  rw [htrusts, Bool.not_not]
  rfl

/-- The settle timer of a jack after 100 ms (R133, R150; log entry 3). -/
theorem Jack.settleOver_tick_iff {hold relief : Bool} {d : Nat} {j : Jack} :
    (j.tick hold relief d).settleOver = true ↔ j.settle.on = true ∧ j.settle.limit ≤ j.settle.elapsed + d := by
  unfold Jack.settleOver Jack.tick Timer.tick
  dsimp only
  by_cases hon : j.settle.on = true
  · rw [if_pos hon]
    simp [hon]
  · rw [if_neg hon]
    simp [hon]

/-! ## A calm scan -/

theorem State.atScan_request (v : ScanSet) (s : State) : (s.atScan v).request = s.request := by
  unfold State.request
  rw [State.atScan_crew, State.atScan_seq, State.atScan_aft]
  rfl

/-- In RELEASE, FAIL_UNLOAD and ABORT_UNLOAD a calm scan is the sequencer's alone. -/
theorem exec_scanPublish_of_unloading {v : ScanSet} {s : State} (hphase : s.crew.phase = .stressing)
    (hcalm : s.calmAt v)
    (hsub : s.seq.sub = some .release ∨ s.seq.sub = some .failUnload ∨ s.seq.sub = some .abortUnload) :
    exec (.scanPublish v) s = .next (State.finish (s.atScan v).seqScan) :=
  exec_scanPublish_of_stressing hphase hcalm (.inr (by rcases hsub with h | h | h <;> rw [h] <;> decide))
    (.inl (by rcases hsub with h | h | h <;> rw [h] <;> decide))

/-- In SETTLE, where nothing is to be read yet, so is it: the fault, the end taken, the end passed, in this order. -/
theorem exec_scanPublish_of_settle {v : ScanSet} {s : State} (hphase : s.crew.phase = .stressing) (hcalm : s.calmAt v)
    (hsub : s.seq.sub = some .settle) (hread : s.seq.jack.readDue = false) :
    exec (.scanPublish v) s = .next (State.finish
      (if s.named .lc then s.atScan v
      else if s.seq.jack.settled then (s.atScan v).completeLockOff
      else if (s.atScan v).seq.jack.settleOver then
        { s.atScan v with
          seq := { (s.atScan v).seq with jack := { (s.atScan v).seq.jack with readDue := true } } }
      else s.atScan v)) := by
  obtain ⟨hrails, -, -, -⟩ := id hcalm
  have hsub' : (s.atScan v).seq.sub = some .settle := by rw [State.atScan_seq]; exact hsub
  have hsettled : (s.atScan v).seq.jack.settled = s.seq.jack.settled := by rw [State.atScan_seq]; rfl
  rw [exec_scanPublish_of_stressing hphase hcalm (.inl hread) (.inl (by rw [hsub]; decide)),
    State.seqScan_of_settle hsub' (State.trusts_atScan s hrails .lc), hsettled]

theorem State.settleOver_atScan_iff (v : ScanSet) (s : State) :
    (s.atScan v).seq.jack.settleOver = true ↔
      s.seq.jack.settle.on = true ∧ s.seq.jack.settle.limit ≤ s.seq.jack.settle.elapsed + 100000 := by
  rw [State.atScan_seq]
  exact Jack.settleOver_tick_iff

/-- Settles O44: each case of the scan by the lemma of its sub-state, the ends of a test by `State.endTest_eq_testEnded`
and `State.completeLockOff_eq`. -/
theorem scanInAnUnload : Obligations.ScanInAnUnload := by
  intro v s hphase hcalm
  obtain ⟨hrails, -, -, -⟩ := id hcalm
  have hseq : (s.atScan v).seq = (s.elapse 100000).seq := State.atScan_seq v s
  have hphase' : (s.atScan v).crew.phase = .stressing := by rw [State.atScan_crew]; exact hphase
  have hstate' (h : s.lease.state = .holding) : (s.atScan v).lease.state = .holding := by
    rw [State.atScan_lease]; exact h
  have hrequest' (h : s.request.map Request.status = some .taken) :
      (s.atScan v).request.map Request.status = some .taken := by rw [State.atScan_request]; exact h
  have hslot' {n : Nat} (h : s.seq.slot = some n) : (s.atScan v).seq.slot = some n := by rw [hseq]; exact h
  have hsub' {x : SeqSub} (h : s.seq.sub = some x) : (s.atScan v).seq.sub = some x := by rw [hseq]; exact h
  refine ⟨fun hsub hloaded => ?_, fun hsub hjp hnamed => ?_, fun n x hsub hjp hnamed hslot hverdict hstate hrequest => ?_,
    fun n x hsub hjp hnamed hslot habort hstate hrequest => ?_, fun hsub hread hearly => ?_,
    fun hsub hread hnamed hsettled hon hlimit => ?_, fun n hsub hread hnamed hsettled hslot hstate hrequest => ?_⟩
  · rw [exec_scanPublish_of_unloading hphase hcalm hsub, State.seqScan_of_unloading (by rw [hseq]; exact hsub)
      (State.unloadEnds_of_loaded hrails hloaded)]
  · rw [exec_scanPublish_of_unloading hphase hcalm (.inl hsub), State.seqScan_of_release (hsub' hsub)
      ((State.unloadEnds_atScan_iff s hrails).2 ⟨hjp, hnamed⟩)]
  · rw [exec_scanPublish_of_unloading hphase hcalm (.inr (.inl hsub)), State.seqScan_of_failUnload (hsub' hsub)
      ((State.unloadEnds_atScan_iff s hrails).2 ⟨hjp, hnamed⟩), State.endFailed,
      State.endTest_eq_testEnded .rejected (by rw [hseq]; exact congrArg (Option.map Verdict.fail) hverdict) hphase'
        (hstate' hstate) (hrequest' hrequest) (hslot' hslot)]
  · rw [exec_scanPublish_of_unloading hphase hcalm (.inr (.inr hsub)), State.seqScan_of_abortUnload (hsub' hsub)
      ((State.unloadEnds_atScan_iff s hrails).2 ⟨hjp, hnamed⟩), State.endAborted,
      State.endTest_eq_testEnded .cured (by rw [hseq]; exact congrArg (Option.map Verdict.aborted) habort) hphase'
        (hstate' hstate) (hrequest' hrequest) (hslot' hslot)]
  · rw [exec_scanPublish_of_settle hphase hcalm hsub hread]
    rcases hearly with hnamed | ⟨hsettled, htime⟩
    · rw [if_pos hnamed]
    · have hnot : ¬(s.atScan v).seq.jack.settleOver = true := by
        rw [State.settleOver_atScan_iff]
        rintro ⟨hon, hlimit⟩
        exact htime.elim (fun hoff => Bool.false_ne_true (hoff.symm.trans hon)) (Nat.not_lt.2 hlimit)
      rw [if_neg hnot, hsettled, if_neg Bool.false_ne_true, ite_self]
  · rw [exec_scanPublish_of_settle hphase hcalm hsub hread, hnamed, hsettled,
      if_pos ((State.settleOver_atScan_iff v s).2 ⟨hon, hlimit⟩)]
    rfl
  · rw [exec_scanPublish_of_settle hphase hcalm hsub hread, hnamed, hsettled,
      State.completeLockOff_eq hphase' (hstate' hstate) (hrequest' hrequest) (hslot' hslot)]
    rfl

end Sys2Proof.Machine

/-! A scan in LOCKED (R144, R147, R149, R150, R152, R156). -/

namespace Sys2Proof.Machine

/-! ## What was due, and no latch -/

theorem State.takeOverdue_of_locked {s : State} (hphase : s.crew.phase = .locked) (hlatch : s.latchDue = false)
    (hlow : s.lowDue = false) (hrecovery : s.recoveryDue = false)
    (hread : s.aft.jack.readDue = false ∨ s.stageIn .settle = false) : s.takeOverdue = s := by
  have hplacing : s.crew.phase ≠ .placing := by rw [hphase]; decide
  have hgrouting : s.crew.phase ≠ .grouting := by rw [hphase]; decide
  have hsetting : s.crew.phase ≠ .setting := by rw [hphase]; decide
  have hstressing : s.crew.phase ≠ .stressing := by rw [hphase]; decide
  exact State.takeOverdue_of_quiet hlatch (State.breakInDue_of_phase hplacing) (fun hc => absurd hc hplacing)
    (State.placementDue_of_phase hplacing) (State.volumeDue_of_phase hgrouting) (State.refusalDue_of_phase hgrouting)
    (State.fillDue_of_phase hgrouting) (fun hc => absurd hc hgrouting) (fun hc => absurd hc hsetting) hlow hrecovery
    (.inr (State.seqIn_of_phase hstressing _)) hread

theorem State.consume_of_locked (rise : Nat) {s : State} (h : s.crew.phase = .locked) :
    s.consume rise = s.aftScan := by
  unfold State.consume
  rw [h]

/-- A scan in LOCKED with nothing due and no JP beyond its limit is the aftercare monitor's alone. -/
theorem exec_scanPublish_of_locked {v : ScanSet} {s : State} (hphase : s.crew.phase = .locked) (hrails : v.rails = 0)
    (hzeros : s.scan.railTimes = [0, 0, 0, 0, 0, 0, 0, 0])
    (hjack : s.inUse .jp = false ∨ v.jp ≤ (s.par.maxJack : Int) ∧ s.trip.jackTime = 0) (hlow : s.lowDue = false)
    (hrecovery : s.recoveryDue = false) (hread : s.aft.jack.readDue = false ∨ s.stageIn .settle = false) :
    exec (.scanPublish v) s = .next (State.finish (s.atScan v).aftScan) := by
  have hgrouting : s.crew.phase ≠ .grouting := by rw [hphase]; decide
  have hhold : s.seqIn .holdLoad = false := State.seqIn_of_locked hphase _
  have hdue := State.takeOverdue_of_locked hphase (State.latchDue_of_clear
    (fun c => .inr (State.railTime_of_zeros hzeros c)) (hjack.imp_right And.right) (.inl hgrouting) (.inl hhold))
    hlow hrecovery hread
  have hlatch : (s.atScan v).latchDue = false :=
    State.latchDue_atScan (fun _ => .inr hrails) (hjack.imp_right And.left) (.inl hgrouting) (.inl hhold)
  have hphase' : (s.atScan v).crew.phase = .locked := by rw [State.atScan_crew]; exact hphase
  exact (exec_scanPublish_of_quiet hdue hlatch).trans
    (congrArg (fun x : State => Host.Outcome.next x.finish) (State.consume_of_locked _ hphase'))

/-! ## WATCH and PENDING (R144, R147) -/

theorem State.residualIsLow_iff (s : State) :
    s.residualIsLow = true ↔ s.scan.lc * 100 < ((s.lockTarget * (100 - s.par.lossTol) : Nat) : Int) :=
  decide_eq_true_iff

theorem State.aftScan_of_watch {s : State} (hsub : s.aft.sub = some .watch) : s.aftScan = s.watchScan := by
  unfold State.aftScan
  rw [hsub]

theorem State.aftScan_of_pending {s : State} (hsub : s.aft.sub = some .pending) : s.aftScan = s.pendingScan := by
  unfold State.aftScan
  rw [hsub]

theorem State.watchScan_of_excess {s : State} (h : s.aft.lossExcess = true) : s.watchScan = s := by
  unfold State.watchScan State.onAft
  dsimp only
  rw [if_pos h]

theorem State.watchScan_eq {s : State} {named : Bool} (hexcess : s.aft.lossExcess = false)
    (htrusts : s.trusts .lc = !named) (htime : s.aft.lowTime < s.par.topUpScans) :
    s.watchScan =
      { s with
        aft :=
          { s.aft with
            lowTime :=
              if named = false ∧ s.scan.lc * 100 < ((s.lockTarget * (100 - s.par.lossTol) : Nat) : Int) then
                s.aft.lowTime + 1
              else 0 } } := by
  have hmin : min s.par.topUpScans (s.aft.lowTime + 1) = s.aft.lowTime + 1 := by omega
  have hiff : (s.trusts .lc && s.residualIsLow) = true ↔
      named = false ∧ s.scan.lc * 100 < ((s.lockTarget * (100 - s.par.lossTol) : Nat) : Int) := by
    rw [Bool.and_eq_true, htrusts, Bool.not_eq_true', State.residualIsLow_iff]
  unfold State.watchScan State.onAft
  dsimp only
  rw [if_neg (Bool.eq_false_iff.1 hexcess)]
  by_cases h : named = false ∧ s.scan.lc * 100 < ((s.lockTarget * (100 - s.par.lossTol) : Nat) : Int)
  · rw [if_pos (hiff.2 h), if_pos h, hmin]
  · rw [if_neg (mt hiff.1 h), if_neg h]

theorem State.pendingScan_eq {s : State} {named : Bool} (htrusts : s.trusts .lc = !named)
    (htime : s.aft.recovery < s.par.topUpScans) :
    s.pendingScan =
      { s with
        aft :=
          { s.aft with
            recovery :=
              if named = false ∧ ((s.lockTarget * (100 - s.par.lossTol) : Nat) : Int) ≤ s.scan.lc * 100 then
                s.aft.recovery + 1
              else 0 } } := by
  have hmin : min s.par.topUpScans (s.aft.recovery + 1) = s.aft.recovery + 1 := by omega
  have hiff : (s.trusts .lc && !s.residualIsLow) = true ↔
      named = false ∧ ((s.lockTarget * (100 - s.par.lossTol) : Nat) : Int) ≤ s.scan.lc * 100 := by
    rw [Bool.and_eq_true, htrusts, Bool.not_eq_true', Bool.not_eq_true', ← Bool.not_eq_true s.residualIsLow,
      State.residualIsLow_iff, Int.not_lt]
  unfold State.pendingScan State.onAft
  dsimp only
  by_cases h : named = false ∧ ((s.lockTarget * (100 - s.par.lossTol) : Nat) : Int) ≤ s.scan.lc * 100
  · rw [if_pos (hiff.2 h), if_pos h, hmin]
  · rw [if_neg (mt hiff.1 h), if_neg h]

/-! ## A top-up (R149, R150, R152) -/

theorem State.aftScan_of_stage {s : State} {x : TopUpStage} (hsub : s.aft.sub = some .topUp)
    (hstage : s.aft.stage = some x) : s.aftScan = s.stageScan x := by
  unfold State.aftScan
  rw [hsub, hstage]

theorem State.inUse_of_locked {s : State} (hphase : s.crew.phase = .locked) (hsub : s.aft.sub ≠ some .topUp) :
    s.inUse .jp = false := by
  unfold State.inUse
  rw [hphase]
  simp [hsub]

theorem State.lowDue_of_sub {s : State} (h : s.aft.sub ≠ some .watch) : s.lowDue = false :=
  Bool.eq_false_iff.2 fun hdue => by
    obtain ⟨-, hsub, -⟩ := s.lowDue_iff.1 hdue
    exact h hsub

theorem State.recoveryDue_of_sub {s : State} (h : s.aft.sub ≠ some .pending) : s.recoveryDue = false :=
  Bool.eq_false_iff.2 fun hdue => h (s.pendingTopUp_iff.1 (s.recoveryDue_iff.1 hdue).1).2

theorem State.stageIn_of_sub {s : State} (h : s.aft.sub ≠ some .topUp) (x : TopUpStage) : s.stageIn x = false :=
  Bool.eq_false_iff.2 fun hin => by
    obtain ⟨-, hsub, -⟩ := (s.stageIn_iff x).1 hin
    exact h hsub

/-- A calm scan in a stage of a top-up, with no settle to be read. -/
theorem exec_scanPublish_of_stage {v : ScanSet} {s : State} {x : TopUpStage} (hphase : s.crew.phase = .locked)
    (hsub : s.aft.sub = some .topUp) (hcalm : s.calmAt v) (hstage : s.aft.stage = some x)
    (hread : s.aft.jack.readDue = false ∨ x ≠ .settle) :
    exec (.scanPublish v) s = .next (State.finish ((s.atScan v).stageScan x)) := by
  obtain ⟨hrails, hzeros, hjp, htime⟩ := hcalm
  have hsettle (hx : x ≠ .settle) : s.stageIn .settle = false := Bool.eq_false_iff.2 fun hin => by
    obtain ⟨-, -, hin⟩ := (s.stageIn_iff .settle).1 hin
    exact hx (Option.some.inj (hstage.symm.trans hin))
  have hsub' : (s.atScan v).aft.sub = some .topUp := by rw [State.atScan_aft]; exact hsub
  have hstage' : (s.atScan v).aft.stage = some x := by rw [State.atScan_aft]; exact hstage
  rw [exec_scanPublish_of_locked hphase hrails hzeros (.inr ⟨hjp, htime⟩)
    (State.lowDue_of_sub (by rw [hsub]; decide)) (State.recoveryDue_of_sub (by rw [hsub]; decide))
    (hread.imp_right hsettle), State.aftScan_of_stage hsub' hstage']

/-! ## The stages, one by one -/

/-- The jack load of a scan is within the load tolerance of this goal (R122, R149). -/
abbrev State.liesNear (v : ScanSet) (goal : Nat) (s : State) : Prop :=
  v.jp.toNat * s.par.ramArea / 10000 ≤ goal + max (s.par.designLoad / 100) 2
    ∧ goal ≤ v.jp.toNat * s.par.ramArea / 10000 + max (s.par.designLoad / 100) 2

theorem State.atTarget_atScan_goal_iff (v : ScanSet) (goal : Nat) (s : State) :
    (s.atScan v).atTarget goal = true ↔ s.liesNear v goal := by
  rw [State.atTarget_iff]
  obtain ⟨tx, rails, lc, jack, grout, ext, window, drives, hform⟩ := State.atScan_form v s
  rw [hform]
  rfl

theorem State.stageScan_of_lift_near {s : State} (h : s.atTarget s.aft.before = true) :
    s.stageScan .lift =
      { s with aft := { s.aft with stage := some .ramp, jack := s.rampFrom s.lockTarget s.aft.jack } } := if_pos h

theorem State.stageScan_of_lift_far {s : State} (h : ¬s.atTarget s.aft.before = true) :
    s.stageScan .lift = { s with aft := { s.aft with jack := s.liftCalls s.aft.before s.aft.jack } } := if_neg h

theorem State.stageScan_of_ramp_near {s : State} (h : s.atTarget s.lockTarget = true) :
    s.stageScan .ramp = { s with aft := { s.aft with stage := some .seating, jack := s.aft.jack.seat } } := if_pos h

theorem State.stageScan_of_ramp_far {s : State} (h : ¬s.atTarget s.lockTarget = true) :
    s.stageScan .ramp = { s with aft := { s.aft with jack := s.rampCalls s.lockTarget s.aft.jack } } := if_neg h

theorem State.stageScan_of_unloading {s : State} {x : TopUpStage} (hstage : x = .release ∨ x = .abortUnload)
    (h : ¬s.unloadEnds = true) :
    s.stageScan x = { s with aft := { s.aft with jack := { s.aft.jack with lower := true } } } := by
  rcases hstage with rfl | rfl <;> exact if_neg h

theorem State.stageScan_of_release {s : State} (h : s.unloadEnds = true) :
    s.stageScan .release = { s with aft := { s.aft with stage := some .settle, jack := s.aft.jack.settleFrom } } :=
  if_pos h

theorem State.stageScan_of_abortUnload {s : State} (h : s.unloadEnds = true) :
    s.stageScan .abortUnload = s.endTopUp s.scan.lcTrusted.toNat false := if_pos h

theorem State.stageScan_of_settle {s : State} {named : Bool} (htrusts : s.trusts .lc = !named) :
    s.stageScan .settle =
      if named then s
      else if s.aft.jack.settled then s.endTopUp s.scan.lc.toNat true
      else if s.aft.jack.settleOver then { s with aft := { s.aft with jack := { s.aft.jack with readDue := true } } }
      else s := by
  unfold State.stageScan State.topUpSettleScan
  rw [htrusts, Bool.not_not]
  rfl

/-- In SETTLE, where nothing is to be read yet: the fault, the end taken, the end passed, in this order. -/
theorem exec_scanPublish_of_topUpSettle {v : ScanSet} {s : State} (hphase : s.crew.phase = .locked)
    (hsub : s.aft.sub = some .topUp) (hcalm : s.calmAt v) (hstage : s.aft.stage = some .settle)
    (hread : s.aft.jack.readDue = false) :
    exec (.scanPublish v) s = .next (State.finish
      (if s.named .lc then s.atScan v
      else if s.aft.jack.settled then (s.atScan v).endTopUp v.lc.toNat true
      else if (s.atScan v).aft.jack.settleOver then
        { s.atScan v with
          aft := { (s.atScan v).aft with jack := { (s.atScan v).aft.jack with readDue := true } } }
      else s.atScan v)) := by
  obtain ⟨hrails, -, -, -⟩ := id hcalm
  obtain ⟨-, -, hlc, -⟩ := State.atScan_readings v s
  have hsettled : (s.atScan v).aft.jack.settled = s.aft.jack.settled := by rw [State.atScan_aft]; rfl
  rw [exec_scanPublish_of_stage hphase hsub hcalm hstage (.inl hread),
    State.stageScan_of_settle (State.trusts_atScan s hrails .lc), hsettled, hlc]

theorem State.aft_settleOver_atScan_iff (v : ScanSet) (s : State) :
    (s.atScan v).aft.jack.settleOver = true ↔
      s.aft.jack.settle.on = true ∧ s.aft.jack.settle.limit ≤ s.aft.jack.settle.elapsed + 100000 := by
  rw [State.atScan_aft]
  exact Jack.settleOver_tick_iff

/-! ## WATCH and PENDING at a scan -/

theorem exec_scanPublish_of_watching {v : ScanSet} {s : State} (hphase : s.crew.phase = .locked) (hrails : v.rails = 0)
    (hzeros : s.scan.railTimes = [0, 0, 0, 0, 0, 0, 0, 0]) (hsub : s.aft.sub ≠ some .topUp)
    (hlow : s.lowDue = false) (hrecovery : s.recoveryDue = false) :
    exec (.scanPublish v) s = .next (State.finish (s.atScan v).aftScan) :=
  exec_scanPublish_of_locked hphase hrails hzeros (.inl (State.inUse_of_locked hphase hsub)) hlow hrecovery
    (.inr (State.stageIn_of_sub hsub _))

theorem exec_scanPublish_of_watch {v : ScanSet} {s : State} (hphase : s.crew.phase = .locked) (hrails : v.rails = 0)
    (hzeros : s.scan.railTimes = [0, 0, 0, 0, 0, 0, 0, 0]) (hsub : s.aft.sub = some .watch)
    (hlow : s.lowDue = false) :
    exec (.scanPublish v) s = .next (State.finish (s.atScan v).watchScan) := by
  have hsub' : (s.atScan v).aft.sub = some .watch := by rw [State.atScan_aft]; exact hsub
  rw [exec_scanPublish_of_watching hphase hrails hzeros (by rw [hsub]; decide) hlow
    (State.recoveryDue_of_sub (by rw [hsub]; decide)), State.aftScan_of_watch hsub']

theorem exec_scanPublish_of_pending {v : ScanSet} {s : State} (hphase : s.crew.phase = .locked) (hrails : v.rails = 0)
    (hzeros : s.scan.railTimes = [0, 0, 0, 0, 0, 0, 0, 0]) (hsub : s.aft.sub = some .pending)
    (hrecovery : s.recoveryDue = false) :
    exec (.scanPublish v) s = .next (State.finish (s.atScan v).pendingScan) := by
  have hsub' : (s.atScan v).aft.sub = some .pending := by rw [State.atScan_aft]; exact hsub
  rw [exec_scanPublish_of_watching hphase hrails hzeros (by rw [hsub]; decide)
    (State.lowDue_of_sub (by rw [hsub]; decide)) hrecovery, State.aftScan_of_pending hsub']

/-- Settles O45: WATCH and PENDING by `State.watchScan_eq` and `State.pendingScan_eq`, each stage of a top-up by its
lemma, the end of a top-up by `State.endTopUp_eq`. -/
theorem scanInLocked : Obligations.ScanInLocked := by
  refine ⟨fun v s hphase hrails hzeros => ?_, fun v s hphase hsub hcalm => ?_⟩
  · have htrusts : (s.atScan v).trusts .lc = !s.named .lc := State.trusts_atScan s hrails .lc
    refine ⟨fun hsub hexcess => ?_, fun hsub hexcess htime => ?_, fun hsub htime => ?_⟩
    · have hlow : s.lowDue = false := Bool.eq_false_iff.2 fun hdue => by
        obtain ⟨-, -, hclear, -⟩ := s.lowDue_iff.1 hdue
        exact Bool.false_ne_true (hclear.symm.trans hexcess)
      rw [exec_scanPublish_of_watch hphase hrails hzeros hsub hlow,
        State.watchScan_of_excess (by rw [State.atScan_aft]; exact hexcess)]
    · have hlow : s.lowDue = false := Bool.eq_false_iff.2 fun hdue => by
        obtain ⟨-, -, -, -, hlong⟩ := s.lowDue_iff.1 hdue
        exact absurd htime (Nat.not_lt.2 hlong)
      refine (exec_scanPublish_of_watch hphase hrails hzeros hsub hlow).trans
        (congrArg (fun x : State => Host.Outcome.next x.finish) ((State.watchScan_eq
          (by rw [State.atScan_aft]; exact hexcess) htrusts
          (by rw [State.atScan_aft, State.atScan_par]; exact htime)).trans ?_))
      obtain ⟨tx, rails, lc, jack, grout, ext, window, drives, hform⟩ := State.atScan_form v s
      rw [hform]
      rfl
    · have hrecovery : s.recoveryDue = false := Bool.eq_false_iff.2 fun hdue => by
        obtain ⟨-, -, hlong, -⟩ := s.recoveryDue_iff.1 hdue
        exact absurd htime (Nat.not_lt.2 hlong)
      refine (exec_scanPublish_of_pending hphase hrails hzeros hsub hrecovery).trans
        (congrArg (fun x : State => Host.Outcome.next x.finish) ((State.pendingScan_eq htrusts
          (by rw [State.atScan_aft, State.atScan_par]; exact htime)).trans ?_))
      obtain ⟨tx, rails, lc, jack, grout, ext, window, drives, hform⟩ := State.atScan_form v s
      rw [hform]
      rfl
  · obtain ⟨hrails, -, -, -⟩ := id hcalm
    have haft : (s.atScan v).aft = (s.elapse 100000).aft := State.atScan_aft v s
    have hbefore : (s.atScan v).aft.before = s.aft.before := by rw [haft]; rfl
    have htarget : (s.atScan v).lockTarget = s.lockTarget := by
      unfold State.lockTarget
      rw [haft]
      rfl
    have hramp (h : s.aft.stage = some .ramp) : s.aft.stage ≠ some .lift := by rw [h]; decide
    have hscan {x : TopUpStage} (hstage : s.aft.stage = some x) (hx : x ≠ .settle) {t : State}
        (h : (s.atScan v).stageScan x = t) : exec (.scanPublish v) s = .next t.finish := by
      rw [exec_scanPublish_of_stage hphase hsub hcalm hstage (.inr hx), h]
    have hended {n : Nat} (after : Nat) (ok : Bool) (hslot : s.aft.slot = some n) (hstate : s.lease.state = .holding)
        (hrequest : s.request.map Request.status = some .taken) :
        (s.atScan v).endTopUp after ok = (s.atScan v).topUpEnded n after ok :=
      State.endTopUp_eq after ok (by rw [State.atScan_crew]; exact hphase) (by rw [State.atScan_lease]; exact hstate)
        (by rw [State.atScan_request]; exact hrequest) (by rw [haft]; exact hslot)
    refine ⟨fun hstage hnear => ?_, fun hstage hfar => ?_, fun hstage hnear => ?_, fun hstage hfar => ?_,
      fun hstage hloaded => ?_, fun hstage hjp hnamed => ?_, fun n hstage hjp hnamed hslot hstate hrequest => ?_,
      fun hstage hread hearly => ?_, fun hstage hread hnamed hsettled hon hlimit => ?_,
      fun n hstage hread hnamed hsettled hslot hstate hrequest => ?_, fun hstage => ?_⟩
    · rw [if_pos hstage] at hnear
      refine hscan hstage (by decide) ((State.stageScan_of_lift_near ?_).trans ?_)
      · rw [hbefore]
        exact (State.atTarget_atScan_goal_iff v _ s).2 hnear
      · obtain ⟨tx, rails, lc, jack, grout, ext, window, drives, hform⟩ := State.atScan_form v s
        rw [hform]
        rfl
    · rw [if_pos hstage] at hfar ⊢
      refine hscan hstage (by decide) ((State.stageScan_of_lift_far ?_).trans ?_)
      · rw [hbefore]
        exact mt (State.atTarget_atScan_goal_iff v _ s).1 hfar
      · obtain ⟨tx, rails, lc, jack, grout, ext, window, drives, hform⟩ := State.atScan_form v s
        rw [hform]
        rfl
    · rw [if_neg (hramp hstage)] at hnear
      refine hscan hstage (by decide) ((State.stageScan_of_ramp_near ?_).trans rfl)
      rw [htarget]
      exact (State.atTarget_atScan_goal_iff v _ s).2 hnear
    · rw [if_neg (hramp hstage)] at hfar ⊢
      refine hscan hstage (by decide) ((State.stageScan_of_ramp_far ?_).trans ?_)
      · rw [htarget]
        exact mt (State.atTarget_atScan_goal_iff v _ s).1 hfar
      · obtain ⟨tx, rails, lc, jack, grout, ext, window, drives, hform⟩ := State.atScan_form v s
        rw [hform]
        rfl
    · rcases hstage with hstage | hstage
      · exact hscan hstage (by decide)
          (State.stageScan_of_unloading (.inl rfl) (State.unloadEnds_of_loaded hrails hloaded))
      · exact hscan hstage (by decide)
          (State.stageScan_of_unloading (.inr rfl) (State.unloadEnds_of_loaded hrails hloaded))
    · exact hscan hstage (by decide)
        ((State.stageScan_of_release ((State.unloadEnds_atScan_iff s hrails).2 ⟨hjp, hnamed⟩)).trans rfl)
    · exact hscan hstage (by decide)
        ((State.stageScan_of_abortUnload ((State.unloadEnds_atScan_iff s hrails).2 ⟨hjp, hnamed⟩)).trans
          (hended _ _ hslot hstate hrequest))
    · rw [exec_scanPublish_of_topUpSettle hphase hsub hcalm hstage hread]
      rcases hearly with hnamed | ⟨hsettled, htime⟩
      · rw [if_pos hnamed]
      · have hnot : ¬(s.atScan v).aft.jack.settleOver = true := by
          rw [State.aft_settleOver_atScan_iff]
          rintro ⟨hon, hlimit⟩
          exact htime.elim (fun hoff => Bool.false_ne_true (hoff.symm.trans hon)) (Nat.not_lt.2 hlimit)
        rw [if_neg hnot, hsettled, if_neg Bool.false_ne_true, ite_self]
    · rw [exec_scanPublish_of_topUpSettle hphase hsub hcalm hstage hread, hnamed, hsettled,
        if_pos ((State.aft_settleOver_atScan_iff v s).2 ⟨hon, hlimit⟩)]
      rfl
    · rw [exec_scanPublish_of_topUpSettle hphase hsub hcalm hstage hread, hnamed, hsettled,
        hended _ _ hslot hstate hrequest]
      rfl
    · rcases hstage with hstage | hstage
      · exact hscan hstage (by decide) rfl
      · exact hscan hstage (by decide) rfl

end Sys2Proof.Machine

/-! The validation of a BIND: its walk as one list of checks (R190 to R193). -/

namespace Sys2Proof.Machine

/-! ## The first check that fails -/

/-- A check as the statement lists it: whether it passes, its field index, its reason. -/
abbrev FieldCheck := Bool × Nat × RefusalReason

/-- What one check finds. -/
def FieldCheck.finding (c : FieldCheck) : Finding := check c.1 c.2.1 c.2.2

/-- The first check of a list that fails. -/
def failure (l : List FieldCheck) : Finding := (l.find? fun c => !c.1).map fun c => c.2

theorem firstFailure_cons (f : Finding) (l : List Finding) : firstFailure (f :: l) = f.or (firstFailure l) := by
  cases f <;> rfl

theorem firstFailure_append (l m : List Finding) :
    firstFailure (l ++ m) = (firstFailure l).or (firstFailure m) := by
  induction l with
  | nil => rfl
  | cons f l ih => rw [List.cons_append, firstFailure_cons, firstFailure_cons, ih, Option.or_assoc]

theorem failure_cons (c : FieldCheck) (l : List FieldCheck) : failure (c :: l) = c.finding.or (failure l) := by
  obtain ⟨ok, i, r⟩ := c
  cases ok <;> rfl

theorem failure_append (l m : List FieldCheck) : failure (l ++ m) = (failure l).or (failure m) := by
  unfold failure
  rw [List.find?_append, Option.map_or]

theorem firstFailure_map_finding (l : List FieldCheck) : firstFailure (l.map FieldCheck.finding) = failure l := by
  induction l with
  | nil => rfl
  | cons c l ih => rw [List.map_cons, firstFailure_cons, failure_cons, ih]

theorem firstFailure_eq_none_iff (l : List Finding) : firstFailure l = none ↔ ∀ f ∈ l, f = none := by
  induction l with
  | nil => simp [firstFailure]
  | cons f l ih => rw [firstFailure_cons, Option.or_eq_none_iff, ih, List.forall_mem_cons]

theorem check_eq_none_iff (ok : Bool) (i : Nat) (r : RefusalReason) : check ok i r = none ↔ ok = true := by
  cases ok <;> simp [check]

/-! ## Single checks -/

theorem within_eq (v lo hi : Nat) : within v lo hi = decide (lo ≤ v ∧ v ≤ hi) := by
  simp [within]

theorem percentOf_eq (v base lo hi : Nat) :
    percentOf v base lo hi = decide (lo * base ≤ v * 100 ∧ v * 100 ≤ hi * base) :=
  within_eq ..

theorem isSome_getElem?_eq {α : Type} (l : List α) (c : Nat) : (l[c]?).isSome = decide (c < l.length) := by
  rw [Bool.eq_iff_iff, decide_eq_true_iff, Option.isSome_iff_exists]
  exact ⟨fun ⟨_, h⟩ => (List.getElem?_eq_some_iff.1 h).1, fun h => ⟨_, List.getElem?_eq_getElem h⟩⟩

theorem offTimePick_isSome (c : Nat) : (offTimePick c).isSome = decide (0 ≤ c ∧ c ≤ 3) :=
  (isSome_getElem?_eq _ c).trans (decide_eq_decide.2 (by simp; omega))

theorem topUpPick_isSome (c : Nat) : (topUpPick c).isSome = decide (0 ≤ c ∧ c ≤ 3) :=
  (isSome_getElem?_eq _ c).trans (decide_eq_decide.2 (by simp; omega))

theorem groutOverPick_isSome (c : Nat) : (groutOverPick c).isSome = decide (0 ≤ c ∧ c ≤ 2) :=
  (isSome_getElem?_eq _ c).trans (decide_eq_decide.2 (by simp; omega))

theorem extPick_isSome (c : Nat) : (extPick c).isSome = decide (0 ≤ c ∧ c ≤ 2) :=
  (isSome_getElem?_eq _ c).trans (decide_eq_decide.2 (by simp; omega))

theorem startPhaseOfCode_isSome (c : Byte) :
    (startPhaseOfCode c.toNat).isSome = decide (c ∈ ([1, 2, 4, 5, 7] : List Byte)) := by
  revert c
  decide

theorem startPhaseOfCode_ne_curing (c : Byte) :
    (startPhaseOfCode c.toNat != some .curing) = decide (c ≠ 4) := by
  revert c
  decide

theorem startPhaseOfCode_ne_locked (c : Byte) : (startPhaseOfCode c.toNat != some .locked) = (c != 7) := by
  revert c
  decide

/-- The kind codes of a plan step (R192). -/
def StepKind.code : StepKind → Byte
  | .load => 1
  | .proof => 2
  | .unload => 3
  | .lockOff => 4

theorem stepKindOfCode_eq_none_iff (c : Byte) :
    stepKindOfCode c.toNat = none ↔ c ∉ ([1, 2, 3, 4] : List Byte) := by
  revert c
  decide

theorem eq_code_of_stepKindOfCode {c : Byte} {k : StepKind} (h : stepKindOfCode c.toNat = some k) : c = k.code := by
  revert h c
  cases k <;> decide

/-! ## The fields before the plan (R190, R191) -/

/-- A value from `lo` to `hi`. -/
def ranged (v lo hi i : Nat) : FieldCheck := (decide (lo ≤ v ∧ v ≤ hi), i, .range)

/-- A value from `lo` to `hi` percent of the design load. -/
def percented (b : BindIn) (v lo hi i : Nat) : FieldCheck :=
  ranged (v * 100) (lo * b.designLoad.toNat) (hi * b.designLoad.toNat) i

theorem ranged_finding (v lo hi i : Nat) : (ranged v lo hi i).finding = check (within v lo hi) i .range := by
  rw [within_eq]
  rfl

theorem percented_finding (b : BindIn) (v lo hi i : Nat) :
    (percented b v lo hi i).finding = check (percentOf v b.designLoad.toNat lo hi) i .range := by
  rw [percentOf_eq]
  rfl

def labelChecks (b : BindIn) : List FieldCheck :=
  ranged b.labelCount.toNat 1 12 1 ::
    (b.labelChars.take b.labelCount.toNat).map fun c => ranged c.toNat 33 126 1

/-- One number of the roster against the ones before it. -/
def numberChecks (own : Nat) (roster : List Byte) (i : Nat) (n : Byte) : List FieldCheck :=
  [ranged n.toNat 1 62 4, (decide (n.toNat ≠ own), 4, .self), (decide (n ∉ roster.take i), 4, .duplicate)]

def workChecks (b : BindIn) : List FieldCheck :=
  [ranged b.tendonLength.toNat 500 8000 5, ranged b.pullLimit.toNat 10 600 6, ranged b.slack.toNat 1 50 7,
    (decide (b.slack.toNat < b.pullLimit.toNat), 7, .order), ranged b.offTimePick.toNat 0 3 8,
    ranged b.holeVolume.toNat 10 2000 9, ranged b.fillFactor.toNat 100 200 10,
    ranged b.stagePressure.toNat 100 4000 11, ranged b.groutMax.toNat (b.stagePressure.toNat + 100) 6000 12,
    ranged b.refusalFlow.toNat 5 200 13, ranged b.refusalTime.toNat 1 30 14,
    ranged (10 * b.volumeLimit.toNat) (b.holeVolume.toNat * b.fillFactor.toNat / 10) 100000 15,
    ranged b.headerMin.toNat 100 4000 16, ranged b.breakthrough.toNat 50 2000 17,
    ranged b.setTime.toNat 1 24 18, ranged b.cureTime.toNat 24 672 19]

def jackChecks (b : BindIn) : List FieldCheck :=
  [ranged b.ramArea.toNat 50 1000 20, ranged b.maxJack.toNat 10000 70000 21,
    ranged b.designLoad.toNat 100 3000 22, percented b b.alignLoad.toNat 5 20 23,
    ranged b.rampRate.toNat 20 500 24, ranged b.creepLimit.toNat 10 500 25,
    ranged b.extMin.toNat 0 50000 26, ranged b.extMax.toNat 0 50000 27,
    (decide (b.extMin.toNat < b.extMax.toNat), 27, .order), ranged b.lockTol.toNat 2 10 28,
    ranged b.lossTol.toNat 2 15 29, ranged b.topUpPick.toNat 0 3 30, ranged b.groutOverPick.toNat 0 2 31,
    ranged b.extEnable.toNat 0 1 32, ranged b.extPick.toNat 0 2 33, ranged b.keepHonour.toNat 0 1 34]

def startChecks (b : BindIn) : List FieldCheck :=
  [(decide (b.startPhase ∈ ([1, 2, 4, 5, 7] : List Byte)), 35, RefusalReason.range),
    (decide (b.startPhase = 4 → 1 ≤ b.cureHours.toNat ∧ b.cureHours.toNat ≤ 672), 36, .range),
    (b.startPhase != 7 || (percented b b.lockOffLoad.toNat 50 110 37).1, 37, .range),
    ranged b.stepCount.toNat 3 10 38]

/-- The checks of fields 1 to 38, in the order of the walk. -/
def fieldChecks (own : Nat) (b : BindIn) : List FieldCheck :=
  labelChecks b ++ [ranged b.wall.toNat 1 65535 2, ranged b.rosterCount.toNat 0 12 4]
    ++ ((b.roster.take b.rosterCount.toNat).mapIdx (numberChecks own (b.roster.take b.rosterCount.toNat))).flatten
    ++ workChecks b ++ jackChecks b ++ startChecks b

theorem checkLabel_eq (b : BindIn) : checkLabel b = (labelChecks b).map FieldCheck.finding := by
  unfold checkLabel labelChecks
  rw [List.map_cons, List.map_map, ranged_finding]
  exact congrArg _ (List.map_congr_left fun c _ => (ranged_finding ..).symm)

theorem numberChecks_finding (own : Nat) (seen rest : List Byte) (n : Byte) :
    (numberChecks own (seen ++ rest) seen.length n).map FieldCheck.finding =
      [check (within n.toNat 1 62) 4 .range, check (n.toNat != own) 4 .self,
        check (!seen.contains n) 4 .duplicate] := by
  unfold numberChecks
  rw [List.take_left, List.map_cons, ranged_finding]
  simp [FieldCheck.finding, bne, Bool.beq_eq_decide_eq]

/-- The walk of the roster, from any place of it on. -/
theorem checkRoster_eq (own : Nat) (seen rest : List Byte) :
    checkRoster own seen rest =
      ((rest.mapIdx fun i n => numberChecks own (seen ++ rest) (seen.length + i) n).flatten).map
        FieldCheck.finding := by
  induction rest generalizing seen with
  | nil => rfl
  | cons n rest ih =>
    have hnext := ih (seen ++ [n])
    simp only [List.append_assoc, List.singleton_append, List.length_append, List.length_singleton] at hnext
    rw [checkRoster, hnext, List.mapIdx_cons, List.flatten_cons, List.map_append, Nat.add_zero seen.length,
      numberChecks_finding own seen (n :: rest) n]
    simp only [Nat.add_assoc, Nat.add_comm 1]
    rfl

theorem checkWork_eq (own : Nat) (b : BindIn) :
    checkWork own b =
      (labelChecks b ++ [ranged b.wall.toNat 1 65535 2, ranged b.rosterCount.toNat 0 12 4]
        ++ ((b.roster.take b.rosterCount.toNat).mapIdx (numberChecks own (b.roster.take b.rosterCount.toNat))).flatten
        ++ workChecks b).map FieldCheck.finding := by
  have hvolume : (decide (b.holeVolume.toNat * b.fillFactor.toNat / 10 ≤ 10 * b.volumeLimit.toNat)
      && decide (b.volumeLimit.toNat ≤ 10000)) =
      within (10 * b.volumeLimit.toNat) (b.holeVolume.toNat * b.fillFactor.toNat / 10) 100000 :=
    congrArg _ (decide_eq_decide.2 (by omega))
  have hroster := checkRoster_eq own [] (b.roster.take b.rosterCount.toNat)
  simp only [List.nil_append, List.length_nil, Nat.zero_add] at hroster
  unfold checkWork workChecks
  rw [checkLabel_eq, hroster, hvolume, offTimePick_isSome, ← within_eq]
  simp only [List.map_append, List.map_cons, List.map_nil, ranged_finding]
  rfl

theorem checkJack_eq (b : BindIn) : checkJack b = (jackChecks b).map FieldCheck.finding := by
  unfold checkJack jackChecks
  rw [topUpPick_isSome, groutOverPick_isSome, extPick_isSome, ← within_eq, ← within_eq, ← within_eq]
  simp only [List.map_cons, List.map_nil, ranged_finding, percented_finding]
  rfl

theorem checkStart_eq (b : BindIn) : checkStart b = (startChecks b).map FieldCheck.finding := by
  unfold checkStart startChecks
  have hcuring : (startPhaseOfCode b.startPhase.toNat != some .curing || within b.cureHours.toNat 1 672) =
      decide (b.startPhase = 4 → 1 ≤ b.cureHours.toNat ∧ b.cureHours.toNat ≤ 672) := by
    rw [startPhaseOfCode_ne_curing, within_eq, ← Bool.decide_or]
    exact decide_eq_decide.2 imp_iff_not_or.symm
  rw [startPhaseOfCode_isSome, hcuring, startPhaseOfCode_ne_locked, percentOf_eq]
  simp only [List.map_cons, List.map_nil, ranged_finding]
  rfl

/-- The walk before the plan. -/
theorem checkFields_eq (own : Nat) (b : BindIn) :
    checkWork own b ++ checkJack b ++ checkStart b = (fieldChecks own b).map FieldCheck.finding := by
  rw [checkWork_eq, checkJack_eq, checkStart_eq, fieldChecks]
  simp only [List.map_append]

end Sys2Proof.Machine

/-! The validation of a plan: its walk as one list of checks (R192, R193). -/

namespace Sys2Proof.Machine

/-! ## What the walk remembers, from the steps before -/

/-- The target of the last step of this kind. -/
def lastTarget (before : List StepIn) (kind : Byte) : Option Nat :=
  ((before.filter fun y => y.kind == kind).getLast?).map fun y => y.target.toNat

/-- The target of the last step, the alignment load with no step. -/
def targetBefore (b : BindIn) (before : List StepIn) : Nat :=
  ((before.getLast?).map fun y => y.target.toNat).getD b.alignLoad.toNat

/-- The walk after these steps. -/
def walkOf (b : BindIn) (before : List StepIn) : PlanWalk :=
  ⟨targetBefore b before, lastTarget before 1, lastTarget before 2, lastTarget before 3⟩

theorem lastTarget_append_same {before : List StepIn} {x : StepIn} {kind : Byte} (h : x.kind = kind) :
    lastTarget (before ++ [x]) kind = some x.target.toNat := by
  simp [lastTarget, List.filter_append, h]

theorem lastTarget_append_other {before : List StepIn} {x : StepIn} {kind : Byte} (h : x.kind ≠ kind) :
    lastTarget (before ++ [x]) kind = lastTarget before kind := by
  simp [lastTarget, List.filter_append, h]

theorem targetBefore_append (b : BindIn) (before : List StepIn) (x : StepIn) :
    targetBefore b (before ++ [x]) = x.target.toNat := by
  simp [targetBefore]

theorem walkOf_append (b : BindIn) (before : List StepIn) {x : StepIn} {k : StepKind} (h : x.kind = k.code) :
    walkOf b (before ++ [x]) = (walkOf b before).after k x.target.toNat := by
  have hsame : lastTarget (before ++ [x]) k.code = some x.target.toNat := lastTarget_append_same h
  have hother (kind : Byte) (hne : k.code ≠ kind) : lastTarget (before ++ [x]) kind = lastTarget before kind :=
    lastTarget_append_other (by rw [h]; exact hne)
  unfold walkOf
  rw [targetBefore_append]
  cases k with
  | load =>
    rw [show lastTarget (before ++ [x]) 1 = _ from hsame, hother 2 (by decide), hother 3 (by decide)]
    rfl
  | proof =>
    rw [hother 1 (by decide), show lastTarget (before ++ [x]) 2 = _ from hsame, hother 3 (by decide)]
    rfl
  | unload =>
    rw [hother 1 (by decide), hother 2 (by decide), show lastTarget (before ++ [x]) 3 = _ from hsame]
    rfl
  | lockOff => rw [hother 1 (by decide), hother 2 (by decide), hother 3 (by decide)]; rfl

/-! ## The checks of one step -/

/-- The checks of a step, each of kind, target and hold by its range first. -/
def stepChecks (b : BindIn) (steps : List StepIn) (i : Nat) (x : StepIn) : List FieldCheck :=
  let before := steps.take i
  let last := lastTarget before
  let previous := targetBefore b before
  let target := x.target.toNat
  let change := max target previous - min target previous
  let counted := if x.kind = 2 then 3600 else if x.kind = 4 then 60 else x.hold.toNat
  [(decide (x.kind ∈ ([1, 2, 3, 4] : List Byte)), 39 + 3 * i, .range),
    (decide (((x.kind = 1 ∨ x.kind = 2) ↔ last 2 = none) ∧ (x.kind = 4 ↔ i + 1 = steps.length)),
      39 + 3 * i, .order),
    (decide (((x.kind = 1 ∨ x.kind = 3) → 1 ≤ target)
        ∧ (x.kind = 2 → 10 * target ≤ 9 * (b.maxJack.toNat * b.ramArea.toNat / 10000)))
        && (x.kind != 2 || (percented b target 100 160 0).1) && (x.kind != 4 || (percented b target 50 110 0).1),
      40 + 3 * i, .range),
    (decide ((x.kind = 1 → (last 1).getD b.alignLoad.toNat < target)
        ∧ (x.kind = 2 → ∀ l ∈ last 1, l < target)
        ∧ (x.kind = 3 → target < (last 3).getD ((last 2).getD 0))
        ∧ (x.kind = 4 → target < (last 2).getD 0 ∧ ∀ u ∈ last 3, target < u)),
      40 + 3 * i, .order),
    (decide ((x.kind = 1 ∨ x.kind = 3) → 30 ≤ x.hold.toNat ∧ x.hold.toNat ≤ 900), 41 + 3 * i, .range),
    (decide (60 * change + b.rampRate.toNat * (counted + 300) ≤ b.rampRate.toNat * 5400), 41 + 3 * i, .fit)]

/-- What the model finds at a step of a known kind. -/
def stepFinding (b : BindIn) (w : PlanWalk) (last : Bool) (index : Nat) (k : StepKind) (x : StepIn) : List Finding :=
  checkKind w last index k ++ checkTarget b w (index + 1) k x.target.toNat
    ++ checkHold b w (index + 2) k x.target.toNat x.hold.toNat

theorem checkSteps_cons_of_kind {b : BindIn} {n : Nat} {w : PlanWalk} {x : StepIn} {rest : List StepIn} {k : StepKind}
    (h : stepKindOfCode x.kind.toNat = some k) :
    checkSteps b n w (x :: rest) =
      stepFinding b w rest.isEmpty (39 + 3 * (n - 1)) k x
        ++ checkSteps b (n + 1) (w.after k x.target.toNat) rest := by
  rw [checkSteps, h]
  rfl

theorem checkSteps_cons_of_none {b : BindIn} {n : Nat} {w : PlanWalk} {x : StepIn} {rest : List StepIn}
    (h : stepKindOfCode x.kind.toNat = none) :
    checkSteps b n w (x :: rest) = [some (39 + 3 * (n - 1), .range)] := by
  rw [checkSteps, h]

theorem check_or_check (p q : Bool) (i : Nat) (r : RefusalReason) :
    (check p i r).or (check q i r) = check (p && q) i r := by
  cases p <;> rfl

theorem failure_stepChecks_of_none {b : BindIn} {steps : List StepIn} {i : Nat} {x : StepIn}
    (h : stepKindOfCode x.kind.toNat = none) :
    failure (stepChecks b steps i x) = some (39 + 3 * i, .range) := by
  have hkind : decide (x.kind ∈ ([1, 2, 3, 4] : List Byte)) = false :=
    decide_eq_false ((stepKindOfCode_eq_none_iff _).1 h)
  unfold stepChecks
  rw [hkind]
  rfl

theorem firstFailure_pair (f g : Finding) : firstFailure [f, g] = f.or g := by
  rw [firstFailure_cons, firstFailure_cons]
  exact congrArg _ Option.or_none

theorem firstFailure_checkKind {c : Byte} {k : StepKind} (h : c = k.code) (w : PlanWalk) (last : Bool) (i : Nat) :
    firstFailure (checkKind w last i k) =
      check (decide (((c = 1 ∨ c = 2) ↔ w.proof = none) ∧ (c = 4 ↔ last = true))) i .order := by
  subst h
  refine (firstFailure_pair ..).trans ((check_or_check ..).trans (congrArg (check · i .order) ?_))
  cases k <;> cases w.proof <;> cases last <;> simp [StepKind.code]

theorem firstFailure_checkTarget {c : Byte} {k : StepKind} (h : c = k.code) (b : BindIn) (w : PlanWalk)
    (i target : Nat) :
    firstFailure (checkTarget b w i k target) =
      (check (decide (((c = 1 ∨ c = 3) → 1 ≤ target)
          ∧ (c = 2 → 10 * target ≤ 9 * (b.maxJack.toNat * b.ramArea.toNat / 10000)))
          && (c != 2 || (percented b target 100 160 0).1) && (c != 4 || (percented b target 50 110 0).1)) i .range).or
      (check (decide ((c = 1 → w.lastLoad.getD b.alignLoad.toNat < target)
          ∧ (c = 2 → ∀ l ∈ w.lastLoad, l < target)
          ∧ (c = 3 → target < w.lastUnload.getD (w.proof.getD 0))
          ∧ (c = 4 → target < w.proof.getD 0 ∧ ∀ u ∈ w.lastUnload, target < u))) i .order) := by
  subst h
  cases k with
  | load =>
    refine (firstFailure_pair ..).trans (congrArg₂ Option.or (congrArg (check · i .range) ?_)
      (congrArg (check · i .order) ?_))
    · simp [StepKind.code]
    · simp [StepKind.code]
  | proof =>
    refine (firstFailure_pair ..).trans (congrArg₂ Option.or (congrArg (check · i .range) ?_)
      (congrArg (check · i .order) ?_))
    · simp [StepKind.code, percentOf_eq, percented, ranged, Nat.mul_comm, Bool.and_comm]
    · cases w.lastLoad <;> simp [StepKind.code]
  | unload =>
    refine (firstFailure_pair ..).trans (congrArg₂ Option.or (congrArg (check · i .range) ?_)
      (congrArg (check · i .order) ?_))
    · simp [StepKind.code]
    · cases w.lastUnload <;> simp [StepKind.code]
  | lockOff =>
    refine (firstFailure_cons ..).trans (congrArg₂ Option.or (congrArg (check · i .range) ?_)
      ((firstFailure_pair ..).trans ((check_or_check ..).trans (congrArg (check · i .order) ?_))))
    · simp [StepKind.code, percentOf_eq, percented, ranged]
    · cases w.lastUnload <;> simp [StepKind.code]

theorem firstFailure_checkHold {c : Byte} {k : StepKind} (h : c = k.code) (b : BindIn) (w : PlanWalk)
    (i target hold : Nat) :
    firstFailure (checkHold b w i k target hold) =
      (check (decide ((c = 1 ∨ c = 3) → 30 ≤ hold ∧ hold ≤ 900)) i .range).or
      (check (decide (60 * (max target w.prev - min target w.prev)
          + b.rampRate.toNat * ((if c = 2 then 3600 else if c = 4 then 60 else hold) + 300)
            ≤ b.rampRate.toNat * 5400)) i .fit) := by
  have hcounted : countedHold k hold = if c = 2 then 3600 else if c = 4 then 60 else hold := by
    subst h
    cases k <;> rfl
  subst h
  unfold checkHold
  rw [hcounted]
  refine (firstFailure_pair ..).trans (congrArg₂ Option.or (congrArg (check · i .range) ?_) rfl)
  cases k <;> simp [StepKind.code, within_eq]

/-- The two ways to check a step of a known kind. -/
theorem firstFailure_stepFinding {b : BindIn} {before rest : List StepIn} {x : StepIn} {k : StepKind}
    (h : x.kind = k.code) :
    firstFailure (stepFinding b (walkOf b before) rest.isEmpty (39 + 3 * before.length) k x) =
      failure (stepChecks b (before ++ x :: rest) before.length x) := by
  have hlast : rest.isEmpty = true ↔ before.length + 1 = (before ++ x :: rest).length := by
    rw [List.length_append, List.length_cons, List.isEmpty_iff_length_eq_zero]
    omega
  have hkind : decide (x.kind ∈ ([1, 2, 3, 4] : List Byte)) = true := by
    rw [h]
    cases k <;> rfl
  have htarget : 39 + 3 * before.length + 1 = 40 + 3 * before.length := by omega
  have hhold : 39 + 3 * before.length + 2 = 41 + 3 * before.length := by omega
  unfold stepFinding
  rw [firstFailure_append, firstFailure_append, firstFailure_checkKind h, firstFailure_checkTarget h,
    firstFailure_checkHold h, htarget, hhold]
  unfold stepChecks
  simp only [List.take_left, hlast, failure_cons, hkind, Option.or_assoc]
  rw [show failure [] = none from rfl, Option.or_none]
  rfl

/-- The walk of the plan, from any step of it on. -/
theorem firstFailure_checkSteps (b : BindIn) (before rest : List StepIn) :
    firstFailure (checkSteps b (before.length + 1) (walkOf b before) rest) =
      failure (rest.mapIdx fun i x => stepChecks b (before ++ rest) (before.length + i) x).flatten := by
  induction rest generalizing before with
  | nil => rfl
  | cons x rest ih =>
    rw [List.mapIdx_cons, List.flatten_cons, failure_append, Nat.add_zero before.length]
    cases hkind : stepKindOfCode x.kind.toNat with
    | none =>
      rw [checkSteps_cons_of_none hkind, failure_stepChecks_of_none hkind]
      rfl
    | some k =>
      have hcode := eq_code_of_stepKindOfCode hkind
      have hnext := ih (before ++ [x])
      simp only [List.append_assoc, List.singleton_append, List.length_append, List.length_singleton] at hnext
      rw [checkSteps_cons_of_kind hkind, firstFailure_append, Nat.add_sub_cancel, firstFailure_stepFinding hcode,
        ← walkOf_append b before hcode, hnext]
      simp only [Nat.add_assoc, Nat.add_comm 1]

end Sys2Proof.Machine

/-! A BIND in which the validation finds nothing (R190 to R193). -/

namespace Sys2Proof.Machine

/-! ## The whole walk -/

theorem failure_eq_none_iff (l : List FieldCheck) : failure l = none ↔ ∀ c ∈ l, c.1 = true := by
  unfold failure
  rw [Option.map_eq_none_iff, List.find?_eq_none]
  simp

/-- The checks of the plan. -/
def planChecks (b : BindIn) : List FieldCheck := ((planSteps b).mapIdx (stepChecks b (planSteps b))).flatten

theorem checkPlan_eq (b : BindIn) :
    firstFailure (checkSteps b 1 ⟨b.alignLoad.toNat, none, none, none⟩ (planSteps b)) = failure (planChecks b) := by
  have h := firstFailure_checkSteps b [] (planSteps b)
  simp only [List.nil_append, List.length_nil, Nat.zero_add] at h
  exact h

theorem validate_eq (own : Nat) (b : BindIn) : validate own b = failure (fieldChecks own b ++ planChecks b) := by
  unfold validate
  rw [checkFields_eq, firstFailure_append, failure_append, firstFailure_map_finding, checkPlan_eq]

/-! ## Fields 1 to 38 -/

theorem forall_mem_flatten_mapIdx {α : Type} {l : List α} {f : Nat → α → List FieldCheck}
    (h : ∀ c ∈ (l.mapIdx f).flatten, c.1 = true) (i : Nat) (hi : i < l.length) : ∀ c ∈ f i l[i], c.1 = true :=
  fun c hc => h c (List.mem_flatten.2 ⟨f i l[i], List.mem_mapIdx.2 ⟨i, hi, rfl⟩, hc⟩)

theorem roster_of_passed {own : Nat} {roster : List Byte}
    (h : ∀ c ∈ (roster.mapIdx (numberChecks own roster)).flatten, c.1 = true) :
    (∀ n ∈ roster, 1 ≤ n.toNat ∧ n.toNat ≤ 62 ∧ n.toNat ≠ own) ∧ roster.Nodup := by
  have hnumber (i : Nat) (hi : i < roster.length) :
      (1 ≤ roster[i].toNat ∧ roster[i].toNat ≤ 62) ∧ roster[i].toNat ≠ own ∧ roster[i] ∉ roster.take i := by
    have hpassed := forall_mem_flatten_mapIdx h i hi
    simpa only [numberChecks, ranged, List.forall_mem_cons, decide_eq_true_iff, List.not_mem_nil, false_imp_iff,
      implies_true, and_true] using hpassed
  refine ⟨fun n hn => ?_, List.pairwise_iff_getElem.2 fun i j hi hj hij heq => ?_⟩
  · obtain ⟨i, hi, rfl⟩ := List.getElem_of_mem hn
    obtain ⟨⟨hlo, hhi⟩, hself, -⟩ := hnumber i hi
    exact ⟨hlo, hhi, hself⟩
  · obtain ⟨-, -, hnew⟩ := hnumber j hj
    exact hnew (List.mem_take_iff_getElem.2 ⟨i, by omega, heq⟩)

/-! ## The plan (R192) -/

/-- A passing step: its code, its place, its target and its hold. -/
theorem step_of_checkSteps_none {b : BindIn} {n : Nat} {w : PlanWalk} {x : StepIn} {rest : List StepIn}
    (h : firstFailure (checkSteps b n w (x :: rest)) = none) :
    ∃ k : StepKind, x.kind = k.code
      ∧ (((x.kind = 1 ∨ x.kind = 2) ↔ w.proof = none) ∧ (x.kind = 4 ↔ rest.isEmpty = true))
      ∧ firstFailure (checkTarget b w (39 + 3 * (n - 1) + 1) k x.target.toNat) = none
      ∧ ((x.kind = 1 ∨ x.kind = 3) → 30 ≤ x.hold.toNat ∧ x.hold.toNat ≤ 900)
      ∧ firstFailure (checkSteps b (n + 1) (w.after k x.target.toNat) rest) = none := by
  cases hkind : stepKindOfCode x.kind.toNat with
  | none =>
    rw [checkSteps_cons_of_none hkind] at h
    exact absurd h nofun
  | some k =>
    have hcode := eq_code_of_stepKindOfCode hkind
    rw [checkSteps_cons_of_kind hkind, stepFinding, firstFailure_append, firstFailure_append, firstFailure_append,
      firstFailure_checkKind hcode, firstFailure_checkHold hcode] at h
    simp only [Option.or_eq_none_iff, check_eq_none_iff, decide_eq_true_iff] at h
    obtain ⟨⟨⟨hplace, htarget⟩, hhold, -⟩, hrest⟩ := h
    exact ⟨k, hcode, hplace, htarget, hhold, hrest⟩

/-- The tail of a plan after its PROOF step. -/
theorem unloads_of_checkSteps_none {b : BindIn} {p : Nat} {rest : List StepIn} {n : Nat} {w : PlanWalk}
    (hproof : w.proof = some p) (hrest : rest ≠ []) (h : firstFailure (checkSteps b n w rest) = none) :
    ∃ (unloads : List StepIn) (last : StepIn), rest = unloads ++ [last]
      ∧ (∀ x ∈ unloads, x.kind = 3 ∧ 1 ≤ x.target.toNat ∧ 30 ≤ x.hold.toNat ∧ x.hold.toNat ≤ 900)
      ∧ last.kind = 4
      ∧ (w.lastUnload.getD p :: (unloads ++ [last]).map fun x => x.target.toNat).IsChain (· > ·)
      ∧ 50 * b.designLoad.toNat ≤ last.target.toNat * 100
      ∧ last.target.toNat * 100 ≤ 110 * b.designLoad.toNat := by
  induction rest generalizing n w with
  | nil => exact absurd rfl hrest
  | cons x rest ih =>
    obtain ⟨k, hcode, ⟨hplace, hlast⟩, htarget, hhold, hnext⟩ := step_of_checkSteps_none h
    have hlater : ¬(x.kind = 1 ∨ x.kind = 2) := fun hc => by
      rw [hproof] at hplace
      exact absurd (hplace.1 hc) nofun
    rw [firstFailure_checkTarget hcode] at htarget
    simp only [Option.or_eq_none_iff, check_eq_none_iff, decide_eq_true_iff, Bool.and_eq_true] at htarget
    cases k with
    | load => exact absurd (.inl hcode) hlater
    | proof => exact absurd (.inr hcode) hlater
    | unload =>
      obtain ⟨⟨⟨⟨hone, -⟩, -⟩, -⟩, -, -, hfalls, -⟩ := htarget
      have hmore : rest ≠ [] := fun hnil => by
        have hfour := hlast.2 (by rw [hnil]; rfl)
        rw [hcode] at hfour
        exact absurd hfour (by decide)
      obtain ⟨unloads, last, rfl, hunloads, hkind, hchain, hlo, hhi⟩ := ih (w := w.after .unload x.target.toNat)
        hproof hmore hnext
      refine ⟨x :: unloads, last, rfl, List.forall_mem_cons.2 ⟨⟨hcode, hone (.inr hcode), hhold (.inr hcode)⟩,
        hunloads⟩, hkind, List.isChain_cons_cons.2 ⟨?_, hchain⟩, hlo, hhi⟩
      have hbelow := hfalls hcode
      rw [hproof] at hbelow
      exact hbelow
    | lockOff =>
      obtain ⟨⟨-, hpercent⟩, -, -, -, hfalls⟩ := htarget
      obtain ⟨hproofAbove, hunloadAbove⟩ := hfalls hcode
      have hnil : rest = [] := List.isEmpty_iff.1 (hlast.1 hcode)
      rw [hcode] at hpercent
      have hrange : 50 * b.designLoad.toNat ≤ x.target.toNat * 100
          ∧ x.target.toNat * 100 ≤ 110 * b.designLoad.toNat := by
        simpa [percented, ranged, StepKind.code] using hpercent
      refine ⟨[], x, by rw [hnil]; rfl, nofun, hcode, List.isChain_pair.2 ?_, hrange⟩
      rw [hproof] at hproofAbove
      cases hunload : w.lastUnload with
      | none => exact hproofAbove
      | some u => exact hunloadAbove u hunload

/-- A whole plan, from the walk before its PROOF step. -/
theorem loads_of_checkSteps_none {b : BindIn} {rest : List StepIn} {n : Nat} {w : PlanWalk} (hproof : w.proof = none)
    (hunload : w.lastUnload = none) (hrest : rest ≠ []) (h : firstFailure (checkSteps b n w rest) = none) :
    ∃ (loads tail : List StepIn) (proof : StepIn) (m : Nat) (v : PlanWalk), rest = loads ++ proof :: tail
      ∧ (∀ x ∈ loads, x.kind = 1 ∧ 30 ≤ x.hold.toNat ∧ x.hold.toNat ≤ 900)
      ∧ proof.kind = 2
      ∧ (w.lastLoad.getD b.alignLoad.toNat :: loads.map fun x => x.target.toNat).IsChain (· < ·)
      ∧ (∀ l ∈ w.lastLoad, l < proof.target.toNat)
      ∧ (∀ x ∈ loads, x.target.toNat < proof.target.toNat)
      ∧ 100 * b.designLoad.toNat ≤ proof.target.toNat * 100
      ∧ proof.target.toNat * 100 ≤ 160 * b.designLoad.toNat
      ∧ proof.target.toNat * 10 ≤ b.maxJack.toNat * b.ramArea.toNat / 10000 * 9
      ∧ tail ≠ [] ∧ v.proof = some proof.target.toNat ∧ v.lastUnload = none
      ∧ firstFailure (checkSteps b m v tail) = none := by
  induction rest generalizing n w with
  | nil => exact absurd rfl hrest
  | cons x rest ih =>
    obtain ⟨k, hcode, ⟨hplace, hlast⟩, htarget, hhold, hnext⟩ := step_of_checkSteps_none h
    have hearly : x.kind = 1 ∨ x.kind = 2 := hplace.2 hproof
    have hmore : rest ≠ [] := fun hnil => by
      have hfour := hlast.2 (by rw [hnil]; rfl)
      rw [hfour] at hearly
      exact absurd hearly (by decide)
    rw [firstFailure_checkTarget hcode] at htarget
    simp only [Option.or_eq_none_iff, check_eq_none_iff, decide_eq_true_iff, Bool.and_eq_true] at htarget
    cases k with
    | load =>
      obtain ⟨-, hrises, -⟩ := htarget
      obtain ⟨loads, tail, proof, m, v, rfl, hloads, hkind, hchain, hfirst, hbelow, hlo, hhi, hjack, htail⟩ :=
        ih (w := w.after .load x.target.toNat) hproof hunload hmore hnext
      have hx : x.target.toNat < proof.target.toNat := hfirst _ rfl
      refine ⟨x :: loads, tail, proof, m, v, rfl, List.forall_mem_cons.2 ⟨⟨hcode, hhold (.inl hcode)⟩, hloads⟩, hkind,
        List.isChain_cons_cons.2 ⟨hrises hcode, hchain⟩, fun l hl => ?_, List.forall_mem_cons.2 ⟨hx, hbelow⟩, hlo, hhi,
        hjack, htail⟩
      have hlow := hrises hcode
      rw [Option.mem_def.1 hl] at hlow
      exact Nat.lt_trans hlow hx
    | proof =>
      obtain ⟨⟨⟨⟨-, hjack⟩, hpercent⟩, -⟩, -, habove, -⟩ := htarget
      rw [hcode] at hpercent
      have hrange : 100 * b.designLoad.toNat ≤ x.target.toNat * 100
          ∧ x.target.toNat * 100 ≤ 160 * b.designLoad.toNat := by
        simpa [percented, ranged, StepKind.code] using hpercent
      obtain ⟨hlo, hhi⟩ := hrange
      have hcapacity := hjack hcode
      exact ⟨[], rest, x, n + 1, w.after .proof x.target.toNat, rfl, nofun, hcode, List.isChain_singleton _,
        habove hcode, nofun, hlo, hhi, by omega, hmore, rfl, hunload, hnext⟩
    | unload => exact absurd (hcode ▸ hearly) (by decide)
    | lockOff => exact absurd (hcode ▸ hearly) (by decide)

/-! ## The lease fit (R193) -/

theorem targetBefore_take {b : BindIn} {i : Nat} {x : StepIn} (h : (planSteps b)[i]? = some x) :
    targetBefore b ((planSteps b).take i) =
      if i = 0 then b.alignLoad.toNat else ((b.steps[i - 1]?).map fun y => y.target.toNat).getD 0 := by
  obtain ⟨hi, -⟩ := List.getElem?_eq_some_iff.1 h
  cases i with
  | zero => rfl
  | succ j =>
    have hj : j < (planSteps b).length := by omega
    have hlt : j < b.stepCount.toNat := Nat.lt_of_lt_of_le hj (List.length_take_le b.stepCount.toNat b.steps)
    have hstep : b.steps[j]? = some (planSteps b)[j] :=
      (List.getElem?_take_of_lt hlt).symm.trans (List.getElem?_eq_getElem hj)
    rw [List.take_succ_eq_append_getElem hj, targetBefore_append, if_neg (Nat.succ_ne_zero j), Nat.add_sub_cancel,
      hstep]
    rfl

/-- What the lease fit asks of a step. -/
theorem fit_of_passed {b : BindIn} (h : ∀ c ∈ planChecks b, c.1 = true) {i : Nat} {x : StepIn}
    (hx : (planSteps b)[i]? = some x) :
    60 * (max x.target.toNat (targetBefore b ((planSteps b).take i))
        - min x.target.toNat (targetBefore b ((planSteps b).take i)))
      + b.rampRate.toNat * ((if x.kind = 2 then 3600 else if x.kind = 4 then 60 else x.hold.toNat) + 300)
        ≤ b.rampRate.toNat * 5400 := by
  obtain ⟨hi, rfl⟩ := List.getElem?_eq_some_iff.1 hx
  have hpassed := forall_mem_flatten_mapIdx h i hi
  simp only [stepChecks, List.forall_mem_cons, decide_eq_true_iff] at hpassed
  obtain ⟨-, -, -, -, -, hfit, -⟩ := hpassed
  exact hfit

theorem plan_of_passed {b : BindIn} (hcount : 0 < (planSteps b).length) (h : failure (planChecks b) = none) :
    ∃ (loads unloads : List StepIn) (proof last : StepIn),
      planSteps b = loads ++ [proof] ++ unloads ++ [last]
      ∧ (∀ x ∈ loads, x.kind = 1 ∧ 30 ≤ x.hold.toNat ∧ x.hold.toNat ≤ 900)
      ∧ proof.kind = 2
      ∧ (∀ x ∈ unloads, x.kind = 3 ∧ 1 ≤ x.target.toNat ∧ 30 ≤ x.hold.toNat ∧ x.hold.toNat ≤ 900)
      ∧ last.kind = 4
      ∧ (b.alignLoad.toNat :: loads.map fun x => x.target.toNat).Pairwise (· < ·)
      ∧ (∀ x ∈ loads, x.target.toNat < proof.target.toNat)
      ∧ 100 * b.designLoad.toNat ≤ proof.target.toNat * 100
      ∧ proof.target.toNat * 100 ≤ 160 * b.designLoad.toNat
      ∧ proof.target.toNat * 10 ≤ b.maxJack.toNat * b.ramArea.toNat / 10000 * 9
      ∧ ((proof :: unloads ++ [last]).map fun x => x.target.toNat).Pairwise (· > ·)
      ∧ 50 * b.designLoad.toNat ≤ last.target.toNat * 100
      ∧ last.target.toNat * 100 ≤ 110 * b.designLoad.toNat := by
  rw [← checkPlan_eq] at h
  obtain ⟨loads, tail, proof, m, v, hplan, hloads, hproofKind, hrising, -, hbelow, hlo, hhi, hjack, htail, hproof,
    hunload, hrest⟩ := loads_of_checkSteps_none rfl rfl (List.ne_nil_of_length_pos hcount) h
  obtain ⟨unloads, last, rfl, hunloads, hlastKind, hfalling, hlastLo, hlastHi⟩ :=
    unloads_of_checkSteps_none hproof htail hrest
  rw [hunload] at hfalling
  exact ⟨loads, unloads, proof, last, by rw [hplan]; simp, hloads, hproofKind, hunloads, hlastKind,
    List.isChain_iff_pairwise.1 hrising, hbelow, hlo, hhi, hjack, List.isChain_iff_pairwise.1 hfalling, hlastLo,
    hlastHi⟩

/-- Settles O29: the walk as one list of checks by `validate_eq`; a plan with no finding by `plan_of_passed` and
`fit_of_passed`. -/
theorem acceptedBindIsInRange : Obligations.AcceptedBindIsInRange := by
  refine ⟨fun own b hok hnone => ?_, fun own b _ => validate_eq own b⟩
  rw [validate_eq, failure_append, Option.or_eq_none_iff, failure_eq_none_iff] at hnone
  obtain ⟨hfields, hplan⟩ := hnone
  simp only [fieldChecks, List.forall_mem_append] at hfields
  obtain ⟨⟨⟨⟨⟨hlabel, hcounts⟩, hroster⟩, hwork⟩, hjack⟩, hstart⟩ := hfields
  obtain ⟨hnumbers, hnodup⟩ := roster_of_passed hroster
  simp only [labelChecks, List.forall_mem_cons, List.forall_mem_map, ranged, decide_eq_true_iff] at hlabel
  simp only [List.forall_mem_cons, ranged, decide_eq_true_iff] at hcounts
  simp only [workChecks, List.forall_mem_cons, ranged, decide_eq_true_iff] at hwork
  simp only [jackChecks, List.forall_mem_cons, percented, ranged, decide_eq_true_iff] at hjack
  simp only [startChecks, List.forall_mem_cons, percented, ranged, decide_eq_true_iff, Bool.or_eq_true, bne_iff_ne,
    ne_eq] at hstart
  obtain ⟨⟨hlabelLo, hlabelHi⟩, hchars⟩ := hlabel
  obtain ⟨⟨hwall, -⟩, ⟨-, hrosterCount⟩, -⟩ := hcounts
  obtain ⟨⟨htendonLo, htendonHi⟩, ⟨hpullLo, hpullHi⟩, ⟨hslackLo, hslackHi⟩, hslack, ⟨-, hoff⟩, ⟨hholeLo, hholeHi⟩,
    ⟨hfillLo, hfillHi⟩, ⟨hstageLo, hstageHi⟩, ⟨hgroutLo, hgroutHi⟩, ⟨hflowLo, hflowHi⟩, ⟨htimeLo, htimeHi⟩,
    ⟨hvolumeLo, hvolumeHi⟩, ⟨hheaderLo, hheaderHi⟩, ⟨hbreakLo, hbreakHi⟩, ⟨hsetLo, hsetHi⟩, ⟨hcureLo, hcureHi⟩, -⟩ :=
    hwork
  obtain ⟨⟨hramLo, hramHi⟩, ⟨hmaxLo, hmaxHi⟩, ⟨hdesignLo, hdesignHi⟩, ⟨halignLo, halignHi⟩, ⟨hrateLo, hrateHi⟩,
    ⟨hcreepLo, hcreepHi⟩, -, ⟨-, hextHi⟩, hext, ⟨hlockLo, hlockHi⟩, ⟨hlossLo, hlossHi⟩, ⟨-, htopUp⟩, ⟨-, hover⟩,
    ⟨-, henable⟩, ⟨-, hextPick⟩, ⟨-, hkeep⟩, -⟩ := hjack
  obtain ⟨hphase, hcuring, hlocked, ⟨hstepLo, hstepHi⟩, -⟩ := hstart
  have hwall' : b.wall ≠ 0 := fun hzero => by
    rw [hzero] at hwall
    exact absurd hwall (by decide)
  have hphase' : b.startPhase = 1 ∨ b.startPhase = 2 ∨ b.startPhase = 4 ∨ b.startPhase = 5 ∨ b.startPhase = 7 := by
    simpa using hphase
  have hlength : 0 < (planSteps b).length := by
    have hten : b.steps.length = 10 := by
      simp only [BindIn.ok, Bool.and_eq_true, beq_iff_eq] at hok
      exact hok.2
    unfold planSteps
    rw [List.length_take]
    omega
  obtain ⟨loads, unloads, proof, last, hsteps, hloads, hproof, hunloads, hlast, hrising, hbelow, hproofLo, hproofHi,
    hcapacity, hfalling, hlastLo, hlastHi⟩ := plan_of_passed hlength hplan
  exact ⟨hlabelLo, hlabelHi, hchars, hwall', hrosterCount, hnumbers, hnodup, htendonLo, htendonHi, hpullLo, hpullHi,
    hslackLo, hslackHi, hslack, hoff, hholeLo, hholeHi, hfillLo, hfillHi, hstageLo, hstageHi, hgroutLo, hgroutHi,
    hflowLo, hflowHi, htimeLo, htimeHi, hvolumeLo, by omega, hheaderLo, hheaderHi, hbreakLo, hbreakHi, hsetLo, hsetHi,
    hcureLo, hcureHi, hramLo, hramHi, hdesignLo, hdesignHi, halignLo, halignHi, hrateLo, hrateHi, hcreepLo, hcreepHi,
    hext, hextHi, hlockLo, hlockHi, hlossLo, hlossHi, htopUp, hover, henable, hextPick, hkeep, hmaxLo, hmaxHi, hphase',
    hstepLo, hstepHi, hcuring, fun hseven => hlocked.resolve_left fun hne => hne hseven,
    loads, unloads, proof, last, hsteps, hloads, hproof, hunloads, hlast, hrising, hbelow, hproofLo, hproofHi,
    hcapacity, hfalling, hlastLo, hlastHi, fun i x hx => by
      have hfit := fit_of_passed ((failure_eq_none_iff _).1 hplan) hx
      rwa [targetBefore_take hx] at hfit⟩

end Sys2Proof.Machine

/-! The check of a frame (R2). -/

namespace Sys2Proof.Machine

/-! ## The check register is linear -/

/-- What one bit brings into the register, by the bit that leaves it. -/
def crcTap (feedback : Bool) : Half := if feedback then 0x1021#16 else 0

theorem crcTap_xor (x y : Bool) : crcTap (x ^^ y) = crcTap x ^^^ crcTap y := by
  cases x <;> cases y <;> rfl

theorem crcBit_eq (r : Half) (bit : Bool) : crcBit r bit = (r <<< 1) ^^^ crcTap (r.msb ^^ bit) := by
  unfold crcBit crcTap
  cases r.msb <;> cases bit <;> simp

theorem crcBit_xor (r q : Half) (x y : Bool) : crcBit (r ^^^ q) (x ^^ y) = crcBit r x ^^^ crcBit q y := by
  have hfeedback : ((r.msb ^^ q.msb) ^^ (x ^^ y)) = ((r.msb ^^ x) ^^ (q.msb ^^ y)) :=
    (by decide : ∀ a b c d : Bool, ((a ^^ b) ^^ (c ^^ d)) = ((a ^^ c) ^^ (b ^^ d))) _ _ _ _
  rw [crcBit_eq, crcBit_eq, crcBit_eq, BitVec.shiftLeft_xor_distrib, BitVec.msb_xor, hfeedback, crcTap_xor]
  ac_rfl

theorem crcByte_xor (r q : Half) (x y : Byte) : crcByte (r ^^^ q) (x ^^^ y) = crcByte r x ^^^ crcByte q y := by
  unfold crcByte
  induction List.range 8 generalizing r q with
  | nil => rfl
  | cons i bits ih =>
    rw [List.foldl_cons, List.foldl_cons, List.foldl_cons, BitVec.getLsbD_xor, crcBit_xor, ih]

/-! ## No two registers and no two bytes meet -/

theorem crcBit_eq_zero {r : Half} (h : crcBit r false = 0#16) : r = 0#16 := by
  rw [crcBit_eq, Bool.xor_false] at h
  have hmsb : r.msb = false := by
    have hbit : ((r <<< 1) ^^^ crcTap r.msb).getLsbD 0 = r.msb := by
      rw [BitVec.getLsbD_xor, BitVec.getLsbD_shiftLeft]
      cases r.msb <;> rfl
    rw [← hbit, h]
    rfl
  rw [hmsb] at h
  have hshift : r <<< 1 = 0#16 := (BitVec.xor_zero (x := r <<< 1)).symm.trans h
  refine BitVec.eq_of_getLsbD_eq fun i hi => ?_
  rw [BitVec.getLsbD_zero]
  by_cases htop : i = 15
  · rw [htop]
    exact (BitVec.msb_eq_getLsbD_last r).symm.trans hmsb
  · have hnext : (r <<< 1).getLsbD (i + 1) = r.getLsbD i := by
      rw [BitVec.getLsbD_shiftLeft]
      simp
      omega
    rw [← hnext, hshift, BitVec.getLsbD_zero]

theorem foldl_crcBit_eq_zero {r : Half} (bits : List Nat)
    (h : bits.foldl (fun r i => crcBit r ((0#8).getLsbD i)) r = 0#16) : r = 0#16 := by
  induction bits generalizing r with
  | nil => exact h
  | cons i bits ih =>
    rw [List.foldl_cons, BitVec.getLsbD_zero] at h
    exact crcBit_eq_zero (ih h)

theorem crcByte_zero_eq_zero {r : Half} (h : crcByte r 0#8 = 0#16) : r = 0#16 := foldl_crcBit_eq_zero _ h

theorem crcByte_of_zero_eq_zero : ∀ d : Byte, crcByte 0#16 d = 0#16 → d = 0#8 := by
  decide +kernel

theorem crcByte_register_injective {r q : Half} (b : Byte) (h : crcByte r b = crcByte q b) : r = q := by
  have hzero : crcByte (r ^^^ q) (b ^^^ b) = 0#16 := by rw [crcByte_xor, h, BitVec.xor_self]
  rw [BitVec.xor_self] at hzero
  exact BitVec.xor_eq_zero_iff.1 (crcByte_zero_eq_zero hzero)

theorem crcByte_byte_injective (r : Half) {x y : Byte} (h : crcByte r x = crcByte r y) : x = y := by
  have hzero : crcByte (r ^^^ r) (x ^^^ y) = 0#16 := by rw [crcByte_xor, h, BitVec.xor_self]
  rw [BitVec.xor_self] at hzero
  exact BitVec.xor_eq_zero_iff.1 (crcByte_of_zero_eq_zero _ hzero)

theorem foldl_crcByte_injective {r q : Half} (bytes : List Byte)
    (h : bytes.foldl crcByte r = bytes.foldl crcByte q) : r = q := by
  induction bytes generalizing r q with
  | nil => exact h
  | cons b bytes ih => exact crcByte_register_injective b (ih h)

/-- The check finds a change of any one byte. -/
theorem crc_ne_of_byte_ne {x y : Byte} (hne : x ≠ y) (pre post : List Byte) :
    crc (pre ++ x :: post) ≠ crc (pre ++ y :: post) := by
  intro h
  unfold crc at h
  rw [List.foldl_append, List.foldl_append, List.foldl_cons, List.foldl_cons] at h
  exact hne (crcByte_byte_injective _ (foldl_crcByte_injective post h))

/-- So it does in a payload. -/
theorem crc_frameBody_ne {x y : Byte} (hne : x ≠ y) (dst src kind : Byte) (pre post : List Byte) :
    crc (frameBody dst src kind (pre ++ x :: post)) ≠ crc (frameBody dst src kind (pre ++ y :: post)) := by
  have hlength : (pre ++ x :: post).length = (pre ++ y :: post).length := by simp
  unfold frameBody
  rw [hlength, ← List.append_assoc, ← List.append_assoc]
  exact crc_ne_of_byte_ne hne _ post

/-! ## The receive checks of a frame (R3) -/

theorem rxFault_frameBytes {dst src : Byte} (kind : Byte) {payload : List Byte} (hdst : 1 ≤ dst.toNat)
    (hdst' : dst.toNat ≤ 79) (hsrc : 1 ≤ src.toNat) (hsrc' : src.toNat ≤ 62) (hlength : payload.length ≤ 200) :
    rxFault (frameBytes dst src kind payload) = none := by
  have hlen : (BitVec.ofNat 8 payload.length).toNat = payload.length := by
    rw [BitVec.toNat_ofNat]
    exact Nat.mod_eq_of_lt (by omega)
  unfold rxFault frameBytes frameBody
  dsimp only [List.cons_append, List.nil_append]
  refine (if_neg (not_not.2 rfl)).trans ((if_neg ?_).trans ((if_neg ?_).trans ((if_neg ?_).trans
    ((if_neg ?_).trans (if_neg ?_)))))
  · omega
  · rw [hlen, List.length_append]
    exact not_not.2 rfl
  · rw [hlen, List.drop_left, List.take_left]
    exact not_not.2 rfl
  · omega
  · omega

theorem burstPayload_frameBytes (dst src kind : Byte) {payload : List Byte} (hlength : payload.length ≤ 200) :
    burstPayload (frameBytes dst src kind payload) = payload := by
  have hlen : (BitVec.ofNat 8 payload.length).toNat = payload.length := by
    rw [BitVec.toNat_ofNat]
    exact Nat.mod_eq_of_lt (by omega)
  refine (congrArg (fun n => (payload ++ be16 (crc (frameBody dst src kind payload))).take n) hlen).trans ?_
  rw [List.take_left]

end Sys2Proof.Machine

/-! The frames the controller sends: their sizes and their receive checks (R2, R3, R196). -/

namespace Sys2Proof.Machine

/-! ## Lengths of the fields -/

@[simp] theorem length_be16 (w : Half) : (be16 w).length = 2 := rfl

@[simp] theorem length_be32 (w : BitVec 32) : (be32 w).length = 4 := rfl

@[simp] theorem length_labelBytes (l : List Byte) : (labelBytes l).length = 13 := by
  unfold labelBytes
  rw [List.length_cons, List.length_take, List.length_append, List.length_replicate]
  omega

@[simp] theorem InstRecord.length_bytes (r : InstRecord) : r.bytes.length = 32 := by
  simp [InstRecord.bytes]

@[simp] theorem SlotRecord.length_bytes (slot : Nat) (r : SlotRecord) : (r.bytes slot).length = 36 := by
  simp [SlotRecord.bytes]

@[simp] theorem Point.length_bytes (p : Point) : p.bytes.length = 11 := by
  simp [Point.bytes]

@[simp] theorem TopUpEntry.length_bytes (e : TopUpEntry) : e.bytes.length = 5 := by
  simp [TopUpEntry.bytes]

@[simp] theorem StoreSummary.length_bytes (t : StoreSummary) : t.bytes.length = 12 := by
  simp [StoreSummary.bytes]

@[simp] theorem Entry.length_bytes (e : Entry) : e.bytes.length = 9 := by
  simp [Entry.bytes]

theorem length_flatMap_of_length {α : Type} {f : α → List Byte} {n : Nat} (h : ∀ a, (f a).length = n) (l : List α) :
    (l.flatMap f).length = n * l.length := by
  simp [List.length_flatMap, h, Nat.mul_comm]

theorem StatusReport.length_bytes (r : StatusReport) : r.bytes.length = 85 + 9 * r.roster.length := by
  unfold StatusReport.bytes
  simp only [List.length_append, List.length_cons, List.length_nil, length_be16, length_be32, length_labelBytes,
    StoreSummary.length_bytes, length_flatMap_of_length Entry.length_bytes]

/-! ## Sizes of the payloads -/

theorem length_replyPayload (es : List ReplyEntry) : (replyPayload es).length = 1 + 7 * es.length := by
  have hentry (e : ReplyEntry) :
      ([byteOf e.target] ++ be32 e.stamp
        ++ [byteOf (replyVerdictCode e.verdict), byteOf (replyReasonCode e.reason)]).length = 7 := rfl
  rw [replyPayload, List.length_cons, length_flatMap_of_length hentry, Nat.add_comm]

theorem Beacon.length_payload (b : Beacon) : b.payload.length = 18 + b.roster.length := by
  simp [Beacon.payload]
  omega

/-- The size of a report's payload, within the 200 bytes of R2. -/
theorem Report.length_payload {r : Report} (hpoints : ∀ slot ps, r = .points slot ps → ps.length ≤ 12)
    (htopUps : ∀ slot es, r = .topUps slot es → es.length ≤ 3) (hstatus : ∀ q, r = .status q → q.roster.length ≤ 12) :
    2 ≤ r.payload.length ∧ r.payload.length ≤ 200 := by
  cases r with
  | bindOk own start n => simp [Report.payload]
  | bindRefused i x => simp [Report.payload]
  | plain a w => simp [Report.payload]
  | exportedOk slot n => simp [Report.payload]
  | installation r => simp [Report.payload]
  | freeSlot slot => simp [Report.payload]
  | slotHead slot r => simp [Report.payload]
  | points slot ps =>
    have hcount := hpoints slot ps rfl
    simp only [Report.payload, List.length_append, List.length_cons, List.length_nil,
      length_flatMap_of_length Point.length_bytes]
    omega
  | topUps slot es =>
    have hcount := htopUps slot es rfl
    simp only [Report.payload, List.length_append, List.length_cons, List.length_nil,
      length_flatMap_of_length TopUpEntry.length_bytes]
    omega
  | unstated content =>
    simp only [Report.payload, List.length_append, List.length_cons, List.length_nil, List.length_take]
    omega
  | status q =>
    have hcount := hstatus q rfl
    simp only [Report.payload, List.length_append, List.length_cons, List.length_nil, StatusReport.length_bytes]
    omega

theorem toNat_byteOf {n : Nat} (h : n < 256) : (byteOf n).toNat = n := by
  rw [byteOf, BitVec.toNat_ofNat]
  exact Nat.mod_eq_of_lt h

theorem sizeAllowed_reply {es : List ReplyEntry} (hlo : 1 ≤ es.length) (hhi : es.length ≤ 12) :
    sizeAllowed 3 (replyPayload es) = true := by
  have hcount : ((replyPayload es).getD 0 0).toNat = es.length := toNat_byteOf (by omega)
  have hdef : sizeAllowed 3 (replyPayload es) =
      (decide (1 ≤ ((replyPayload es).getD 0 0).toNat) && decide (((replyPayload es).getD 0 0).toNat ≤ 12)
        && (replyPayload es).length == 1 + 7 * ((replyPayload es).getD 0 0).toNat) := rfl
  rw [hdef, hcount, length_replyPayload]
  simp [hlo, hhi]

theorem sizeAllowed_beacon {b : Beacon} (h : b.roster.length ≤ 12) : sizeAllowed 1 b.payload = true := by
  have hcount : (b.payload.getD 17 0).toNat = b.roster.length := toNat_byteOf (by omega)
  have hdef : sizeAllowed 1 b.payload =
      (decide (18 ≤ b.payload.length) && decide ((b.payload.getD 17 0).toNat ≤ 12)
        && b.payload.length == 18 + (b.payload.getD 17 0).toNat) := rfl
  rw [hdef, hcount, Beacon.length_payload]
  simp [h]

theorem sizeAllowed_report {payload : List Byte} (hlo : 2 ≤ payload.length) (hhi : payload.length ≤ 200) :
    sizeAllowed 10 payload = true := by
  have hdef : sizeAllowed 10 payload = (decide (2 ≤ payload.length) && decide (payload.length ≤ 200)) := rfl
  rw [hdef]
  simp [hlo, hhi]

/-! ## A sent frame -/

theorem State.wireNow_of_sending {s : State} {f : OutFrame} {n : Nat} (h : s.lif.tx = .sending f n) :
    s.wireNow = frameBytes f.dst (byteOf s.ownNumber) f.kind f.payload := by
  unfold State.wireNow
  rw [h]
  rfl

theorem State.own_range {s : State} {own : Nat} (h : s.own = some own) : 1 ≤ own ∧ own ≤ 62 := by
  unfold State.own at h
  dsimp only at h
  split at h
  next hrange => exact Option.some.inj h ▸ hrange
  next => exact absurd h nofun

/-- With these counts a frame the controller builds is of an allowed size. -/
theorem OutFrame.payload_allowed {f : OutFrame} (hreply : ∀ es, f = .reply es → 1 ≤ es.length ∧ es.length ≤ 12)
    (hbeacon : ∀ b, f = .beacon b → b.roster.length ≤ 12)
    (hpoints : ∀ dst slot ps, f = .report dst (.points slot ps) → ps.length ≤ 12)
    (htopUps : ∀ dst slot es, f = .report dst (.topUps slot es) → es.length ≤ 3)
    (hstatus : ∀ dst r, f = .report dst (.status r) → r.roster.length ≤ 12) :
    f.payload.length ≤ 200 ∧ sizeAllowed f.kind f.payload = true := by
  cases f with
  | reply es =>
    obtain ⟨hlo, hhi⟩ := hreply es rfl
    have hlength : (OutFrame.reply es).payload.length = 1 + 7 * es.length := length_replyPayload es
    exact ⟨by omega, sizeAllowed_reply hlo hhi⟩
  | ask a =>
    cases a with
    | ask c st k => exact ⟨by simp [OutFrame.payload], rfl⟩
    | withdraw st => exact ⟨by simp [OutFrame.payload], rfl⟩
    | leave => exact ⟨by simp [OutFrame.payload], rfl⟩
  | alert a => exact ⟨by simp [OutFrame.payload, Alert.payload], rfl⟩
  | report dst r =>
    obtain ⟨hlo, hhi⟩ := Report.length_payload (r := r) (fun slot ps h => hpoints dst slot ps (by rw [h]))
      (fun slot es h => htopUps dst slot es (by rw [h])) fun q h => hstatus dst q (by rw [h])
    exact ⟨hhi, sizeAllowed_report hlo hhi⟩
  | beacon b =>
    have hcount := hbeacon b rfl
    have hlength : (OutFrame.beacon b).payload.length = 18 + b.roster.length := b.length_payload
    exact ⟨by omega, sizeAllowed_beacon hcount⟩

theorem OutFrame.dst_range {f : OutFrame} (h : ∀ dst r, f = .report dst r → 1 ≤ dst.toNat ∧ dst.toNat ≤ 62) :
    1 ≤ f.dst.toNat ∧ f.dst.toNat ≤ 79 := by
  cases f with
  | report dst r =>
    obtain ⟨hlo, hhi⟩ := h dst r rfl
    exact ⟨hlo, Nat.le_trans hhi (by decide)⟩
  | reply | ask | alert | beacon => exact (by decide : 1 ≤ (63 : Byte).toNat ∧ (63 : Byte).toNat ≤ 79)

/-- Settles O35: the receive checks by `rxFault_frameBytes`, the check by `crc_frameBody_ne`, the sizes by
`OutFrame.payload_allowed`. -/
theorem sentFramesPassTheReceiveChecks : Obligations.SentFramesPassTheReceiveChecks := by
  refine ⟨fun dst src kind payload hdst hdst' hsrc hsrc' hlength =>
      ⟨rxFault_frameBytes kind hdst hdst' hsrc hsrc' hlength, rfl, rfl, rfl,
        burstPayload_frameBytes dst src kind hlength⟩,
    fun dst src kind x y pre post hne _ => crc_frameBody_ne hne dst src kind pre post, fun f n s hsending => ?_,
    fun f n own s hsending hown hreply hbeacon hdst hpoints htopUps hstatus => ?_, fun es b => ⟨rfl, ?_⟩⟩
  · rw [State.wireNow_of_sending hsending]
    cases f with
    | ask a => cases a <;> rfl
    | reply | alert | report | beacon => rfl
  · obtain ⟨hlength, hsize⟩ := OutFrame.payload_allowed hreply hbeacon hpoints htopUps hstatus
    obtain ⟨hdstLo, hdstHi⟩ := OutFrame.dst_range hdst
    obtain ⟨hownLo, hownHi⟩ := State.own_range hown
    have hnumber : (byteOf own).toNat = own := toNat_byteOf (by omega)
    have hwire : s.wireNow = frameBytes f.dst (byteOf own) f.kind f.payload := by
      rw [State.wireNow_of_sending hsending, State.ownNumber, hown]
      rfl
    rw [hwire]
    exact ⟨hlength, hsize, rxFault_frameBytes f.kind hdstLo hdstHi (by omega) (by omega) hlength, rfl, rfl,
      burstPayload_frameBytes f.dst (byteOf own) f.kind hlength⟩
  · have hheld : byteOf (flagBit b.held 0) = if b.held then 1 else 0 := by cases b.held <;> rfl
    have hpayload : (OutFrame.beacon b).payload = b.payload := rfl
    rw [hpayload, Beacon.payload, hheld]
    rfl

end Sys2Proof.Machine
